-- ==== Sys2Proof/Word.lean ====
section
/-! DEFINITION. The units of the part's lines: bytes, 9-bit trunk characters, and their plainest arithmetic. -/

namespace Sys2Proof

/-- Eight bits: a desk-link character, a printer character, a byte of the administration link. -/
abbrev Byte := BitVec 8

/-- A trunk character (R19): bit 8 is the marker bit and bits 7 to 0 are the value. -/
abbrev TrunkChar := BitVec 9

/-- The sum of a list of bytes modulo 256 (R20, R184). -/
def byteSum : List Byte → Byte
  | [] => 0
  | b :: bs => b + byteSum bs

/-- The check character that brings a body to the sum 0 modulo 256 (R182, R184). -/
def checkByte (body : List Byte) : Byte := 0 - byteSum body

/-- One byte holding a number. -/
def byteOf (n : Nat) : Byte := BitVec.ofNat 8 n

/-- A two-byte number, most significant byte first (chapter 11, opening paragraph). -/
def bytes2 (n : Nat) : List Byte := [byteOf (n / 256), byteOf n]

end Sys2Proof
end

