-- ==== Sys2Proof/Syntax.lean ====
section
/-! DEFINITION. The commands of the block: one constructor of `Instr` per row of spec/opcode_table.json. -/

namespace Sys2Proof

/-- The two halves of the cut trunk (chapter 2). -/
inductive Seg where
  | a | b
  deriving DecidableEq, Repr

/-- The far segment. -/
def Seg.other : Seg → Seg
  | .a => .b
  | .b => .a

/-- A trunk station address, 0 to 62 (R1). -/
abbrev Address := Fin 63

/-- A star port number, 0 to 7. -/
abbrev PortNo := Fin 8

/-- The kinds a burst's address character may carry (R20). -/
inductive BurstKind where
  | poll | select | reply
  deriving DecidableEq, Repr

/-- The printer lines read through settling detectors (R110). -/
inductive PrinterLine where
  | psel | ppe | pfltN | pbusy
  deriving DecidableEq, Repr

/-- The 14 event weights, the probe credit and the probe penalty (R130), in the byte order of SET_WEIGHTS (R185). -/
structure Weights where
  stationCheckError : Byte
  stationPollMiss : Byte
  segmentCheckError : Byte
  segmentPollMiss : Byte
  jabber : Byte
  conflict : Byte
  malformed : Byte
  truncated : Byte
  charError : Byte
  frameCheck : Byte
  frameTruncated : Byte
  overrun : Byte
  breakWeight : Byte
  protocol : Byte
  credit : Byte
  penalty : Byte
  deriving DecidableEq, Repr

/-- The commands. A row of the administration link carries `cont`, the continuation flag of its lead byte (R185),
and its argument bytes as they stand on the bus. `quiet` is the number of whole character times for which the line
the row is about has been quiet (R25): the sender's clock, since the table has no row for a character time. -/
inductive Instr where
  /-- RESET_N asserted, or power-up (R181). -/
  | hardReset
  | i2cStart
  | i2cStop
  /-- The 7-bit address and the direction bit (R168). -/
  | addressByte (b : Byte)
  | leadByte (b : Byte)
  | argumentByte (b : Byte)
  | discardByte (b : Byte)
  /-- One byte clocked out; `ack` is the controller's acknowledge (R174). -/
  | readByte (ack : Bool)
  | readStatus (cont : Bool)
  | readEntry (cont : Bool) (source : Byte)
  | writeEntry (cont : Bool) (address location port standIn : Byte)
  | clearEntry (cont : Bool) (address : Byte)
  | setPrinterAddress (cont : Bool) (address : Byte)
  | setQuota (cont : Bool) (source : Byte) (quota : BitVec 16)
  | setTrunkProfile (cont : Bool) (rate sync syncCount deadline fill : Byte) (jabber : BitVec 16) (mode ageLimit : Byte)
  | setPortProfile (cont : Bool) (port rate parity stopBits gap peerReady : Byte)
  | portEnable (cont : Bool) (port : Byte)
  | portStandby (cont : Bool) (port : Byte)
  | readPort (cont : Bool) (port : Byte)
  | setHealthLimits (cont : Bool) (suspect isolate readmit : BitVec 16) (shift decay probe : Byte)
  | setWeights (cont : Bool) (weights : Weights)
  | readHealth (cont : Bool) (selector : Byte)
  | forceIsolate (cont : Bool) (selector : Byte)
  | forceReadmit (cont : Bool) (selector : Byte)
  | setMayIsolate (cont : Bool) (selector flag : Byte)
  | setPrintProfile (cont : Bool) (cable resume formFeed ackTimeout releaseGap idleTimeout : Byte) (lowMark : BitVec 16)
  | printerEnable (cont : Bool)
  | printerDisable (cont : Bool)
  | readPrinter (cont : Bool)
  | listJobs (cont : Bool)
  | readJob (cont : Bool) (id : Byte)
  | holdJob (cont : Bool) (id : Byte)
  | releaseJob (cont : Bool) (id : Byte)
  | cancelJob (cont : Bool) (id : Byte)
  | promoteJob (cont : Bool) (id : Byte)
  | resumePrinter (cont : Bool)
  | setAlerts (cont : Bool) (alerts reports : BitVec 16)
  | clearCauses (cont : Bool) (causes : BitVec 16)
  | readReport (cont : Bool)
  | restart (cont : Bool) (kind : Byte)
  /-- `quiet` is the far segment's quiet time when the address character is taken. -/
  | addressCharacterTaken (seg : Seg) (kind : BurstKind) (station : Address) (quiet : Nat)
  /-- `inside`: the last space bit before the idle run is not a marker bit, the line went idle inside a character. -/
  | burstEnd (seg : Seg) (inside : Bool)
  | jabber (seg : Seg)
  | forwardHeldStart (quiet : Nat)
  | transmitterBurstEnd (seg : Seg)
  | pollMissWindowExpiry (seg : Seg)
  | replyStartPoint (quiet : Nat)
  | replyDeadlineExpiry
  | fillBudgetExhausted
  | minuteTimerExpiry
  /-- `value` as received, the level of the parity bit (ignored under parity NONE) and of the first stop bit. -/
  | portCharacterTaken (port : PortNo) (value : Byte) (parityBit stopBit : Bool)
  /-- The character that completes the frame: its CHECK, or a LEN above 128. -/
  | frameComplete (port : PortNo) (value : Byte) (parityBit stopBit : Bool)
  | frameGapExpiry (port : PortNo)
  | breakRecognized (port : PortNo)
  | breakEnd (port : PortNo)
  | peerReadyAsserted (port : PortNo)
  | peerReadyDeasserted (port : PortNo)
  | detachTimerExpiry (port : PortNo)
  | portFrameSent (port : PortNo)
  | jobIdleTimeout (id : Byte)
  | printerLineChange (line : PrinterLine) (high : Bool)
  | packEdge
  | ackTimerExpiry
  | pgntChange (high : Bool)
  | releaseTimerExpiry
  | decayTimerExpiry
  | probeTimerExpiry
  | probePollStart (quiet : Nat)
  | probePollDeadline
  | probeWindowExpiry
  | secondsCounterTick
  | lineActivityStart (seg : Seg)
  | syncMatch (seg : Seg)
  | trunkCharacterTaken (seg : Seg) (ch : TrunkChar)
  | idleRecognized (seg : Seg)
  | portStartBit (port : PortNo)
  deriving DecidableEq, Repr

end Sys2Proof
end

