-- ==== Sys2Proof/WellFormed.lean ====
section
/-! DEFINITION. Which terms of `Instr` stand for an event that can reach the part. Argument bytes of an administration
command are never ill formed: the command's own rule judges them (R177). -/

namespace Sys2Proof

/-- Job ids are 1 to 255 (R87), and a job idle timeout names a job. Every other operand is well formed by its type. -/
def WellFormed : Instr → Bool
  | .jobIdleTimeout id => id != 0
  | _ => true

end Sys2Proof
end

