-- ==== Sys2Proof/Decode.lean ====
section
/-! DEFINITION. Decoding. No row of spec/opcode_table.json gives bits ("fields" is empty in each and no row has a
pattern): a command reaches the part as an event at its pins, so a word spells none. The command codes of the
administration link (R185) are the business of LEAD_BYTE and ARGUMENT_BYTE (Machine/LinkCommands.lean). -/

namespace Sys2Proof

/-- The command that a word spells by the table's bits: none, for every word, since no row gives bits. -/
def decodeTableWord (_nbits _w : Nat) : Option Instr := none

end Sys2Proof
end

