-- ==== Sys2Proof/Config.lean ====
section
/-! DEFINITION. The free values: what the spec leaves to timing or does not state. They are opaque constants,
so no proof can see them; each is applied to the counter `draws` of State (log entries 5 and 6). -/

namespace Sys2Proof.Config

/-- How many FILL characters transmitter A completes in a millisecond of a fill (R51), or up to a commitment that comes before the
budget is exhausted (R52). The spec fixes it by the bit timing of two lines, which this model leaves out; the model cuts it off at what
the fill budget leaves. -/
opaque fillsSent : Nat → Nat

/-- What the repeater's forwarding buffer of 8 characters (R31) holds after a character that finds it full. The
spec gives a bound under which this does not arise, and no outcome beyond it. -/
opaque overflowedBuffer : Nat → List TrunkChar

end Sys2Proof.Config
end

