-- ==== Sys2Proof/Machine/State.lean ====
section
/-! DEFINITION. The state of the C418, block by block (00_scope.md, section 3), as plain data, and its reset value.
A time is held in milliseconds of the part's 1 ms time base, or in character times where the spec counts those. -/

namespace Sys2Proof.Machine

/-! ### Station Directory (chapter 1) -/

/-- Where an address lives (R1). -/
inductive Location where
  | none | segA | segB
  | port (n : PortNo)
  | printer
  deriving DecidableEq, Repr

inductive Origin where
  | static | learned
  deriving DecidableEq, Repr

/-- The reply policy of an address that cannot be reached (R56, R57). -/
inductive StandIn where
  | silent | offline
  deriving DecidableEq, Repr

/-- The routing and accounting parts of one directory entry (R1). The health part is a view (R3). -/
structure Entry where
  location : Location
  origin : Origin
  standIn : StandIn
  /-- Whole minutes, 0 to 255. -/
  age : Nat
  quota : Nat
  held : Nat
  deriving DecidableEq, Repr

structure Directory where
  entries : Vector Entry 63
  /-- The primary source record (R4). -/
  primaryQuota : Nat
  primaryHeld : Nat
  /-- The learned age limit in minutes, 0 for off (R16). -/
  ageLimit : Nat
  /-- Milliseconds before the minute timer expires (R15). -/
  minuteTimer : Nat
  deriving DecidableEq, Repr

/-! ### Trunk Interface (chapter 2) -/

inductive TrunkRate where
  | k250 | k500 | k1000
  deriving DecidableEq, Repr

inductive ForwardMode where
  | flood | filtered
  deriving DecidableEq, Repr

/-- The trunk profile (R39). -/
structure TrunkProfile where
  rate : TrunkRate
  sync : Byte
  syncCount : Nat
  /-- The response deadline D, in character times. -/
  deadline : Nat
  /-- The fill budget F. -/
  fill : Nat
  /-- The jabber limit J, in character times. -/
  jabber : Nat
  mode : ForwardMode
  deriving DecidableEq, Repr

/-- The states of a segment receiver (R21, R22). -/
inductive RxPhase where
  | hunt | sync1 | inBurst
  deriving DecidableEq, Repr

/-- A segment receiver and the burst it is assembling. The running sum and the character count of R22 are read off
`body`. -/
structure TrunkRx where
  phase : RxPhase
  malformed : Bool
  /-- The burst's address character, once taken. -/
  address : Option (BurstKind × Address)
  /-- The data characters of the body, check included, FILL left out. -/
  body : List Byte
  /-- Whether the last character taken ended with its marker bit at 1, so that its last space bit was inside it
  (R23, test 2). -/
  endsInMark : Bool
  deriving DecidableEq, Repr

/-- What a segment transmitter is sending (R28): nothing, a reply of the Proxy Responder, a forwarded copy or a probe
poll. -/
inductive TrunkTx where
  | idle | reply | copy | probe
  deriving DecidableEq, Repr

/-- A forwarded copy on its way to a segment (R31): held behind a probe poll until `started` (R30). -/
structure Copy where
  kind : BurstKind
  station : Address
  started : Bool
  /-- Sync characters of the far segment still to begin. -/
  syncLeft : Nat
  /-- The forwarding buffer: characters taken on the source and not yet begun, at most 8. -/
  buffer : List TrunkChar
  /-- Whether the source's end has been taken. -/
  sourceEnded : Bool
  deriving DecidableEq, Repr

/-- An armed poll-miss watch (R36): the station, and the length of its window in character times. -/
structure Watch where
  station : Address
  window : Nat
  deriving DecidableEq, Repr

/-- The line state of one segment. -/
structure Segment where
  /-- The profile that the segment has taken up (R40). -/
  profile : TrunkProfile
  /-- A change of profile was written while a forwarded burst was in flight, and the segment has not been at a burst boundary
  since: until it has, neither segment takes the change up (R35). -/
  changeHeld : Bool
  rx : TrunkRx
  /-- Activity of another party on the line (R24, R25): none, or the whole multiples of the jabber limit that the
  activity measure has reached. -/
  activity : Option Nat
  tx : TrunkTx
  /-- The characters begun on TXA or TXB in the present burst; in IDLE, those of the last burst. -/
  line : List TrunkChar
  /-- The forwarded copy bound for this segment. -/
  copy : Option Copy
  watch : Option Watch
  deriving DecidableEq, Repr

structure TrunkInterface where
  /-- The profile last written; a segment that has not taken it up still waits for a burst boundary (R40). -/
  written : TrunkProfile
  segA : Segment
  segB : Segment
  /-- The gate that holds TXB at mark and TXENB inactive (R34). -/
  gateB : Bool
  deriving DecidableEq, Repr

/-! ### Proxy Responder (chapter 3) -/

/-- Where R42 sends a poll or select that the part answers: the location read at the taking. -/
inductive Handling where
  | desk (n : PortNo)
  | printer
  | standIn
  deriving DecidableEq, Repr

inductive Request where
  | poll (code : Byte)
  | select (message : List Byte)
  deriving DecidableEq, Repr

/-- What the reply context holds from the taking on (R43). -/
structure Taking where
  station : Address
  request : Request
  handling : Handling
  standIn : StandIn
  /-- D of the profile segment A had taken up when the poll or select ended, in character times (R44). -/
  deadline : Nat
  deriving DecidableEq, Repr

inductive ReplyCode where
  | data | nil | offline | accept | refuse
  deriving DecidableEq, Repr

/-- The reply context (R43). -/
inductive ReplyContext where
  | idle
  | waiting (t : Taking)
  /-- FILLING, with the count of the FILL characters that have been sent (R51). -/
  | filling (t : Taking) (sent : Nat)
  | sending (t : Taking) (code : ReplyCode) (message : List Byte)
  deriving DecidableEq, Repr

/-! ### Print Engine states, named before their block since notices and reports carry them (chapter 6) -/

inductive StallReason where
  | paper | fault | noResponse | grant
  deriving DecidableEq, Repr

inductive EngineState where
  | disabled | idle | notReady | claiming | running
  | stalled (r : StallReason)
  | gap
  deriving DecidableEq, Repr

/-! ### Star Port Controller (chapter 4) -/

inductive Parity where
  | none | odd | even
  deriving DecidableEq, Repr

/-- The port profile (R63); `rate` is the code of section 11.3, `gap` the frame gap limit in milliseconds. -/
structure PortProfile where
  rate : Fin 8
  parity : Parity
  stopBits : Nat
  gap : Nat
  peerUsed : Bool
  deriving DecidableEq, Repr

inductive PortState where
  | standby | online | detached | stopping | isolated
  deriving DecidableEq, Repr

inductive FramePhase where
  | leadHunt | kind | len | payload | check
  deriving DecidableEq, Repr

/-- The receive context of a port (R69). The count of payload characters and the running sum are read off it. -/
structure PortRx where
  phase : FramePhase
  kind : Byte
  len : Byte
  payload : List Byte
  errorMark : Bool
  deriving DecidableEq, Repr

inductive NakReason where
  | check | length | kind | noAddress | queueFull | printerOff | jobOpen | noJob | tableFull | spoolFull | quota
  deriving DecidableEq, Repr

/-- A response waiting for the desk (R77). -/
inductive Response where
  | ack (kind : Byte)
  | nak (kind : Byte) (reason : NakReason)
  deriving DecidableEq, Repr

/-- The job states that records and notices carry (R186). -/
inductive NoticeState where
  | opened | queued | held | printing | done | cancelled | discarded
  deriving DecidableEq, Repr

/-- A notice waiting for the desk, its contents fixed when it was queued (R80). -/
inductive Notice where
  | linkState (port : PortState) (address : Option Address) (engine : EngineState) (free held : Nat)
  | printState (id : Nat) (state : NoticeState) (position : Nat)
  deriving DecidableEq, Repr

/-- The frame a port transmitter is sending (R78). -/
inductive SentFrame where
  | response (r : Response)
  | notice (n : Notice)
  | deliver (message : List Byte)
  deriving DecidableEq, Repr

inductive PortTx where
  | idle
  | sending (f : SentFrame)
  | held
  deriving DecidableEq, Repr

/-- One port record (R82), with the probe scheduler's marks for the port (R148). -/
structure Port where
  state : PortState
  profile : PortProfile
  rx : PortRx
  /-- The gap timer of the frame in reception: milliseconds left (R71). -/
  gapTimer : Option Nat
  /-- The gap timer is held while a further character arrives (R71). -/
  gapHeld : Bool
  /-- The receive line is in a recognized break (R64). -/
  inBreak : Bool
  /-- The level of SRDYn: true when asserted (R66). -/
  srdy : Bool
  detachTimer : Option Nat
  tx : PortTx
  upstream : List (List Byte)
  /-- The upstream head is SENT (R46). -/
  headSent : Bool
  downstream : List (List Byte)
  responses : List Response
  notices : List Notice
  /-- The port has earned its credit in the present probe interval (R156). -/
  creditMark : Bool
  /-- The line of the isolated port has been in break in the present probe interval (R157). -/
  breakMark : Bool
  deriving DecidableEq, Repr

/-! ### Spool Manager (chapter 5) -/

inductive Source where
  | primary
  | desk (a : Address)
  deriving DecidableEq, Repr

inductive JobState where
  | opened | queued | held | printing
  deriving DecidableEq, Repr

inductive Priority where
  | normal | urgent
  deriving DecidableEq, Repr

/-- A place in the spool memory: a block 0 to 511 and an offset 0 to 63. -/
structure Position where
  block : Fin 512
  offset : Fin 64
  deriving DecidableEq, Repr

/-- One job record (R86). First block, last block, block count and last-block fill are read off `chain` and `count`
(R84). -/
structure Job where
  id : Nat
  source : Source
  state : JobState
  priority : Priority
  copies : Nat
  copiesDone : Nat
  /-- The characters admitted. -/
  count : Nat
  /-- The job's chain of blocks in order: the block table's links along it (R84). -/
  chain : List (Fin 512)
  position : Option Position
  pageMark : Option Position
  /-- Milliseconds before the idle timer expires, while the job is OPEN (R98). -/
  idleTimer : Option Nat
  deriving DecidableEq, Repr

/-- The spool memory: the characters that are not 0x00, by strictly rising address 64 × block + offset. -/
abbrev Memory := List Host.Cell

structure Spool where
  memory : Memory
  /-- The free list in FIFO order (R85). -/
  free : List (Fin 512)
  /-- The job table, in the order of the openings. -/
  jobs : List Job
  /-- The job queue: the ids of the closed jobs from the head (R90). -/
  queue : List Nat
  /-- The last-issued id (R87). -/
  lastId : Nat
  /-- The job idle timeout in seconds (R106). -/
  idleTimeout : Nat
  lowMark : Nat
  deriving DecidableEq, Repr

/-! ### Print Engine (chapter 6) -/

inductive CopyPhase where
  | text | endFF
  deriving DecidableEq, Repr

inductive Handshake where
  | none | wait | ack
  deriving DecidableEq, Repr

/-- The print profile (R111). -/
structure PrintProfile where
  shared : Bool
  resumeChar : Bool
  formFeedAtEnd : Bool
  /-- Seconds. -/
  ackTimeout : Nat
  /-- Tenths of a second. -/
  releaseGap : Nat
  deriving DecidableEq, Repr

structure Engine where
  state : EngineState
  /-- The id of the PRINTING job. -/
  job : Option Nat
  /-- The present job was selected in SHARED mode (R111, R113). -/
  shared : Bool
  phase : CopyPhase
  handshake : Handshake
  /-- Milliseconds left of the ack timer (R116). -/
  ackTimer : Option Nat
  /-- Pending stop (R123), disable (R124) and grant loss (R122). A pending paper or fault condition is the present
  level of its detector while the handshake is in ACK (R119), see `Engine.pendingPaper`. -/
  stopPending : Bool
  disablePending : Bool
  grantLost : Bool
  /-- The detected levels of PSEL, PPE, PFLT_N and PBUSY: true for high (R110). -/
  psel : Bool
  ppe : Bool
  pfltN : Bool
  pbusy : Bool
  /-- While both conditions hold: the fault's detected change was taken before the paper's (R119). -/
  faultFirst : Bool
  /-- The levels of PGNT and PREQ: true for high (R110, R109). -/
  pgnt : Bool
  preq : Bool
  /-- PD0 to PD7. -/
  pd : Byte
  /-- Milliseconds left of the release timer (R114). -/
  releaseTimer : Option Nat
  profile : PrintProfile
  deriving DecidableEq, Repr

/-! ### Health Monitor and probe scheduler (chapters 7 and 8) -/

inductive Health where
  | active | suspect | isolated
  deriving DecidableEq, Repr

/-- A health object (R128). -/
structure HealthObject where
  score : Nat
  state : Health
  mayIsolate : Bool
  limitMark : Bool
  deriving DecidableEq, Repr

/-- The name of a health object. -/
inductive ObjectId where
  | segment (g : Seg)
  | port (n : PortNo)
  | station (a : Address)
  deriving DecidableEq, Repr

inductive ProbeKind where
  | segment | station
  deriving DecidableEq, Repr

/-- The states of a probe exchange under way (R149); the reply window is in character times (R153). -/
inductive ProbePhase where
  | pending | sending
  | awaiting (window : Nat)
  | replyIn
  deriving DecidableEq, Repr

structure Probe where
  phase : ProbePhase
  kind : ProbeKind
  target : Address
  deriving DecidableEq, Repr

structure HealthMonitor where
  segA : HealthObject
  segB : HealthObject
  ports : Vector HealthObject 8
  stations : Vector HealthObject 63
  /-- The thresholds T_s, T_i and T_r. -/
  suspect : Nat
  isolate : Nat
  readmit : Nat
  /-- The decay shift k. -/
  shift : Nat
  /-- In steps of 10 ms. -/
  decayInterval : Nat
  /-- In seconds. -/
  probeInterval : Nat
  weights : Weights
  /-- Milliseconds before the decay timer expires (R132). -/
  decayTimer : Nat
  /-- Milliseconds before the probe timer expires (R148). -/
  probeTimer : Nat
  segmentPointer : Address
  stationPointer : Address
  /-- The probe exchange: none is IDLE. -/
  probe : Option Probe
  jabberMark : Bool
  deriving DecidableEq, Repr

/-! ### Alert Unit (chapter 9) -/

inductive Cause where
  | segmentState | portState | stationState | conflict | moved | printer | jobEnd | spoolLow | reportLost
  deriving DecidableEq, Repr

/-- A health state, or HEALTH_LIMIT (R137). -/
inductive HealthDetail where
  | state (h : Health)
  | limit
  deriving DecidableEq, Repr

/-- How a job ended (R99). -/
inductive Ending where
  | done | empty | cancelled | timeout | discarded
  deriving DecidableEq, Repr

/-- The detail of a report, by its cause (R160). -/
inductive Detail where
  | health (h : HealthDetail)
  | port (p : PortState) (h : Option HealthDetail)
  | segment (g : Seg)
  | aged
  | engine (e : EngineState)
  | ending (e : Ending)
  | free (n : Nat)
  deriving DecidableEq, Repr

structure Report where
  sequence : Byte
  cause : Cause
  subject : Nat
  detail : Detail
  stamp : BitVec 16
  deriving DecidableEq, Repr

/-- Cause sets are masks in which bit n is the cause with code n (R185). ALERT_N is read off the flags and the alert
enables (`State.alertAsserted`, R163). -/
structure AlertUnit where
  flags : BitVec 9
  alerts : BitVec 9
  reports : BitVec 9
  queue : List Report
  nextSequence : Byte
  seconds : BitVec 16
  /-- Milliseconds before the seconds counter's next second (R166). -/
  secondTimer : Nat
  deriving DecidableEq, Repr

/-! ### Administration Link (chapter 10) -/

inductive LinkPhase where
  | idle | lead | args | discard | reading
  deriving DecidableEq, Repr

inductive RestartKind where
  | full | traffic
  deriving DecidableEq, Repr

inductive Status where
  | ok | none | unknownCommand | badValue | inUse | notFound | incomplete | empty
  deriving DecidableEq, Repr

/-- The response buffer (R173). -/
structure ResponseBuffer where
  status : Status
  index : Nat
  result : List Byte
  deriving DecidableEq, Repr

structure AdminLink where
  /-- The present levels of ADDR1 and ADDR0. -/
  straps : BitVec 2
  /-- The 7-bit target address from the last sample of the straps (R168). -/
  target : BitVec 7
  phase : LinkPhase
  /-- The command index (R170). -/
  index : Nat
  /-- The code and continuation flag of the command being gathered. -/
  code : BitVec 7
  cont : Bool
  /-- Argument bytes still to come, and those taken so far in order. -/
  remaining : Nat
  args : List Byte
  readPosition : Nat
  pendingRestart : Option RestartKind
  response : ResponseBuffer
  /-- No byte is taken, and none acknowledged, before the next START: no transaction is under way, its address byte named another
  target (R168), or a hard reset cut it short (R181). -/
  ignoring : Bool
  /-- The controller did not acknowledge a byte: SDA is released for the rest of the transaction (R169). -/
  released : Bool
  /-- The part's acknowledge bit after the last byte it was offered (R168). -/
  acknowledged : Bool
  /-- The last byte the part sent in a read transaction (R174). -/
  sent : Option Byte
  deriving DecidableEq, Repr

/-! ### The whole part -/

/-- The state of the part. `draws` counts the free values taken so far and `pending` is the queue of waiting commands:
both are the model's own fields. -/
structure State where
  sd : Directory
  ti : TrunkInterface
  pr : ReplyContext
  ports : Vector Port 8
  sm : Spool
  pe : Engine
  hm : HealthMonitor
  au : AlertUnit
  al : AdminLink
  draws : Nat
  pending : List Instr
  deriving DecidableEq, Repr

/-- Why the part would stop with a fault. No command of this block stops it: the spec names no condition under which
the part halts, and every spool position is inside the memory by its type. -/
inductive Fault where
  /-- An access outside the 32,768 characters of the spool memory (R84). Raised by no command. Safe. -/
  | absentSpoolAddress
  deriving DecidableEq, Repr

/-- Why a command would be refused by the model. -/
inductive Refusal where
  /-- The command has no meaning yet. Raised by `exec` alone. Safe. -/
  | notModelled (mnemonic : String)
  deriving DecidableEq, Repr

/-! ### Reset values -/

/-- The unused entry with the default quota (R18, R4). -/
def Entry.unused : Entry :=
  { location := .none, origin := .static, standIn := .silent, age := 0, quota := 64, held := 0 }

/-- The defaults of R39. -/
def TrunkProfile.default : TrunkProfile :=
  { rate := .k250, sync := 0x96, syncCount := 2, deadline := 16, fill := 24, jabber := 200, mode := .flood }

/-- A segment receiver in HUNT, as a reset leaves it (R41). The address character, the body and the marks are those of a burst (R22),
and outside one the model holds none of them (DESIGN CHOICE, log entry 36); no record shows them (R21). -/
def TrunkRx.hunting : TrunkRx :=
  { phase := .hunt, malformed := false, address := .none, body := [], endsInMark := false }

/-- A segment after a reset, with the profile it has then (R41). The record of the characters begun is the model's own, and a
reset empties it: which characters of a burst that the reset cuts short had been sent (R53) is not kept (DESIGN CHOICE, log
entry 29). -/
def Segment.atReset (p : TrunkProfile) : Segment :=
  { profile := p, changeHeld := false, rx := .hunting, activity := .none, tx := .idle, line := [], copy := .none, watch := .none }

/-- The defaults of R63. -/
def PortProfile.default : PortProfile :=
  { rate := 3, parity := .none, stopBits := 1, gap := 50, peerUsed := true }

/-- The receive context in LEAD_HUNT: after a reset (R83), and whenever a frame has ended (R69, R71). The spec gives KIND, LEN and the
payload no value outside a frame, nor the error mark; the model fills in 0, 0, an empty payload and a clear mark, which no record
shows (R82) and the LEAD of the next frame clears (DESIGN CHOICE, log entry 36). -/
def PortRx.hunting : PortRx :=
  { phase := .leadHunt, kind := 0, len := 0, payload := [], errorMark := false }

/-- A port after a reset (R83, R158) with its profile and the levels of its pins. -/
def Port.atReset (profile : PortProfile) (srdy inBreak : Bool) : Port :=
  { state := .standby, profile, rx := .hunting, gapTimer := .none, gapHeld := false, inBreak, srdy,
    detachTimer := .none, tx := .idle, upstream := [], headSent := false, downstream := [], responses := [],
    notices := [], creditMark := false, breakMark := false }

/-- The defaults of R111. -/
def PrintProfile.default : PrintProfile :=
  { shared := false, resumeChar := false, formFeedAtEnd := true, ackTimeout := 5, releaseGap := 10 }

/-- The engine after a hard reset, with the present level of PGNT (R127, R110). R127 gives no copy phase: with no copy begun it
holds TEXT (DESIGN CHOICE, log entry 32). -/
def Engine.atReset (pgnt : Bool) : Engine :=
  { state := .disabled, job := .none, shared := false, phase := .text, handshake := .none, ackTimer := .none,
    stopPending := false, disablePending := false, grantLost := false, psel := false, ppe := true, pfltN := false,
    pbusy := true, faultFirst := false, pgnt, preq := false, pd := 0, releaseTimer := .none,
    profile := .default }

/-- The emptied spool (R108) over the characters left in its memory. -/
def Spool.emptied (memory : Memory) (idleTimeout lowMark : Nat) : Spool :=
  { memory, free := List.finRange 512, jobs := [], queue := [], lastId := 0, idleTimeout, lowMark }

/-- A health object at score 0, ACTIVE (R147). -/
def HealthObject.clean (mayIsolate : Bool) : HealthObject :=
  { score := 0, state := .active, mayIsolate, limitMark := false }

/-- The default weights, C and P (R130). -/
def defaultWeights : Weights :=
  { stationCheckError := 64, stationPollMiss := 32, segmentCheckError := 16, segmentPollMiss := 8, jabber := 255,
    conflict := 32, malformed := 16, truncated := 16, charError := 8, frameCheck := 32, frameTruncated := 16,
    overrun := 16, breakWeight := 128, protocol := 16, credit := 128, penalty := 64 }

/-- The Health Monitor after a hard reset (R147, R158). -/
def HealthMonitor.atReset : HealthMonitor :=
  { segA := .clean false, segB := .clean true, ports := Vector.replicate 8 (.clean true),
    stations := Vector.replicate 63 (.clean true), suspect := 240, isolate := 480, readmit := 96, shift := 3,
    decayInterval := 10, probeInterval := 2, weights := defaultWeights, decayTimer := 100, probeTimer := 2000,
    segmentPointer := 0, stationPointer := 0, probe := .none, jabberMark := false }

/-- The directory after a hard reset (R18). -/
def Directory.atReset : Directory :=
  { entries := Vector.replicate 63 .unused, primaryQuota := 256, primaryHeld := 0, ageLimit := 60,
    minuteTimer := 60000 }

/-- The Trunk Interface after a hard reset (R41). -/
def TrunkInterface.atReset : TrunkInterface :=
  { written := .default, segA := .atReset .default, segB := .atReset .default, gateB := false }

/-- The Alert Unit after a hard reset (R167). -/
def AlertUnit.atReset : AlertUnit :=
  { flags := 0, alerts := 0, reports := 0, queue := [], nextSequence := 0, seconds := 0, secondTimer := 1000 }

/-- The link after a hard reset with the straps at the levels given (R181, R168). R181 gives the parse state IDLE and no pending
restart. A transaction under way is abandoned and its next byte is not acknowledged: nothing is taken before the next START. The
fields of R169 that mean nothing in IDLE start at index 0, code 0, continuation false, count 0, no argument bytes and read position
0, and a restart leaves index, code, continuation and read position as they were (DESIGN CHOICE, log entry 26). -/
def AdminLink.atReset (straps : BitVec 2) : AdminLink :=
  { straps, target := 0x4C + straps.setWidth 7, phase := .idle, index := 0, code := 0, cont := false,
    remaining := 0, args := [], readPosition := 0, pendingRestart := .none,
    response := { status := .none, index := 0, result := [] }, ignoring := true, released := false,
    acknowledged := false, sent := .none }

/-- The part right after a hard reset. The input pins that the spec leaves to the outside stand at the levels of log
entry 2: SRDYn deasserted, no break, PGNT low, straps 00; the spool memory reads 0x00 (log entry 1). -/
def State.reset : State :=
  { sd := .atReset, ti := .atReset, pr := .idle,
    ports := Vector.replicate 8 (.atReset .default false false), sm := .emptied [] 30 32, pe := .atReset false,
    hm := .atReset, au := .atReset, al := .atReset 0, draws := 0, pending := [] }

end Sys2Proof.Machine
end

