-- ==== Sys2Proof/Machine/Ops.lean ====
section
/-! DEFINITION. The named operations over the tables of the part: entries, ports, segments, health objects, the spool
memory, and the passing of a millisecond. -/

namespace Sys2Proof.Machine

/-! ### Tables -/

def State.entry (s : State) (a : Address) : Entry := s.sd.entries[a]

def State.setEntry (s : State) (a : Address) (e : Entry) : State :=
  { s with sd := { s.sd with entries := s.sd.entries.set a e } }

def State.port (s : State) (n : PortNo) : Port := s.ports[n]

def State.setPort (s : State) (n : PortNo) (p : Port) : State :=
  { s with ports := s.ports.set n p }

def State.seg (s : State) : Seg → Segment
  | .a => s.ti.segA
  | .b => s.ti.segB

def State.setSeg (s : State) (g : Seg) (x : Segment) : State :=
  match g with
  | .a => { s with ti := { s.ti with segA := x } }
  | .b => { s with ti := { s.ti with segB := x } }

def State.object (s : State) : ObjectId → HealthObject
  | .segment .a => s.hm.segA
  | .segment .b => s.hm.segB
  | .port n => s.hm.ports[n]
  | .station a => s.hm.stations[a]

def State.setObject (s : State) (o : ObjectId) (h : HealthObject) : State :=
  match o with
  | .segment .a => { s with hm := { s.hm with segA := h } }
  | .segment .b => { s with hm := { s.hm with segB := h } }
  | .port n => { s with hm := { s.hm with ports := s.hm.ports.set n h } }
  | .station a => { s with hm := { s.hm with stations := s.hm.stations.set a h } }

/-- The fixed order of the health objects (R128). -/
def allObjects : List ObjectId :=
  [.segment .a, .segment .b] ++ (List.finRange 8).map .port ++ (List.finRange 63).map .station

/-- A segment as a location. -/
def segLocation : Seg → Location
  | .a => .segA
  | .b => .segB

/-- The mapped address of a star port: the one address whose entry has location PORT with its number (R7). -/
def State.mappedAddress (s : State) (n : PortNo) : Option Address :=
  (List.finRange 63).find? fun a => (s.entry a).location == .port n

/-- The address with location PRINTER, if any (R11). -/
def State.printerAddress (s : State) : Option Address :=
  (List.finRange 63).find? fun a => (s.entry a).location == .printer

/-- The health object that an entry shows (R3). -/
def State.shownObject (s : State) (a : Address) : ObjectId :=
  match (s.entry a).location with
  | .port n => .port n
  | _ => .station a

/-- The health state that an entry shows is ISOLATED (R3, R32). -/
def State.shownIsolated (s : State) (a : Address) : Bool :=
  (s.object (s.shownObject a)).state == .isolated

/-- Segment B is ISOLATED. -/
def State.segBIsolated (s : State) : Bool := s.hm.segB.state == .isolated

/-- The effective may-isolate of an object (R128). -/
def State.effectiveMayIsolate (s : State) : ObjectId → Bool
  | .segment .a => false
  | .station a => (s.object (.station a)).mayIsolate && (s.entry a).location != .segA
  | o => (s.object o).mayIsolate

/-- The quota and held count of a source (R4). -/
def State.quotaOf (s : State) : Source → Nat
  | .primary => s.sd.primaryQuota
  | .desk a => (s.entry a).quota

def State.heldOf (s : State) : Source → Nat
  | .primary => s.sd.primaryHeld
  | .desk a => (s.entry a).held

def State.setHeld (s : State) (src : Source) (n : Nat) : State :=
  match src with
  | .primary => { s with sd := { s.sd with primaryHeld := n } }
  | .desk a => s.setEntry a { s.entry a with held := n }

/-- A change of the engine record. -/
def State.mapPe (s : State) (f : Engine → Engine) : State := { s with pe := f s.pe }

/-- A change of the administration link's record. -/
def State.mapAl (s : State) (f : AdminLink → AdminLink) : State := { s with al := f s.al }

/-! ### The spool memory (R84) -/

/-- What an address that no entry lists reads as: 0x00 (log entry 1). -/
def Memory.blank : Byte := 0

/-- The canonical form: addresses strictly rising, and no entry equal to what an unlisted address reads as. -/
def Memory.wf : Memory → Bool
  | [] => true
  | [(_, v)] => v != Memory.blank
  | (k, v) :: (k', v') :: m => v != Memory.blank && decide (k < k') && Memory.wf ((k', v') :: m)

def Memory.read : Memory → Nat → Byte
  | [], _ => Memory.blank
  | (k, v) :: m, a => if k = a then v else Memory.read m a

/-- Writing the value that an unlisted address reads as removes the entry. -/
def Memory.write : Memory → Nat → Byte → Memory
  | [], a, b => if b = Memory.blank then [] else [(a, b)]
  | (k, v) :: m, a, b =>
    if a < k then (if b = Memory.blank then (k, v) :: m else (a, b) :: (k, v) :: m)
    else if a = k then (if b = Memory.blank then m else (k, b) :: m)
    else (k, v) :: Memory.write m a b

/-- The address of a place in the spool memory. -/
def Position.address (p : Position) : Nat := 64 * p.block.val + p.offset.val

/-- The address of the character with the given index in a text along a chain (R84). -/
def chainAddress (chain : List (Fin 512)) (index : Nat) : Nat :=
  64 * (match chain[index / 64]? with | some b => b.val | none => 0) + index % 64

/-- The characters of a text, written in order from an index of its chain on (R91). -/
def Memory.writeText (chain : List (Fin 512)) : Memory → Nat → List Byte → Memory
  | m, _, [] => m
  | m, i, c :: cs => Memory.writeText chain (m.write (chainAddress chain i) c) (i + 1) cs

/-! ### The passing of time -/

def tickTimer : Option Nat → Option Nat
  | some t => some (t - 1)
  | none => none

def Port.tick (p : Port) : Port :=
  { p with gapTimer := if p.gapHeld then p.gapTimer else tickTimer p.gapTimer, detachTimer := tickTimer p.detachTimer }

/-- While the context is FILLING, transmitter A sends FILL characters, and the context counts them (R51). How many of them complete in
a millisecond is a free value; the F-th is not among them, since its end is an event of its own, FILL_BUDGET_EXHAUSTED (R52; log
entry 5). -/
def State.sendFills (s : State) : State :=
  match s.pr with
  | .filling t sent =>
    let x := s.ti.segA
    let more := min (Config.fillsSent s.draws) (x.profile.fill - 1 - sent)
    { s.setSeg .a { x with line := x.line ++ List.replicate more 0x1FE } with
      pr := .filling t (sent + more), draws := s.draws + 1 }
  | _ => s

/-- One millisecond of the time base passes: every running timer holds one millisecond less, down to 0, where it is
due, and a fill under way goes on. The expiry itself is a command of the table (log entry 3). -/
def State.tick (s : State) : State :=
  { s.sendFills with
    sd := { s.sd with minuteTimer := s.sd.minuteTimer - 1 }
    ports := Vector.ofFn fun n => (s.port n).tick
    sm := { s.sm with jobs := s.sm.jobs.map fun j => { j with idleTimer := tickTimer j.idleTimer } }
    pe := { s.pe with ackTimer := tickTimer s.pe.ackTimer, releaseTimer := tickTimer s.pe.releaseTimer }
    hm := { s.hm with decayTimer := s.hm.decayTimer - 1, probeTimer := s.hm.probeTimer - 1 }
    au := { s.au with secondTimer := s.au.secondTimer - 1 } }

end Sys2Proof.Machine
end

