-- ==== Sys2Proof/Machine/Flags.lean ====
section
/-! DEFINITION. The cause flags, the report queue and ALERT_N (chapter 9). -/

namespace Sys2Proof.Machine

/-- The cause codes of R186, which are the bits of a cause set. -/
def Cause.code : Cause → Nat
  | .segmentState => 0
  | .portState => 1
  | .stationState => 2
  | .conflict => 3
  | .moved => 4
  | .printer => 5
  | .jobEnd => 6
  | .spoolLow => 7
  | .reportLost => 8

/-- A cause set naming one cause (R185). -/
def Cause.bit (c : Cause) : BitVec 9 := 1#9 <<< c.code

/-- ALERT_N is asserted while a latched flag has its alert enable set (R163). -/
def State.alertAsserted (s : State) : Bool := s.au.flags &&& s.au.alerts != 0

/-- The steps of R161, in their order: the record is stored or lost, or not made, and the cause's flag is latched. -/
def AlertUnit.take (u : AlertUnit) (c : Cause) (subject : Nat) (d : Detail) : AlertUnit :=
  if u.reports &&& c.bit = 0 then
    { u with flags := u.flags ||| c.bit }
  else if u.queue.length < 16 then
    { u with
      flags := u.flags ||| c.bit
      queue := u.queue ++ [⟨u.nextSequence, c, subject, d, u.seconds⟩]
      nextSequence := u.nextSequence + 1 }
  else
    { u with flags := u.flags ||| Cause.reportLost.bit ||| c.bit }

/-- An occurrence is handed to the Alert Unit (R161). -/
def State.raise (s : State) (c : Cause) (subject : Nat) (d : Detail) : State :=
  { s with au := s.au.take c subject d }

end Sys2Proof.Machine
end

