-- ==== Sys2Proof/Machine/Operands.lean ====
section
/-! DEFINITION. The operand forms: what the argument bytes of a command name (R185), and what the bits of a received
character say (R22, R62, R182). -/

namespace Sys2Proof.Machine

/-! ### Argument bytes -/

/-- An address 0 to 62. -/
def addressOf (b : Byte) : Option Address :=
  if h : b.toNat < 63 then some ⟨b.toNat, h⟩ else none

/-- A source byte: an address, or 0x40 for PRIMARY. -/
def sourceOf (b : Byte) : Option Source :=
  if b = 0x40 then some .primary else (addressOf b).map .desk

def portOf (b : Byte) : Option PortNo :=
  if h : b.toNat < 8 then some ⟨b.toNat, h⟩ else none

def flagOf (b : Byte) : Option Bool :=
  if b = 0 then some false else if b = 1 then some true else none

def standInOf (b : Byte) : Option StandIn :=
  if b = 0 then some .silent else if b = 1 then some .offline else none

/-- A location that WRITE_ENTRY may write; the port number is judged only with location PORT (R185). -/
def locationOf (location port : Byte) : Option Location :=
  if location = 0 then some .none
  else if location = 1 then some .segA
  else if location = 2 then some .segB
  else if location = 3 then (portOf port).map .port
  else none

/-- An object selector: 0x00, 0x01, 0x10 to 0x17, 0x40 to 0x7E. -/
def selectorOf (b : Byte) : Option ObjectId :=
  if b = 0x00 then some (.segment .a)
  else if b = 0x01 then some (.segment .b)
  else if 0x10 ≤ b.toNat ∧ b.toNat ≤ 0x17 then (portOf (b - 0x10)).map .port
  else if 0x40 ≤ b.toNat then (addressOf (b - 0x40)).map .station
  else none

/-- A cause set: bits 9 to 15 name no cause. -/
def causesOf (m : BitVec 16) : Option (BitVec 9) :=
  if m.toNat < 512 then some (m.setWidth 9) else none

def rateOf (b : Byte) : Option TrunkRate :=
  if b = 0 then some .k250 else if b = 1 then some .k500 else if b = 2 then some .k1000 else none

def modeOf (b : Byte) : Option ForwardMode :=
  if b = 0 then some .flood else if b = 1 then some .filtered else none

def parityOf (b : Byte) : Option Parity :=
  if b = 0 then some .none else if b = 1 then some .odd else if b = 2 then some .even else none

def restartOf (b : Byte) : Option RestartKind :=
  if b = 1 then some .full else if b = 2 then some .traffic else none

/-- A number whose value must lie in a range. -/
def inRange (lo hi n : Nat) : Option Nat := if lo ≤ n ∧ n ≤ hi then some n else none

/-- The trunk profile that nine argument bytes name, if each is in its range (R39). -/
def trunkProfileOf (rate sync syncCount deadline fill : Byte) (jabber : BitVec 16) (mode : Byte) :
    Option TrunkProfile := do
  let rate ← rateOf rate
  let syncCount ← inRange 1 2 syncCount.toNat
  let deadline ← inRange 4 64 deadline.toNat
  let fill ← inRange 0 63 fill.toNat
  let jabber ← inRange 200 1023 jabber.toNat
  let mode ← modeOf mode
  pure { rate, sync, syncCount, deadline, fill, jabber, mode }

/-- The port profile that five argument bytes name, if each is in its range (R63). -/
def portProfileOf (rate parity stopBits gap peerReady : Byte) : Option PortProfile := do
  let rate ← portOf rate
  let parity ← parityOf parity
  let stopBits ← inRange 1 2 stopBits.toNat
  let gap ← inRange 5 255 gap.toNat
  let ignored ← flagOf peerReady
  pure { rate, parity, stopBits, gap, peerUsed := !ignored }

/-- The print profile that five argument bytes name, if each is in its range (R111). -/
def printProfileOf (cable resume formFeed ackTimeout releaseGap : Byte) : Option PrintProfile := do
  let shared ← flagOf cable
  let resumeChar ← flagOf resume
  let formFeedAtEnd ← flagOf formFeed
  let ackTimeout ← inRange 1 60 ackTimeout.toNat
  let releaseGap ← inRange 1 100 releaseGap.toNat
  pure { shared, resumeChar, formFeedAtEnd, ackTimeout, releaseGap }

/-- Two argument bytes as a number, most significant byte first. -/
def word16 (hi lo : Byte) : BitVec 16 := hi ++ lo

/-! ### Received characters -/

/-- FILL: value 0xFE with marker 1 (R182). -/
def fillChar : TrunkChar := 0x1FE

/-- A data character: marker 0 (R19). -/
def dataChar (b : Byte) : TrunkChar := b.setWidth 9

/-- The marker bit of a character (R19). -/
def marker (ch : TrunkChar) : Bool := ch.getLsbD 8

/-- The eight value bits of a character (R19). -/
def charValue (ch : TrunkChar) : Byte := ch.setWidth 8

def kindCode : BurstKind → Nat
  | .poll => 0
  | .select => 1
  | .reply => 2

/-- The address character of a kind and a station (R182). -/
def addressChar (k : BurstKind) (a : Address) : TrunkChar := BitVec.ofNat 9 (256 + 64 * kindCode k + a.val)

/-- A character that may be taken as a burst's address character: marker 1, kind POLL, SELECT or REPLY, station field 0
to 62 (R22). -/
def isBurstAddress (ch : TrunkChar) : Bool :=
  marker ch && (charValue ch).toNat / 64 != 3 && (charValue ch).toNat % 64 != 63

/-- Whether the number of 1s among the eight data bits is odd. -/
def oddOnes (b : Byte) : Bool :=
  (List.range 8).foldl (fun acc i => acc ^^ b.getLsbD i) false

/-- The parity bit disagrees with the profile's parity (R64, R184). -/
def parityError (p : Parity) (value : Byte) (parityBit : Bool) : Bool :=
  match p with
  | .none => false
  | .odd => !(oddOnes value ^^ parityBit)
  | .even => oddOnes value ^^ parityBit

/-- A character is taken with an error: parity, or the first stop bit sampled at space (R64). -/
def characterError (p : Parity) (value : Byte) (parityBit stopBit : Bool) : Bool :=
  parityError p value parityBit || !stopBit

end Sys2Proof.Machine
end

