-- ==== Sys2Proof/Machine/Codes.lean ====
section
/-! DEFINITION. The codes of R183 to R186, and the frames and bursts built from them. -/

namespace Sys2Proof.Machine

def boolCode (b : Bool) : Byte := if b then 1 else 0

/-- "none" in a one-byte field (chapter 11, opening paragraph). -/
def noneByte : Byte := 0xFF

def Location.code : Location → Byte
  | .none => 0
  | .segA => 1
  | .segB => 2
  | .port _ => 3
  | .printer => 4

/-- The port number of an entry record: 0 when the location is not PORT (R17). -/
def Location.portCode : Location → Byte
  | .port n => byteOf n.val
  | _ => 0

def Origin.code : Origin → Byte
  | .static => 0
  | .learned => 1

def StandIn.code : StandIn → Byte
  | .silent => 0
  | .offline => 1

def Health.code : Health → Byte
  | .active => 0
  | .suspect => 1
  | .isolated => 2

def HealthDetail.code : HealthDetail → Byte
  | .state h => h.code
  | .limit => 3

def PortState.code : PortState → Byte
  | .standby => 0
  | .online => 1
  | .detached => 2
  | .stopping => 3
  | .isolated => 4

def EngineState.code : EngineState → Byte
  | .disabled => 0
  | .idle => 1
  | .notReady => 2
  | .claiming => 3
  | .running => 4
  | .stalled _ => 5
  | .gap => 6

def StallReason.code : StallReason → Byte
  | .paper => 1
  | .fault => 2
  | .noResponse => 3
  | .grant => 4

/-- The stall reason of an engine state, 0 for none. -/
def EngineState.reasonCode : EngineState → Byte
  | .stalled r => r.code
  | _ => 0

def JobState.code : JobState → Byte
  | .opened => 0
  | .queued => 1
  | .held => 2
  | .printing => 3

def NoticeState.code : NoticeState → Byte
  | .opened => 0
  | .queued => 1
  | .held => 2
  | .printing => 3
  | .done => 4
  | .cancelled => 5
  | .discarded => 6

def Priority.code : Priority → Byte
  | .normal => 0
  | .urgent => 1

def CopyPhase.code : CopyPhase → Byte
  | .text => 0
  | .endFF => 1

def Handshake.code : Handshake → Byte
  | .none => 0
  | .wait => 1
  | .ack => 2

def Ending.code : Ending → Byte
  | .done => 0
  | .empty => 1
  | .cancelled => 2
  | .timeout => 3
  | .discarded => 4

def Parity.code : Parity → Byte
  | .none => 0
  | .odd => 1
  | .even => 2

def PortTx.code : PortTx → Byte
  | .idle => 0
  | .sending _ => 1
  | .held => 2

def Status.code : Status → Byte
  | .ok => 0
  | .none => 1
  | .unknownCommand => 2
  | .badValue => 3
  | .inUse => 4
  | .notFound => 5
  | .incomplete => 6
  | .empty => 7

def NakReason.code : NakReason → Byte
  | .check => 0x01
  | .length => 0x02
  | .kind => 0x03
  | .noAddress => 0x04
  | .queueFull => 0x05
  | .printerOff => 0x06
  | .jobOpen => 0x07
  | .noJob => 0x08
  | .tableFull => 0x09
  | .spoolFull => 0x0A
  | .quota => 0x0B

def Source.code : Source → Byte
  | .primary => 0x40
  | .desk a => byteOf a.val

def ObjectId.code : ObjectId → Byte
  | .segment .a => 0x00
  | .segment .b => 0x01
  | .port n => byteOf (0x10 + n.val)
  | .station a => byteOf (0x40 + a.val)

/-! ### The trunk (R182, R183) -/

def pollNext : Byte := 0x00
def pollStatus : Byte := 0x01
def pollRepeat : Byte := 0x02
def printLast : Byte := 0x10
def printAbort : Byte := 0x18

def ReplyCode.code : ReplyCode → Byte
  | .data => 0x01
  | .nil => 0x02
  | .offline => 0x03
  | .accept => 0x04
  | .refuse => 0x05

/-- The sync characters that begin a burst (R20). -/
def syncChars (p : TrunkProfile) : List TrunkChar := List.replicate p.syncCount (dataChar p.sync)

/-- The body of a burst that the part builds: its data characters and the check (R182). -/
def burstBody (data : List Byte) : List TrunkChar := (data ++ [checkByte data]).map dataChar

/-- The beginning of a reply burst: sync characters and REPLY(s) (R45). -/
def replyHead (p : TrunkProfile) (a : Address) : List TrunkChar := syncChars p ++ [addressChar .reply a]

/-- What follows the address character and the fill of a reply: code, message and check (R45). -/
def replyTail (c : ReplyCode) (message : List Byte) : List TrunkChar := burstBody (c.code :: message)

/-- A probe poll (R149). -/
def probeBurst (p : TrunkProfile) (a : Address) : List TrunkChar :=
  syncChars p ++ addressChar .poll a :: burstBody [pollStatus]

/-! ### The desk link (R184) -/

def frameLead : Byte := 0xA5
def kindMsg : Byte := 0x01
def kindPrintOpen : Byte := 0x02
def kindPrintData : Byte := 0x03
def kindPrintClose : Byte := 0x04
def kindPrintCancel : Byte := 0x05
def kindQuery : Byte := 0x06
def kindAck : Byte := 0x81
def kindNak : Byte := 0x82
def kindDeliver : Byte := 0x83
def kindPrintState : Byte := 0x84
def kindLinkState : Byte := 0x85

/-- A frame of the desk link: LEAD, KIND, LEN, payload, CHECK. -/
def deskFrame (kind : Byte) (payload : List Byte) : List Byte :=
  let body := kind :: byteOf payload.length :: payload
  frameLead :: body ++ [checkByte body]

def Response.bytes : Response → List Byte
  | .ack k => deskFrame kindAck [k]
  | .nak k r => deskFrame kindNak [k, r.code]

/-- The payload of a notice. -/
def Notice.payload : Notice → List Byte
  | .linkState p a e free held =>
    [p.code, match a with | some a => byteOf a.val | none => noneByte, e.code] ++ bytes2 free ++ [byteOf held]
  | .printState id st pos => [byteOf id, st.code, byteOf pos]

def Notice.bytes : Notice → List Byte
  | .linkState p a e free held => deskFrame kindLinkState (Notice.linkState p a e free held).payload
  | .printState id st pos => deskFrame kindPrintState (Notice.printState id st pos).payload

/-- The characters that a port transmitter sends for a frame. -/
def SentFrame.bytes : SentFrame → List Byte
  | .response r => r.bytes
  | .notice n => n.bytes
  | .deliver m => deskFrame kindDeliver m

/-! ### Reports (R186) -/

/-- The two detail bytes of a report. -/
def Detail.bytes : Detail → List Byte
  | .health h => [0, h.code]
  | .port p h => [p.code, match h with | some h => h.code | none => noneByte]
  | .segment .a => [0, Location.segA.code]
  | .segment .b => [0, Location.segB.code]
  | .aged => [0, 0x10]
  | .engine e => [e.code, e.reasonCode]
  | .ending e => [0, e.code]
  | .free n => bytes2 n

def Report.bytes (r : Report) : List Byte :=
  [r.sequence, byteOf r.cause.code, byteOf r.subject] ++ r.detail.bytes ++ bytes2 r.stamp.toNat

/-- The subject of a segment's report. -/
def segSubject : Seg → Nat
  | .a => 0
  | .b => 1

end Sys2Proof.Machine
end

