-- ==== Sys2Proof/Machine/Desk.lean ====
section
/-! DEFINITION. The four lists of a port and its transmitter (section 4.5). -/

namespace Sys2Proof.Machine

/-- The transmitter holds while peer-ready is USED and SRDYn is deasserted (R78). -/
def Port.mustHold (p : Port) : Bool := p.profile.peerUsed && !p.srdy

/-- The state of a transmitter that has nothing to send: HELD or IDLE (R78). -/
def Port.restTx (p : Port) : PortTx := if p.mustHold then .held else .idle

/-- A port in which the transmitter may begin a frame: not gated, not stopping, not quiet (R67, R68, R78). -/
def PortState.mayBegin : PortState → Bool
  | .online | .detached => true
  | .standby | .stopping | .isolated => false

/-- The transmitter's choice of its next frame: a response, then a notice, then, ONLINE, the downstream head (R78). -/
def Port.chooseFrame (p : Port) : Port :=
  if p.tx = .idle ∧ p.state.mayBegin = true then
    match p.responses, p.notices, p.downstream with
    | r :: rs, _, _ => { p with tx := .sending (.response r), responses := rs }
    | [], n :: ns, _ => { p with tx := .sending (.notice n), notices := ns }
    | [], [], m :: _ => if p.state = .online then { p with tx := .sending (.deliver m) } else p
    | [], [], [] => p
  else p

def State.mapPort (s : State) (n : PortNo) (f : Port → Port) : State := s.setPort n (f (s.port n))

/-- A response joins the list in the event of its frame's verdict (R77). -/
def State.respond (s : State) (n : PortNo) (r : Response) : State :=
  s.mapPort n fun p => { p with responses := p.responses ++ [r] }.chooseFrame

/-- A notice joins a list that holds at most four, the oldest making way (R77). -/
def Port.queueNotice (p : Port) (x : Notice) : Port :=
  { p with notices := (if p.notices.length < 4 then p.notices else p.notices.drop 1) ++ [x] }.chooseFrame

/-- A notice raised for a port that is not ONLINE is not queued (R77). -/
def State.notify (s : State) (n : PortNo) (x : Notice) : State :=
  if (s.port n).state = .online then s.mapPort n (·.queueNotice x) else s

/-- The LINK_STATE notice of a port as it stands (R80). -/
def State.linkState (s : State) (n : PortNo) : Notice :=
  let a := s.mappedAddress n
  .linkState (s.port n).state a s.pe.state s.sm.free.length
    (match a with | some a => min 255 (s.entry a).held | none => 0)

def State.notifyLink (s : State) (n : PortNo) : State := s.notify n (s.linkState n)

/-- A PRINT_STATE notice goes to the port mapped to the job's source at the moment it is raised (R80); a job of
PRIMARY raises none (R97). -/
def State.notifyJob (s : State) (src : Source) (id : Nat) (st : NoticeState) (position : Nat) : State :=
  match src with
  | .primary => s
  | .desk a =>
    match (s.entry a).location with
    | .port n => s.notify n (.printState id st position)
    | _ => s

/-- The four lists are emptied (R68, R81). -/
def Port.flush (p : Port) : Port :=
  { p with upstream := [], headSent := false, downstream := [], responses := [], notices := [] }

/-- The Star Port Controller's own report of a port's state (R65). -/
def State.reportPort (s : State) (n : PortNo) : State :=
  s.raise .portState n.val (.port (s.port n).state none)

end Sys2Proof.Machine
end

