-- ==== Sys2Proof/Machine/Spool.lean ====
section
/-! DEFINITION. The Spool Manager: the job table, the job queue, admission and removal (chapter 5). What a submission
or a command does with the engine stands in Engine.lean and Submit.lean. -/

namespace Sys2Proof.Machine

/-! ### Views of a job record (R84, R86) -/

def Job.blocks (j : Job) : Nat := j.chain.length

/-- The characters in the last block: 0 for a job with none (R84). -/
def Job.lastFill (j : Job) : Nat := if j.count = 0 then 0 else (j.count - 1) % 64 + 1

/-- The place of the character with the given index in the job's text (R84). -/
def Job.place (j : Job) (index : Nat) : Option Position :=
  (j.chain[index / 64]?).map fun b => ⟨b, ⟨index % 64, Nat.mod_lt _ (by decide)⟩⟩

/-- The first character of the text. -/
def Job.start (j : Job) : Option Position := j.place 0

/-- The last character of the text: at the job's last block, at the offset one below the last-block fill (R117). -/
def Job.lastPlace (j : Job) : Option Position := if j.count = 0 then none else j.place (j.count - 1)

/-- The block that follows a block in a chain: its link in the block table (R84). -/
def nextInChain : List (Fin 512) → Fin 512 → Option (Fin 512)
  | a :: b :: rest, x => if a = x then some b else nextInChain (b :: rest) x
  | _, _ => none

/-- The place that follows a place of the text (R117). -/
def Job.after (j : Job) (p : Position) : Option Position :=
  if h : p.offset.val + 1 < 64 then some ⟨p.block, ⟨p.offset.val + 1, h⟩⟩
  else (nextInChain j.chain p.block).map fun b => ⟨b, 0⟩

/-! ### The table and the queue -/

def State.job? (s : State) (id : Nat) : Option Job := s.sm.jobs.find? fun j => j.id == id

/-- A source's OPEN job: at most one (R88). -/
def State.openJob? (s : State) (src : Source) : Option Job :=
  s.sm.jobs.find? fun j => j.state == .opened && j.source == src

def State.mapJob (s : State) (id : Nat) (f : Job → Job) : State :=
  { s with sm := { s.sm with jobs := s.sm.jobs.map fun j => if j.id = id then f j else j } }

/-- A job's queue position: its place counted from the head, 0 for a job that is not in the queue (R90). -/
def State.queuePosition (s : State) (id : Nat) : Nat :=
  match s.sm.queue.idxOf? id with
  | some i => i + 1
  | none => 0

/-- The first id after the last-issued one that no record holds (R87). -/
def State.freshId (s : State) : Nat :=
  (((List.range 255).map fun k => (s.sm.lastId + k) % 255 + 1).find? fun id => (s.job? id).isNone).getD 0

/-- The table has room for another record of the source (R88). -/
def State.tableRoom (s : State) (src : Source) : Bool :=
  decide (s.sm.jobs.length < 16) && decide ((s.sm.jobs.filter fun j => j.source == src).length < 4)

/-- The number of ids from the head of a queue up to and with its last URGENT job. -/
def lastUrgent (urgent : Nat → Bool) : List Nat → Nat
  | [] => 0
  | q :: qs => if lastUrgent urgent qs = 0 then (if urgent q then 1 else 0) else lastUrgent urgent qs + 1

/-- The place a job of a priority takes in the queue when it closes or is promoted (R90, R104). -/
def placeInQueue (urgent : Nat → Bool) (q : List Nat) (id : Nat) : Priority → List Nat
  | .normal => q ++ [id]
  | .urgent => q.take (lastUrgent urgent q) ++ id :: q.drop (lastUrgent urgent q)

def State.isUrgent (s : State) (id : Nat) : Bool :=
  match s.job? id with
  | some j => j.priority == .urgent
  | none => false

/-! ### Admission (R91) -/

/-- New blocks that a text of n characters needs behind a job of c characters. -/
def blocksNeeded (c n : Nat) : Nat := (n - (64 - c % 64) % 64 + 63) / 64

/-- Why a text is not admitted. -/
inductive Refused where
  | quota | spoolFull
  deriving DecidableEq, Repr

/-- The two tests of R91, the quota test first. -/
def State.admission (s : State) (src : Source) (c n : Nat) : Option Refused :=
  if s.quotaOf src < s.heldOf src + blocksNeeded c n then some .quota
  else if s.sm.free.length < blocksNeeded c n then some .spoolFull
  else none

/-- SPOOL_LOW is raised at an admission that takes the free count from at or above the low mark to below it (R106). -/
def State.raiseLow (s : State) (before : Nat) : State :=
  if s.sm.lowMark ≤ before ∧ s.sm.free.length < s.sm.lowMark then
    s.raise .spoolLow 0 (.free s.sm.free.length)
  else s

/-- The text of an admitted submission joins its job (R91, R92, R98). -/
def State.admitText (s : State) (j : Job) (text : List Byte) : State :=
  let need := blocksNeeded j.count text.length
  let chain := j.chain ++ s.sm.free.take need
  let s1 : State := { s with sm := { s.sm with
    memory := s.sm.memory.writeText chain j.count text
    free := s.sm.free.drop need } }
  let s2 := s1.mapJob j.id fun k =>
    { k with chain, count := j.count + text.length, idleTimer := some (1000 * s.sm.idleTimeout) }
  (s2.setHeld j.source (s.heldOf j.source + need)).raiseLow s.sm.free.length

/-- A record is created by the opening of a job (R93, R97). -/
def State.openJob (s : State) (src : Source) (copies : Nat) (p : Priority) : State :=
  let id := s.freshId
  let j : Job := { id, source := src, state := .opened, priority := p, copies, copiesDone := 0, count := 0,
                   chain := [], position := none, pageMark := none, idleTimer := some (1000 * s.sm.idleTimeout) }
  ({ s with sm := { s.sm with jobs := s.sm.jobs ++ [j], lastId := id } }).notifyJob src id .opened 0

/-! ### Removal (R99) -/

/-- The state that a removal's notice carries (R100). -/
def Ending.notice : Ending → NoticeState
  | .done => .done
  | .cancelled => .cancelled
  | .empty | .timeout | .discarded => .discarded

/-- A job leaves the table, other than by a reset (R99). -/
def State.removeJob (s : State) (j : Job) (e : Ending) : State :=
  let s1 : State := { s with sm := { s.sm with
    free := s.sm.free ++ j.chain
    jobs := s.sm.jobs.filter fun k => k.id != j.id
    queue := s.sm.queue.filter fun i => i != j.id } }
  ((s1.setHeld j.source (s.heldOf j.source - j.blocks)).raise .jobEnd j.id (.ending e)).notifyJob
    j.source j.id e.notice 0

/-- The discard of the OPEN job of a port's mapped address (R101). -/
def State.discardOpen (s : State) (n : PortNo) : State :=
  match s.mappedAddress n with
  | none => s
  | some a =>
    match s.openJob? (.desk a) with
    | none => s
    | some j => s.removeJob j .discarded

/-- An OPEN job with text becomes QUEUED in its place in the job queue (R95, R90). -/
def State.enqueue (s : State) (j : Job) : State :=
  let s1 := s.mapJob j.id fun k => { k with state := .queued, idleTimer := none }
  let s2 : State := { s1 with sm := { s1.sm with
    queue := placeInQueue s1.isUrgent s1.sm.queue j.id j.priority } }
  s2.notifyJob j.source j.id .queued (s2.queuePosition j.id)

end Sys2Proof.Machine
end

