-- ==== Sys2Proof/Machine/Engine.lean ====
section
/-! DEFINITION. The Print Engine: selection, claim, the character handshake, stalls, and the end of a job (chapter 6). -/

namespace Sys2Proof.Machine

/-! ### What the engine reads -/

/-- The printer is ready (R110). -/
def Engine.ready (e : Engine) : Bool := e.psel && !e.ppe && e.pfltN

/-- The paper or fault condition that exists; with both, the one whose detected change was taken first (R119). -/
def Engine.condition (e : Engine) : Option StallReason :=
  if e.ppe && !e.pfltN then some (if e.faultFirst then .fault else .paper)
  else if e.ppe then some .paper
  else if !e.pfltN then some .fault
  else none

/-- A paper condition is pending: present while the handshake is in ACK (R119). -/
def Engine.pendingPaper (e : Engine) : Bool := e.handshake == .ack && e.ppe

/-- A fault condition is pending: present while the handshake is in ACK (R119). -/
def Engine.pendingFault (e : Engine) : Bool := e.handshake == .ack && !e.pfltN

/-- The states in which the printer address answers OFFLINE (R58). -/
def EngineState.offline : EngineState → Bool
  | .disabled | .notReady | .stalled _ => true
  | .idle | .claiming | .running | .gap => false

/-- The record of the PRINTING job. -/
def State.printing? (s : State) : Option Job := s.pe.job.bind s.job?

def formFeed : Byte := 0x0C

/-- The character at a place of the spool memory. -/
def State.characterAt (s : State) (p : Position) : Byte := s.sm.memory.read p.address

/-- The character due: the one at the print position, or the end-of-copy form feed (R116). -/
def State.dueCharacter (s : State) : Byte :=
  match s.pe.phase with
  | .endFF => formFeed
  | .text =>
    match s.printing?.bind Job.position with
    | some p => s.characterAt p
    | none => 0

/-! ### The handshake -/

/-- In WAIT, the character is presented and strobed once PBUSY is low, the printer is ready and, for a SHARED job, PGNT
is asserted (R116, R109). -/
def Engine.mayStrobe (e : Engine) : Bool :=
  e.state == .running && e.handshake == .wait && !e.pbusy && e.ready && (!e.shared || e.pgnt)

def State.tryStrobe (s : State) : State :=
  if s.pe.mayStrobe then s.mapPe fun e => { e with pd := s.dueCharacter, handshake := .ack } else s

/-- The engine enters STALLED: no handshake is in progress, and what was pending is settled (R119, R121, R122). -/
def State.stall (s : State) (r : StallReason) : State :=
  s.mapPe fun e => { e with state := .stalled r, handshake := .none, ackTimer := none, grantLost := false }

/-- A character becomes due: a paper or fault condition that is present stalls the engine; otherwise the handshake begins
in WAIT and the ack timer starts (R116, R119). -/
def State.characterDue (s : State) : State :=
  match s.pe.condition with
  | some r => s.stall r
  | none =>
    (s.mapPe fun e => { e with handshake := .wait, ackTimer := some (1000 * e.profile.ackTimeout) }).tryStrobe

/-- The first character of a copy becomes the position and the page mark (R115). -/
def State.copyStart (s : State) (id : Nat) : State :=
  (s.mapJob id fun j => { j with position := j.start, pageMark := j.start }).mapPe fun e => { e with phase := .text }

/-- Printing goes on from the page mark, in phase TEXT (R115, R120, R121). -/
def State.toPageMark (s : State) (id : Nat) : State :=
  (s.mapJob id fun j => { j with position := j.pageMark }).mapPe fun e => { e with phase := .text }

/-- RUNNING is entered from a selection or a grant (R115). -/
def State.enterRunning (s : State) : State :=
  let s1 := s.mapPe fun e => { e with state := .running }
  match s.printing? with
  | none => s1
  | some j => (if j.pageMark.isNone then s1.copyStart j.id else s1.toPageMark j.id).characterDue

/-! ### Selection -/

/-- The first QUEUED job from the head of the job queue (R113). -/
def State.nextQueued (s : State) : Option Job :=
  s.sm.queue.findSome? fun id => (s.job? id).filter fun j => j.state == .queued

/-- The selected job becomes PRINTING in the cable mode read now: RUNNING at once, or a claim (R113, R114). -/
def State.select (s : State) (j : Job) : State :=
  let s1 := (s.mapJob j.id fun k => { k with state := .printing }).mapPe fun e =>
    { e with job := some j.id, shared := e.profile.shared }
  let s2 := s1.notifyJob j.source j.id .printing (s.queuePosition j.id)
  if s.pe.profile.shared then
    let s3 := s2.mapPe fun e => { e with state := .claiming, preq := true }
    if s.pe.pgnt then s3.enterRunning else s3
  else s2.enterRunning

/-- An IDLE engine selects a job when there is a QUEUED one (R113). -/
def State.selectIfIdle (s : State) : State :=
  if s.pe.state = .idle then
    match s.nextQueued with
    | some j => s.select j
    | none => s
  else s

/-- Without a job, the engine is IDLE or NOT_READY by the printer's readiness, and selects on entering IDLE (R113). -/
def State.enterByReadiness (s : State) : State :=
  (s.mapPe fun e => { e with state := if e.ready then .idle else .notReady }).selectIfIdle

/-! ### Reports -/

/-- One PRINTER report for the event that took the engine from one state to another, into or out of the states in which
the printer address answers OFFLINE (R125; log entry 11). -/
def State.reportEngine (s : State) (before : EngineState) : State :=
  if before ≠ s.pe.state ∧ (before.offline = true ∨ s.pe.state.offline = true) then
    s.raise .printer 0 (.engine s.pe.state)
  else s

/-! ### The end of a job -/

/-- The engine lets its job go: no handshake, nothing pending, the cable given up (R114, R118, R123, R124). The copy phase returns to
TEXT. R115 sets it at the entry to RUNNING alone, so READ_PRINTER would show what it was while a job returned by a disable, in END_FF
say, is in CLAIMING once more; the model shows TEXT there (DESIGN CHOICE, log entry 32). -/
def Engine.letGo (e : Engine) : Engine :=
  { e with
    job := none, shared := false, phase := .text, handshake := .none, ackTimer := none
    stopPending := false, disablePending := false, grantLost := false
    preq := if e.shared then false else e.preq
    releaseTimer := if e.shared then some (100 * e.profile.releaseGap) else e.releaseTimer }

/-- After its job has left the table, the engine becomes DISABLED when a disable was pending, passes to GAP after a SHARED
job, and otherwise goes by the printer's readiness (R114, R118, R123). -/
def State.proceed (s : State) : State :=
  let s1 := s.mapPe Engine.letGo
  if s.pe.disablePending then s1.mapPe fun e => { e with state := .disabled }
  else if s.pe.shared then s1.mapPe fun e => { e with state := .gap }
  else s1.enterByReadiness

/-- The PRINTING job is handed to the Spool Manager, which removes it (R118, R123). -/
def State.endJob (s : State) (e : Ending) : State :=
  match s.printing? with
  | some j => (s.removeJob j e).proceed
  | none => s.proceed

/-- A disable returns the job to the head of the queue, QUEUED, and switches the engine off (R124, R125). A job that ran
before keeps its page mark also when it is returned from a later claim; R124's sentence that a job returned from CLAIMING
carries none is read of one that has never run (DEDUCED, log entry 31). -/
def State.returnToQueue (s : State) : State :=
  let off (t : State) : State := (t.mapPe Engine.letGo).mapPe fun e => { e with state := .disabled }
  match s.printing? with
  | none => off s
  | some j =>
    let s1 := s.mapJob j.id fun k => { k with state := .queued }
    let s2 : State := { s1 with sm := { s1.sm with queue := j.id :: s1.sm.queue.filter fun i => i != j.id } }
    off (s2.notifyJob j.source j.id .queued 1)

/-- What follows the end of a handshake: a pending disable, then a paper or fault condition, then a grant loss, then
the stall given for an untaken character, and otherwise the next character (R117, R119, R121, R122, R124). -/
def State.afterHandshake (s : State) (untaken : Option StallReason) : State :=
  if s.pe.disablePending then s.returnToQueue
  else
    match s.pe.condition with
    | some r => s.stall r
    | none =>
      if s.pe.grantLost then s.stall .grant
      else
        match untaken with
        | some r => s.stall r
        | none => s.characterDue

/-- A copy ends: a further copy starts, or the job is done (R118). -/
def State.copyEnd (s : State) (j : Job) : State :=
  if j.copiesDone + 1 < j.copies then
    ((s.mapJob j.id fun k => { k with copiesDone := j.copiesDone + 1 }).copyStart j.id).afterHandshake none
  else s.endJob .done

/-- The text character at a position is taken (R117, R118). -/
def State.textTaken (s : State) (j : Job) (p : Position) : State :=
  let c := s.characterAt p
  if j.lastPlace = some p then
    if s.pe.profile.formFeedAtEnd = true ∧ c ≠ formFeed then
      (s.mapPe fun e => { e with phase := .endFF }).afterHandshake none
    else s.copyEnd j
  else
    (s.mapJob j.id fun k =>
      { k with position := j.after p, pageMark := if c = formFeed then j.after p else k.pageMark }).afterHandshake none

/-- The handshake ends: the ack timer stops and no handshake is in progress. -/
def State.handshakeEnds (s : State) : State :=
  s.mapPe fun e => { e with handshake := .none, ackTimer := none }

/-- A character is taken at the acknowledgement (R116 to R118). A pending stop ends the job instead (R123). -/
def State.characterTaken (s : State) : State :=
  let s1 := s.handshakeEnds
  if s.pe.stopPending then s1.endJob .cancelled
  else
    match s1.printing? with
    | none => s1
    | some j =>
      match s.pe.phase, j.position with
      | .endFF, _ => s1.copyEnd j
      | .text, some p => s1.textTaken j p
      | .text, none => s1

/-- The ack timer ends a handshake untaken (R116, R121, R123). -/
def State.characterLost (s : State) : State :=
  let s1 := s.handshakeEnds
  if s.pe.stopPending then s1.endJob .cancelled else s1.afterHandshake (some .noResponse)

/-! ### Stop and disable -/

/-- A handshake in ACK delays a stop or a disable to its end (R123, R124). -/
def Engine.inAck (e : Engine) : Bool := e.state == .running && e.handshake == .ack

/-- A stop for the PRINTING job (R123). -/
def State.stopEngine (s : State) : State :=
  if s.pe.inAck then s.mapPe fun e => { e with stopPending := true }
  else (s.endJob .cancelled).reportEngine s.pe.state

/-- PRINTER_DISABLE (R112, R124). -/
def State.disableEngine (s : State) : State :=
  match s.pe.state with
  | .disabled => s
  | .idle | .notReady | .gap => (s.mapPe fun e => { e with state := .disabled }).reportEngine s.pe.state
  | .claiming | .running | .stalled _ =>
    if s.pe.inAck then s.mapPe fun e => { e with disablePending := true }
    else s.returnToQueue.reportEngine s.pe.state

/-- PRINTER_ENABLE (R112). -/
def State.enableEngine (s : State) : State :=
  if s.pe.state = .disabled then
    (if s.pe.releaseTimer.isSome then s.mapPe fun e => { e with state := .gap }
     else s.enterByReadiness).reportEngine s.pe.state
  else s

/-- A job became QUEUED: an IDLE engine selects in the same event (R113). -/
def State.offerJobs (s : State) : State := s.selectIfIdle.reportEngine s.pe.state

/-! ### Resumption -/

/-- RUNNING is entered from a stall, or STALLED(GRANT) for a SHARED job without its grant (R120, R121, R122). Where STALLED(NO_RESPONSE)
ends while PGNT is deasserted and a paper or fault condition is present, R121 gives both STALLED(GRANT) and the stall of the condition
without an order; the grant comes first, and the condition is met at the character due after it (DEDUCED, log entry 35). -/
def State.resume (s : State) : State :=
  if s.pe.shared && !s.pe.pgnt then s.stall .grant
  else (s.mapPe fun e => { e with state := .running }).characterDue

/-- The position and the copy phase return to the page mark. -/
def State.rewind (s : State) : State :=
  match s.pe.job with
  | some id => s.toPageMark id
  | none => s

/-- STALLED(NO_RESPONSE) ends: from the page mark, whatever the policy (R121). -/
def State.resumeFromMark (s : State) : State := s.rewind.resume

/-- STALLED(PAPER) or STALLED(FAULT) ends, by the resume policy (R120). -/
def State.resumeByPolicy (s : State) : State :=
  if s.pe.profile.resumeChar then s.resume else s.rewind.resume

/-- RESUME_PRINTER (R121). -/
def State.resumePrinter (s : State) : State :=
  if s.pe.state = .stalled .noResponse then s.resumeFromMark.reportEngine s.pe.state else s

/-! ### The printer's lines -/

/-- The detected level of one line changes (R110); the order of the two conditions is kept (R119). -/
def Engine.setLine (e : Engine) (l : PrinterLine) (high : Bool) : Engine :=
  let e1 := match l with
    | .psel => { e with psel := high }
    | .ppe => { e with ppe := high }
    | .pfltN => { e with pfltN := high }
    | .pbusy => { e with pbusy := high }
  { e1 with faultFirst := if e1.ppe && e1.pfltN then false else if !e1.ppe && !e1.pfltN then true else e1.faultFirst }

/-- The detected level of one line. -/
def Engine.line (e : Engine) : PrinterLine → Bool
  | .psel => e.psel
  | .ppe => e.ppe
  | .pfltN => e.pfltN
  | .pbusy => e.pbusy

/-- What the engine does at a change of a detected level (R113, R116, R119 to R121). -/
def State.lineChanged (s : State) (l : PrinterLine) (high : Bool) : State :=
  let s1 := s.mapPe fun e => e.setLine l high
  match s.pe.state with
  | .disabled | .claiming | .gap | .stalled .grant => s1
  | .idle => if s1.pe.ready then s1 else s1.mapPe fun e => { e with state := .notReady }
  | .notReady => if s1.pe.ready then s1.enterByReadiness else s1
  | .running =>
    if s.pe.handshake = .wait then
      match s1.pe.condition with
      | some r => s1.stall r
      | none => s1.tryStrobe
    else s1
  | .stalled .paper | .stalled .fault =>
    if s.pe.ready = false ∧ s1.pe.ready = true then s1.resumeByPolicy else s1
  | .stalled .noResponse => if l = .psel ∧ high = true then s1.resumeFromMark else s1

/-- What the engine does at a change of PGNT (R114, R122). A grant that fell and returned within one ACK leaves the engine in
STALLED(GRANT) with PGNT already high, and the model then waits for it to fall and rise once more (DEDUCED, log entry 19). -/
def State.grantChanged (s : State) (high : Bool) : State :=
  let s1 := s.mapPe fun e => { e with pgnt := high }
  if s.pe.shared then
    match s.pe.state with
    | .claiming => if high then s1.enterRunning else s1
    | .running =>
      if high then s1.tryStrobe
      else if s.pe.handshake = .ack then s1.mapPe fun e => { e with grantLost := true }
      else s1.stall .grant
    | .stalled .grant => if high then (s1.mapPe fun e => { e with state := .running }).characterDue else s1
    | _ => s1
  else s1

end Sys2Proof.Machine
end

