-- ==== Sys2Proof/Machine/Submit.lean ====
section
/-! DEFINITION. Submissions to the spool and operations on jobs: the verdicts and effects of desk print frames, of primary
print text, and of cancels and closes (sections 5.5 to 5.8). -/

namespace Sys2Proof.Machine

/-! ### Closing and cancelling -/

/-- An OPEN job closes: removed as EMPTY with no characters, else QUEUED, and an IDLE engine selects (R95, R97, R98). -/
def State.closeJob (s : State) (j : Job) : State :=
  if j.count = 0 then s.removeJob j .empty else (s.enqueue j).offerJobs

/-- A job is cancelled: removed, or a stop handed to the engine for a PRINTING one (R96, R105). -/
def State.cancelJob (s : State) (j : Job) : State :=
  if j.state = .printing then s.stopEngine else s.removeJob j .cancelled

/-- The idle timer of an OPEN job expires (R98). -/
def State.idleExpired (s : State) (j : Job) : State :=
  match j.source with
  | .primary => s.closeJob j
  | .desk _ => s.removeJob j .timeout

/-! ### Desk print frames (R93 to R96) -/

/-- The copies that PRINT_OPEN's payload gives: 0 is taken as 1 and above 9 as 9 (R93). -/
def copiesOf (b : Byte) : Nat := min 9 (max 1 (b.toNat % 16))

/-- The priority that PRINT_OPEN's payload gives: b7 is the urgent flag (R184). -/
def priorityOf (b : Byte) : Priority := if b.getLsbD 7 then .urgent else .normal

/-- Why PRINT_OPEN is refused, by the order of R93. -/
def State.openRefusal (s : State) (src : Source) : Option NakReason :=
  if s.pe.state = .disabled then some .printerOff
  else if (s.openJob? src).isSome then some .jobOpen
  else if !s.tableRoom src then some .tableFull
  else none

/-- The job that PRINT_CANCEL names: the source's record with that id, or, for 0, its OPEN job (R96). -/
def State.cancelTarget (s : State) (src : Source) (id : Byte) : Option Job :=
  if id = 0 then s.openJob? src else (s.job? id.toNat).filter fun j => j.source == src

/-- Why a print frame is refused (R93 to R96); none is ACK. -/
def State.printRefusal (s : State) (src : Source) (kind : Byte) (payload : List Byte) : Option NakReason :=
  if kind = kindPrintOpen then s.openRefusal src
  else if kind = kindPrintCancel then
    if (s.cancelTarget src (payload.headD 0)).isNone then some .noJob else none
  else
    match s.openJob? src with
    | none => some .noJob
    | some j =>
      if kind = kindPrintData then
        match s.admission src j.count payload.length with
        | some .quota => some .quota
        | some .spoolFull => some .spoolFull
        | none => none
      else none

/-- What an accepted print frame does (R93 to R96). -/
def State.printEffect (s : State) (src : Source) (kind : Byte) (payload : List Byte) : State :=
  if kind = kindPrintOpen then s.openJob src (copiesOf (payload.headD 0)) (priorityOf (payload.headD 0))
  else if kind = kindPrintCancel then
    match s.cancelTarget src (payload.headD 0) with
    | some j => s.cancelJob j
    | none => s
  else
    match s.openJob? src with
    | none => s
    | some j => if kind = kindPrintData then s.admitText j payload else s.closeJob j

/-! ### Primary print text (R97) -/

/-- The text of a primary submission that is not ABORT, and whether it closes the job. -/
def primaryText : List Byte → List Byte × Bool
  | [] => ([], false)
  | c :: cs => if c = printLast then (cs, true) else (c :: cs, false)

/-- The text of a primary submission is judged, and admitted when it passes; with no OPEN job a record is created for it
(R97). None is REFUSE. -/
def State.primaryAdmit (s : State) (text : List Byte) : Option State :=
  match s.openJob? .primary with
  | some j => if (s.admission .primary j.count text.length).isSome then none else some (s.admitText j text)
  | none =>
    if !s.tableRoom .primary || (s.admission .primary 0 text.length).isSome then none
    else
      let s1 := s.openJob .primary 1 .normal
      match s1.openJob? .primary with
      | some j => some (s1.admitText j text)
      | none => some s1

/-- The primary's OPEN job, if any, closes (R97). -/
def State.primaryClose (s : State) : State :=
  match s.openJob? .primary with
  | some j => s.closeJob j
  | none => s

/-- A submission from the primary: the verdict, true for ACCEPT, and its effect (R97). -/
def State.submitPrimary (s : State) (message : List Byte) : Bool × State :=
  if message.head? = some printAbort then
    match s.openJob? .primary with
    | some j => (true, s.removeJob j .discarded)
    | none => (true, s)
  else
    let (text, last) := primaryText message
    match (if text = [] then some s else s.primaryAdmit text) with
    | none => (false, s)
    | some s1 => (true, if last then s1.primaryClose else s1)

/-! ### Administration of jobs (R103, R104) -/

/-- A QUEUED or HELD job takes the other state in its place, with its notice (R103, R100). -/
def State.setJobState (s : State) (j : Job) (st : JobState) (notice : NoticeState) : State :=
  (s.mapJob j.id fun k => { k with state := st }).notifyJob j.source j.id notice (s.queuePosition j.id)

/-- The state that a notice gives for a job that stays in the table. -/
def JobState.notice : JobState → NoticeState
  | .opened => .opened
  | .queued => .queued
  | .held => .held
  | .printing => .printing

/-- A NORMAL job becomes URGENT; a closed one moves to directly after the last URGENT job (R104). -/
def State.promote (s : State) (j : Job) : State :=
  if j.priority = .urgent then s
  else
    let s1 := s.mapJob j.id fun k => { k with priority := .urgent }
    if j.state = .opened then s1
    else
      let rest := s.sm.queue.filter fun i => i != j.id
      let s2 : State := { s1 with sm := { s1.sm with queue := placeInQueue s.isUrgent rest j.id .urgent } }
      s2.notifyJob j.source j.id j.state.notice (s2.queuePosition j.id)

end Sys2Proof.Machine
end

