-- ==== Sys2Proof/Machine/Trunk.lean ====
section
/-! DEFINITION. The Trunk Interface below its events: line availability, the forwarded copy, burst boundaries, and what an
isolation order stops (sections 2.1 to 2.7); and the commitment of a filled reply (section 3.5). -/

namespace Sys2Proof.Machine

/-! ### Availability and burst boundaries -/

/-- A segment line is available to the part's transmitter (R25). -/
def Segment.available (x : Segment) (quiet : Nat) : Bool :=
  x.tx == .idle && x.activity.isNone && decide (1 ≤ quiet)

/-- No forwarded burst is in progress or held, in either direction. -/
def State.noCopy (s : State) : Bool := s.ti.segA.copy.isNone && s.ti.segB.copy.isNone

/-- A segment is at a burst boundary (R40). -/
def State.atBoundary (s : State) (g : Seg) : Bool :=
  (s.seg g).activity.isNone && (s.seg g).tx == .idle && s.noCopy

/-- A segment at a burst boundary no longer holds a change back (R35). -/
def State.reachBoundary (s : State) (g : Seg) : State :=
  if s.atBoundary g then s.setSeg g { s.seg g with changeHeld := false } else s

/-- A change that met a forwarded burst is held back: one of the segments has not reached a burst boundary since (R35). -/
def State.changeHeld (s : State) : Bool := s.ti.segA.changeHeld || s.ti.segB.changeHeld

/-- A segment at a burst boundary takes up the profile last written (R40). -/
def State.takeUp (s : State) (g : Seg) : State :=
  if s.atBoundary g then s.setSeg g { s.seg g with profile := s.ti.written } else s

/-- Each segment at a burst boundary takes up the profile last written (R40), unless the change met a forwarded burst in flight
and the segments have not both reached a boundary since (R35; that they need not stand at it in one moment is DEDUCED, log
entry 28). -/
def State.takeUpBoth (s : State) : State :=
  let r := (s.reachBoundary .a).reachBoundary .b
  if r.changeHeld then r else (r.takeUp .a).takeUp .b

/-- A trunk profile is written (R40): it is held back when it meets a forwarded burst in flight (R35). A change held back before
it is no longer waited for, the new one standing in its place (DEDUCED, log entry 28). -/
def State.writeTrunkProfile (s : State) (p : TrunkProfile) : State :=
  { s with ti := { s.ti with
      written := p
      segA := { s.ti.segA with changeHeld := !s.noCopy }
      segB := { s.ti.segB with changeHeld := !s.noCopy } } }.takeUpBoth

/-- Both segments have taken up the same profile (R40). -/
def State.sameProfile (s : State) : Bool := s.ti.segA.profile == s.ti.segB.profile

/-! ### The forwarded copy (R31) -/

/-- A forwarded copy begins on a segment: the first of its sync characters is being sent. -/
def Segment.beginCopy (x : Segment) (c : Copy) : Segment :=
  { x with
    tx := .copy
    line := [dataChar x.profile.sync]
    copy := some { c with started := true, syncLeft := x.profile.syncCount - 1 } }

/-- A character joins the forwarding buffer of 8; what a full buffer then holds is a free value (log entry 6). -/
def pushBuffer (draws : Nat) (buffer : List TrunkChar) (ch : TrunkChar) : List TrunkChar :=
  if buffer.length < 8 then buffer ++ [ch] else (Config.overflowedBuffer draws).take 8

/-- A character completes on the source of a copy bound for segment `g`: it joins the buffer, and a copy that has begun
sends its next character in the same character time (R31). -/
def State.forwardChar (s : State) (g : Seg) (ch : TrunkChar) : State :=
  let x := s.seg g
  match x.copy with
  | none => s
  | some c =>
    if c.sourceEnded then s
    else
      let s0 : State := { s with draws := s.draws + 1 }
      if c.started = false then s0.setSeg g { x with copy := some { c with buffer := pushBuffer s.draws c.buffer ch } }
      else if c.syncLeft = 0 then
        match c.buffer with
        | b :: rest =>
          s0.setSeg g { x with line := x.line ++ [b], copy := some { c with buffer := pushBuffer s.draws rest ch } }
        | [] => s0.setSeg g { x with line := x.line ++ [ch] }
      else
        s0.setSeg g { x with
          line := x.line ++ [dataChar x.profile.sync]
          copy := some { c with syncLeft := c.syncLeft - 1, buffer := pushBuffer s.draws c.buffer ch } }

/-- The source's end is taken: no further character joins the copy (R31). -/
def State.endSource (s : State) (g : Seg) : State :=
  match (s.seg g).copy with
  | none => s
  | some c => s.setSeg g { s.seg g with copy := some { c with sourceEnded := true } }

/-- The copy bound for a segment is stopped at once, or discarded while still held (R28, R34, R35). -/
def State.stopCopy (s : State) (g : Seg) : State :=
  let x := s.seg g
  s.setSeg g { x with copy := none, tx := if x.tx = .copy then .idle else x.tx }

/-! ### Watches and the probe exchange -/

/-- A watch armed for a station is disarmed without a miss (R34). -/
def State.disarmStation (s : State) (g : Seg) (a : Address) : State :=
  let x := s.seg g
  if x.watch.map Watch.station = some a then s.setSeg g { x with watch := none } else s

def State.setProbe (s : State) (p : Option Probe) : State := { s with hm := { s.hm with probe := p } }

def State.setGate (s : State) (closed : Bool) : State := { s with ti := { s.ti with gateB := closed } }

/-- A segment probe poll is being sent. -/
def State.segmentProbeSending (s : State) : Bool :=
  match s.hm.probe with
  | some p => p.phase == .sending && p.kind == .segment
  | none => false

/-- An isolation of segment B reaches a station probe in any state: it is abandoned with no outcome, its poll stopped
(R34, R152, R154). Which of the poll's characters had been sent by then the spec does not say, and the record of the line keeps
the whole poll (DESIGN CHOICE, log entry 29). -/
def State.abandonStationProbe (s : State) : State :=
  match s.hm.probe with
  | some ⟨.sending, .station, _⟩ => (s.setSeg .b { s.ti.segB with tx := .idle }).setProbe none
  | some ⟨_, .station, _⟩ => s.setProbe none
  | _ => s

/-- The isolation order for segment B (R34, R138). -/
def State.cutSegmentB (s : State) : State :=
  let s1 := ((s.stopCopy .a).stopCopy .b).abandonStationProbe
  let s2 := s1.setSeg .b { s1.ti.segB with watch := none }
  (s2.setGate (!s2.segmentProbeSending)).takeUpBoth

/-- The isolation order for a SEG_B station (R34, R140). -/
def State.cutStation (s : State) (a : Address) : State := (s.disarmStation .a a).disarmStation .b a

/-- The readmission order for segment B: the gate opens, and a PENDING segment probe returns to IDLE (R38, R151). -/
def State.restoreSegmentB (s : State) : State :=
  let s1 := s.setGate false
  match s.hm.probe with
  | some ⟨.pending, .segment, _⟩ => s1.setProbe none
  | _ => s1

/-- The readmission order for a station: a PENDING probe of it returns to IDLE (R152); forwarding resumes from the state
itself (R38). -/
def State.restoreStation (s : State) (a : Address) : State :=
  if s.hm.probe = some ⟨.pending, .station, a⟩ then s.setProbe none else s

/-! ### A filled reply commits (R52) -/

/-- The FILL characters that the reply context has counted (R51). -/
def ReplyContext.fillsSent : ReplyContext → Nat
  | .filling _ sent => sent
  | .idle | .waiting _ | .sending _ _ _ => 0

/-- How many FILL characters the fill budget still allows (R51, R52). -/
def State.fillsLeft (s : State) : Nat := s.ti.segA.profile.fill - s.pr.fillsSent

/-- The filled reply under way commits: the FILL characters sent beside those already counted, then the code, the message and the
check. -/
def State.commit (s : State) (t : Taking) (fills : Nat) (c : ReplyCode) (message : List Byte) : State :=
  let x := s.ti.segA
  { s.setSeg .a { x with line := x.line ++ List.replicate fills fillChar ++ replyTail c message } with
    pr := .sending t c message }

/-- A commitment before the budget is exhausted: how many FILL characters have gone beside those counted is a free value, of at most
what the fill budget leaves (log entry 5). -/
def State.commitEarly (s : State) (t : Taking) (c : ReplyCode) (message : List Byte) : State :=
  { s with draws := s.draws + 1 }.commit t (min (Config.fillsSent s.draws) s.fillsLeft) c message

/-- The reply being filled for port n, if any. -/
def State.fillingFor (s : State) (n : PortNo) : Option Taking :=
  match s.pr with
  | .filling t _ => if t.handling = .desk n then some t else none
  | _ => none

/-- The frame ends without being appended: the fill commits to NIL (R52). -/
def State.fillNil (s : State) (n : PortNo) : State :=
  match s.fillingFor n with
  | some t => s.commitEarly t .nil []
  | none => s

/-- The port leaves ONLINE: the fill commits to OFFLINE (R52). -/
def State.fillOffline (s : State) (n : PortNo) : State :=
  match s.fillingFor n with
  | some t => s.commitEarly t .offline []
  | none => s

/-- The frame's message is appended: the fill commits to DATA, and the new head is SENT (R52, R46). -/
def State.fillData (s : State) (n : PortNo) (message : List Byte) : State :=
  match s.fillingFor n with
  | some t => (s.commitEarly t .data message).mapPort n fun p => { p with headSent := true }
  | none => s

end Sys2Proof.Machine
end

