-- ==== Sys2Proof/Machine/Health.lean ====
section
/-! DEFINITION. The Health Monitor: orders, reports, evaluation, weights, credits and settings (chapter 7), and the port
state changes that its orders make (section 4.2). -/

namespace Sys2Proof.Machine

/-! ### Orders to a port (R68) -/

/-- The port state that an isolation order leaves (R68). -/
def PortState.afterIsolation : PortState → PortState
  | .online | .detached | .isolated => .isolated
  | .standby => .standby
  | .stopping => .stopping

/-- The state of a port in service by its peer-ready (R65, R68). -/
def Port.serviceState (p : Port) : PortState := if p.mustHold then .detached else .online

/-- The port state that a readmission order leaves (R68). -/
def Port.afterReadmission (p : Port) : PortState := if p.state = .isolated then p.serviceState else p.state

/-- The port becomes ISOLATED: its transmitter is stopped and gated, its lists are emptied, and the marks of R156 and R157
start afresh (R68). A gated transmitter reads as IDLE, whatever its peer-ready (DEDUCED, log entry 30). -/
def Port.isolate (p : Port) : Port :=
  { p.flush with state := .isolated, tx := .idle, detachTimer := none, creditMark := false, breakMark := p.inBreak }

/-- The isolation order for a port (R68, R139). -/
def State.isolatePort (s : State) (n : PortNo) : State :=
  if (s.port n).state.mayBegin then ((s.mapPort n Port.isolate).fillOffline n).discardOpen n else s

/-- The readmission order for a port (R68, R141). -/
def State.readmitPort (s : State) (n : PortNo) : State :=
  if (s.port n).state = .isolated then
    (s.mapPort n fun p => { p.flush with state := p.serviceState, tx := p.restTx }).notifyLink n
  else s

/-! ### Reports and orders (R137 to R141) -/

/-- One report of an object; for a port, with the port state that the order leaves (R137). -/
def State.reportObject (s : State) (o : ObjectId) (d : HealthDetail) (left : PortState) : State :=
  match o with
  | .segment g => s.raise .segmentState (segSubject g) (.health d)
  | .port n => s.raise .portState n.val (.port left (some d))
  | .station a => s.raise .stationState a.val (.health d)

/-- The present state of the port that an object stands for. -/
def State.portStateOf (s : State) : ObjectId → PortState
  | .port n => (s.port n).state
  | _ => .standby

/-- The state of that port after a readmission order. -/
def State.readmittedStateOf (s : State) : ObjectId → PortState
  | .port n => (s.port n).afterReadmission
  | _ => .standby

/-- The isolation of an object: its report, then its order (R137 to R140). -/
def State.isolateObject (s : State) (o : ObjectId) : State :=
  let s1 := s.reportObject o (.state .isolated) (s.portStateOf o).afterIsolation
  match o with
  | .segment .a => s1
  | .segment .b => s1.cutSegmentB
  | .port n => s1.isolatePort n
  | .station a => s1.cutStation a

/-- A readmission order (R141). -/
def State.readmissionOrder (s : State) (o : ObjectId) : State :=
  match o with
  | .segment .a => s
  | .segment .b => s.restoreSegmentB
  | .port n => s.readmitPort n
  | .station a => s.restoreStation a

/-- The readmission of an object into a state: its report, then its order (R137, R141). -/
def State.readmitObject (s : State) (o : ObjectId) (h : Health) : State :=
  (s.reportObject o (.state h) (s.readmittedStateOf o)).readmissionOrder o

/-! ### Evaluation (R133 to R136) -/

/-- The state of an object that is not isolated, by its score (R134). -/
def State.bandOf (s : State) (score : Nat) : Health := if s.hm.suspect ≤ score then .suspect else .active

/-- The limit mark at an evaluation of an object that is not isolated (R136). -/
def State.evaluateMark (s : State) (o : ObjectId) : State :=
  let h := s.object o
  if s.hm.isolate ≤ h.score ∧ s.effectiveMayIsolate o = false then
    if h.limitMark then s
    else (s.setObject o { h with limitMark := true }).reportObject o .limit (s.portStateOf o)
  else s.setObject o { h with limitMark := false }

/-- The evaluation of an object (R134, R135, R136). -/
def State.evaluate (s : State) (o : ObjectId) : State :=
  let h := s.object o
  if h.state = .isolated then
    if h.score ≤ s.hm.readmit then
      (s.setObject o { h with state := .active, limitMark := false }).readmitObject o .active
    else s.setObject o { h with limitMark := false }
  else if s.hm.isolate ≤ h.score ∧ s.effectiveMayIsolate o = true then
    (s.setObject o { h with state := .isolated, limitMark := false }).isolateObject o
  else if h.state = s.bandOf h.score then s.evaluateMark o
  else
    ((s.setObject o { h with state := s.bandOf h.score }).reportObject o (.state (s.bandOf h.score))
      (s.portStateOf o)).evaluateMark o

/-- Evaluation of several objects in order (R132, R145). -/
def State.evaluateAll (s : State) (os : List ObjectId) : State := os.foldl State.evaluate s

/-! ### Weights, failures and credits (R129 to R131, R155) -/

/-- A weight is added, with saturation at 1023, and the object is evaluated (R131, R133). -/
def State.addScore (s : State) (o : ObjectId) (w : Nat) : State :=
  (s.setObject o { s.object o with score := min 1023 ((s.object o).score + w) }).evaluate o

/-- A station weight is applied only while the entry is SEG_A or SEG_B (R129, R3). -/
def State.chargeStation (s : State) (a : Address) (w : Byte) : State :=
  match (s.entry a).location with
  | .segA | .segB => s.addScore (.station a) w.toNat
  | _ => s

def State.chargeSegment (s : State) (g : Seg) (w : Byte) : State := s.addScore (.segment g) w.toNat

def State.chargePort (s : State) (n : PortNo) (w : Byte) : State := s.addScore (.port n) w.toNat

/-- A probe failure: applied to an ISOLATED object, dropped otherwise (R155, R131). -/
def State.probeFailure (s : State) (o : ObjectId) : State :=
  if (s.object o).state = .isolated then s.addScore o s.hm.weights.penalty.toNat else s

/-- A probe credit: applied to an ISOLATED object, dropped otherwise (R131). -/
def State.probeCredit (s : State) (o : ObjectId) : State :=
  if (s.object o).state = .isolated then
    (s.setObject o { s.object o with score := (s.object o).score - s.hm.weights.credit.toNat }).evaluate o
  else s

/-- A POLL_MISS for a station and a segment, the station first (R27, R129). -/
def State.pollMiss (s : State) (g : Seg) (a : Address) : State :=
  (s.chargeStation a s.hm.weights.stationPollMiss).chargeSegment g s.hm.weights.segmentPollMiss

/-- A CONFLICT event against a segment (R27). -/
def State.chargeConflict (s : State) (g : Seg) : State := s.chargeSegment g s.hm.weights.conflict

/-! ### Settings to score 0 and ACTIVE (R142, R144) -/

/-- An object is set to score 0 and ACTIVE with a may-isolate flag: reported when it was not so already, and readmitted
when it was ISOLATED (R142, R144). -/
def State.clearObject (s : State) (o : ObjectId) (mayIsolate : Bool) : State :=
  let h := s.object o
  let s1 := s.setObject o (.clean mayIsolate)
  if h.score = 0 ∧ h.state = .active then s1
  else if h.state = .isolated then s1.readmitObject o .active
  else s1.reportObject o (.state .active) (s.portStateOf o)

/-- An object is cleared with its stored flag kept. -/
def State.clearKeeping (s : State) (o : ObjectId) : State := s.clearObject o (s.object o).mayIsolate

/-! ### Leaving service (R67, R81) -/

/-- The port is out of service and quiet (R81). -/
def Port.toStandby (p : Port) : Port :=
  { p.flush with state := .standby, rx := .hunting, gapTimer := none, gapHeld := false, detachTimer := none, tx := .idle }

/-- The entry into STANDBY at the end of STOPPING: the lists, the port report, the port's object, the open job (R81). -/
def State.enterStandby (s : State) (n : PortNo) : State :=
  (((s.mapPort n Port.toStandby).reportPort n).clearKeeping (.port n)).discardOpen n

/-- A frame is in reception (R69). -/
def Port.receiving (p : Port) : Bool := p.rx.phase != .leadHunt

/-- A frame is in transmission. -/
def PortTx.busy : PortTx → Bool
  | .sending _ => true
  | .idle | .held => false

/-- A STOPPING port with no frame in reception or in transmission enters STANDBY (R67). -/
def State.finishStopping (s : State) (n : PortNo) : State :=
  if (s.port n).state = .stopping ∧ (s.port n).receiving = false ∧ (s.port n).tx.busy = false then
    s.enterStandby n
  else s

end Sys2Proof.Machine
end

