-- ==== Sys2Proof/Machine/Directory.lean ====
section
/-! DEFINITION. The Station Directory's own events: the conflict verdict, learning, moves and aging (sections 1.6 and 1.7). -/

namespace Sys2Proof.Machine

/-- A reply from station `a` on segment `g` conflicts with its entry, for forwarding (R12). -/
def State.replyConflicts (s : State) (g : Seg) (a : Address) : Bool :=
  let e := s.entry a
  match e.origin with
  | .static => e.location != .none && e.location != segLocation g
  | .learned => e.location != segLocation g && (s.object (.station a)).state == .isolated

/-- A LEARNED entry moves to the segment of its reply, and its object is evaluated there (R14). -/
def State.move (s : State) (g : Seg) (a : Address) : State :=
  ((s.setEntry a { s.entry a with location := segLocation g, age := 0 }).raise .moved a.val (.segment g)).evaluate
    (.station a)

/-- A conflicting reply: its report, then the CONFLICT event against the segment of reception (R13). -/
def State.conflict (s : State) (g : Seg) (a : Address) : State :=
  (s.raise .conflict a.val (.segment g)).chargeConflict g

/-- What a valid reply from station `a` on segment `g` teaches (R13). -/
def State.learn (s : State) (g : Seg) (a : Address) : State :=
  let e := s.entry a
  if e.location = .none then
    s.setEntry a { e with location := segLocation g, origin := .learned, age := 0 }
  else if e.location = segLocation g then s.setEntry a { e with age := 0 }
  else if e.origin = .learned ∧ (s.object (.station a)).state ≠ .isolated then s.move g a
  else s.conflict g a

/-- The entry lives on a coax segment. -/
def Location.isSegment : Location → Bool
  | .segA | .segB => true
  | .none | .port _ | .printer => false

/-- An entry with its routing in the unused state, its stand-in and accounts kept (R11, R15). -/
def Entry.vacated (e : Entry) : Entry := { e with location := .none, origin := .static, age := 0 }

/-- One entry at an expiry of the minute timer (R15). -/
def State.ageEntry (s : State) (a : Address) : State :=
  let e := s.entry a
  if e.location.isSegment then
    let e1 := { e with age := min 255 (e.age + 1) }
    if e.origin = .learned ∧ s.sd.ageLimit ≠ 0 ∧ s.sd.ageLimit ≤ e1.age ∧
        (s.object (.station a)).state ≠ .isolated then
      ((s.setEntry a e.vacated).raise .moved a.val .aged).clearKeeping (.station a)
    else s.setEntry a e1
  else s

/-- An expiry of the minute timer: every entry in ascending order of address (R15, R16). -/
def State.ageAll (s : State) : State := (List.finRange 63).foldl State.ageEntry s

end Sys2Proof.Machine
end

