-- ==== Sys2Proof/Machine/Reply.lean ====
section
/-! DEFINITION. The Proxy Responder: what the taking of a poll or select does, and what the start point decides
(chapter 3). -/

namespace Sys2Proof.Machine

/-! ### The taking (R42, R43, R47) -/

/-- The reply context becomes WAITING for a request (R43). -/
def State.await (s : State) (a : Address) (r : Request) (h : Handling) : State :=
  let t : Taking := { station := a, request := r, handling := h, standIn := (s.entry a).standIn,
                      deadline := s.ti.segA.profile.deadline }
  { s with pr := .waiting t }

/-- A NEXT to a desk address removes a SENT head (R47). -/
def Port.acknowledge (p : Port) : Port :=
  if p.headSent then { p with upstream := p.upstream.drop 1, headSent := false } else p

/-- The Proxy Responder takes the end of a valid poll or select on segment A (R42, R43). A reply still waiting is
abandoned. -/
def State.takeRequest (s : State) (a : Address) (r : Request) : State :=
  let s1 : State := { s with pr := .idle }
  match (s.entry a).location with
  | .port n =>
    (if r = .poll pollNext then s1.mapPort n Port.acknowledge else s1).await a r (.desk n)
  | .printer => s1.await a r .printer
  | .segB =>
    if s.segBIsolated || (s.object (.station a)).state == .isolated then
      match (s.entry a).standIn with
      | .offline => s1.await a r .standIn
      | .silent => s1
    else s1
  | .segA | .none => s1

/-! ### The start point (R44, R48 to R59) -/

/-- What the start point decides: no reply, fill, or a code with its message. -/
inductive Decision where
  | noReply
  | fill
  | reply (c : ReplyCode) (message : List Byte)
  deriving DecidableEq, Repr

/-- The stand-in of an isolated port (R57). -/
def StandIn.decision : StandIn → Decision
  | .silent => .noReply
  | .offline => .reply .offline []

/-- A MSG frame is in reception: its KIND has been taken as MSG (R51). -/
def Port.receivingMsg (p : Port) : Bool :=
  match p.rx.phase with
  | .len | .payload | .check => p.rx.kind == kindMsg
  | .leadHunt | .kind => false

/-- A STATUS poll, or one with a code that names nothing (R50). -/
def Port.statusReply (p : Port) (st : StandIn) : Decision :=
  match p.state with
  | .online => .reply .nil []
  | .detached => if p.upstream.isEmpty then .reply .offline [] else .reply .nil []
  | .stopping | .standby => .reply .offline []
  | .isolated => st.decision

/-- A NEXT poll, or a REPEAT that asks for what a NEXT would get (R48, R49, R51). A DATA reply carries the head, which
becomes SENT. -/
def Port.nextReply (p : Port) (st : StandIn) (fillBudget : Nat) : Decision :=
  match p.state with
  | .online =>
    match p.upstream with
    | m :: _ => .reply .data m
    | [] => if p.receivingMsg && decide (1 ≤ fillBudget) then .fill else .reply .nil []
  | .detached =>
    match p.upstream with
    | m :: _ => .reply .data m
    | [] => .reply .offline []
  | .stopping | .standby => .reply .offline []
  | .isolated => st.decision

/-- The reply to a poll of a desk address (R48 to R50). -/
def Port.pollReply (p : Port) (code : Byte) (st : StandIn) (fillBudget : Nat) : Decision :=
  if code = pollNext ∨ code = pollRepeat then p.nextReply st fillBudget else p.statusReply st

/-- The reply to a select of a desk address (R54). -/
def Port.selectReply (p : Port) (st : StandIn) : Decision :=
  match p.state with
  | .online => if p.downstream.length < 4 then .reply .accept [] else .reply .refuse []
  | .detached => .reply .refuse []
  | .stopping | .standby => .reply .offline []
  | .isolated => st.decision

/-- The reply to a poll of the printer address (R58). -/
def EngineState.pollReply (e : EngineState) : ReplyCode := if e.offline then .offline else .nil

/-- The decision of the start point with its effects on the other blocks, before the burst begins (R44). -/
def State.decideReply (s : State) (t : Taking) : Decision × State :=
  match t.handling, t.request with
  | .desk n, .poll code =>
    match (s.port n).pollReply code t.standIn s.ti.segA.profile.fill with
    | .reply .data m => (.reply .data m, s.mapPort n fun p => { p with headSent := true })
    | d => (d, s)
  | .desk n, .select m =>
    match (s.port n).selectReply t.standIn with
    | .reply .accept _ =>
      (.reply .accept [], s.mapPort n fun p => { p with downstream := p.downstream ++ [m] }.chooseFrame)
    | d => (d, s)
  | .printer, .poll _ => (.reply s.pe.state.pollReply [], s)
  | .printer, .select m =>
    if s.pe.state = .disabled then (.reply .offline [], s)
    else
      match s.submitPrimary m with
      | (true, s1) => (.reply .accept [], s1)
      | (false, s1) => (.reply .refuse [], s1)
  | .standIn, _ => (.reply .offline [], s)

/-- Transmitter A begins a reply burst (R28, R45). -/
def State.beginReply (s : State) (a : Address) (rest : List TrunkChar) : State :=
  let x := s.ti.segA
  s.setSeg .a { x with tx := .reply, line := replyHead x.profile a ++ rest }

/-- The start point of a waiting reply (R43, R44). -/
def State.startReply (s : State) (t : Taking) : State :=
  match s.decideReply t with
  | (.noReply, s1) => { s1 with pr := .idle }
  | (.fill, s1) => { s1.beginReply t.station [] with pr := .filling t 0 }
  | (.reply c m, s1) => { s1.beginReply t.station (replyTail c m) with pr := .sending t c m }

end Sys2Proof.Machine
end

