-- ==== Sys2Proof/Machine/Probe.lean ====
section
/-! DEFINITION. The probe scheduler (chapter 8). -/

namespace Sys2Proof.Machine

/-- The object that an exchange probes (R155). -/
def Probe.object (p : Probe) : ObjectId :=
  match p.kind with
  | .segment => .segment .b
  | .station => .station p.target

/-- An exchange returns to IDLE with its outcome (R153, R155). -/
def State.probeOutcome (s : State) (p : Probe) (success : Bool) : State :=
  let s1 := s.setProbe none
  if success then s1.probeCredit p.object else s1.probeFailure p.object

/-- The first address, searching upwards from a pointer and wrapping from 62 to 0, that has a property (R150, R152). -/
def firstFrom (pointer : Address) (p : Address → Bool) : Option Address :=
  ((List.finRange 63).map fun k => pointer + k).find? p

/-- The assessment of the interval that has ended, for an ISOLATED segment B (R150). An exchange under way keeps a new
target from being chosen (R149). -/
def State.assessSegment (s : State) : State :=
  if s.hm.jabberMark then s.probeFailure (.segment .b)
  else
    match firstFrom s.hm.segmentPointer fun a => (s.entry a).location == .segB with
    | none => s.probeCredit (.segment .b)
    | some t =>
      if s.hm.probe.isSome then s
      else { s with hm := { s.hm with probe := some ⟨.pending, .segment, t⟩, segmentPointer := t + 1 } }

/-- A station probe still PENDING at an expiry is abandoned (R152). -/
def Probe.lapsed (p : Probe) : Bool := p.phase == .pending && p.kind == .station

/-- The choice of a station probe while segment B is not ISOLATED (R152). -/
def State.chooseStation (s : State) : State :=
  let s1 := if s.hm.probe.any Probe.lapsed then s.setProbe none else s
  if s1.hm.probe.isSome then s1
  else
    match firstFrom s1.hm.stationPointer fun a =>
        (s1.entry a).location == .segB && (s1.object (.station a)).state == .isolated with
    | none => s1
    | some t => s1.setProbe (some ⟨.pending, .station, t⟩)

/-- The assessment of one port (R157), and the clearing of its credit mark (R156). R156 clears every port's credit mark at
every expiry, and R158 says that the marks of a port gone from ISOLATED to STOPPING are next cleared when it is ISOLATED again:
the model clears the credit mark of such a port by R156 and keeps its break mark by R158 (DEDUCED, log entry 33). -/
def State.assessPort (s : State) (n : PortNo) : State :=
  let p := s.port n
  if p.state = .isolated then
    (if p.breakMark then s.probeFailure (.port n) else s).mapPort n fun q =>
      { q with breakMark := q.inBreak, creditMark := false }
  else s.mapPort n fun q => { q with creditMark := false }

/-- An expiry of the probe timer (R148). -/
def State.probeExpiry (s : State) : State :=
  let s1 := if s.segBIsolated then s.assessSegment else s.chooseStation
  let s2 : State := { s1 with hm := { s1.hm with
    jabberMark := false, probeTimer := 1000 * s1.hm.probeInterval } }
  (List.finRange 8).foldl State.assessPort s2

/-- A PENDING probe poll may begin: transmitter B IDLE and line B quiet for at least 2 character times; a station probe
also waits for forwarded bursts and for the watch of segment B (R30, R151, R152). -/
def State.probeMayStart (s : State) (k : ProbeKind) (quiet : Nat) : Bool :=
  s.ti.segB.available quiet && decide (2 ≤ quiet) &&
    match k with
    | .segment => true
    | .station => s.noCopy && s.ti.segB.watch.isNone

/-- The probe poll begins on segment B; the gate opens for a segment probe, and the pointer passes a station that is
probed (R149, R151, R152). -/
def State.startProbe (s : State) (p : Probe) : State :=
  let x := s.ti.segB
  let s1 := s.setSeg .b { x with tx := .probe, line := probeBurst x.profile p.target }
  let s2 := s1.setProbe (some { p with phase := .sending })
  match p.kind with
  | .segment => s2.setGate false
  | .station => { s2 with hm := { s2.hm with stationPointer := p.target + 1 } }

/-- Evidence from a good frame on an ISOLATED port: at most one credit in each probe interval (R156). -/
def State.portEvidence (s : State) (n : PortNo) : State :=
  if (s.port n).creditMark then s
  else (s.mapPort n fun p => { p with creditMark := true }).probeCredit (.port n)

end Sys2Proof.Machine
end

