-- ==== Sys2Proof/Machine/Receive.lean ====
section
/-! DEFINITION. The events of the segment receivers and transmitters (sections 2.2 to 2.5). -/

namespace Sys2Proof.Machine

/-! ### Watches (R36, R37) -/

/-- A watch is armed for a station; one armed already is first resolved as a miss (R36). That miss may isolate segment B, or
the very station for which the watch is being armed. R34 and R37 disarm a watch at such an isolation; the new one is armed after it, and
stands (DEDUCED, log entry 17). -/
def State.armWatch (s : State) (g : Seg) (a : Address) : State :=
  let window := (s.seg g).profile.deadline + 2
  let s1 := match (s.seg g).watch with
    | none => s
    | some w => (s.setSeg g { s.seg g with watch := none }).pollMiss g w.station
  s1.setSeg g { s1.seg g with watch := some ⟨a, window⟩ }

/-- A REPLY address character resolves an armed watch: answered by its station, a miss by any other (R37). -/
def State.resolveWatch (s : State) (g : Seg) (a : Address) : State :=
  match (s.seg g).watch with
  | none => s
  | some w =>
    let s1 := s.setSeg g { s.seg g with watch := none }
    if w.station = a then s1 else s1.pollMiss g w.station

/-! ### The forwarding decision (R29, R30, R32, R33) -/

/-- The copy of a burst whose address character has just been taken: that character waits in its buffer (R31). -/
def Copy.ofAddress (k : BurstKind) (a : Address) : Copy :=
  { kind := k, station := a, started := false, syncLeft := 0, buffer := [addressChar k a], sourceEnded := false }

/-- A burst for segment `g` begins its copy, or is dropped with a CONFLICT event against its source (R29, R30). -/
def State.forwardNow (s : State) (g : Seg) (k : BurstKind) (a : Address) (quiet : Nat) : State :=
  if (s.seg g).copy.isNone && (s.seg g).available quiet then
    s.setSeg g ((s.seg g).beginCopy (Copy.ofAddress k a))
  else s.chargeConflict g.other

/-- The burst is held in the forwarding buffer behind a probe poll (R30). -/
def State.holdForward (s : State) (k : BurstKind) (a : Address) : State :=
  let x := s.ti.segB
  if x.copy.isNone then
    s.setSeg .b { x with copy := some (Copy.ofAddress k a) }
  else s.chargeConflict .a

/-- The conditions of R32 other than the transmitter, and R12's verdict on a REPLY: R32's table has no test for a conflicting
reply, R12 withholds one on either segment, and the model follows R12 (DEDUCED, log entry 27). -/
def State.mayForwardToB (s : State) (k : BurstKind) (a : Address) : Bool :=
  !s.segBIsolated && s.sameProfile && !s.shownIsolated a &&
    match s.ti.segA.profile.mode with
    | .flood => k != .reply || !s.replyConflicts .a a
    | .filtered => k != .reply && ((s.entry a).location == .segB || (s.entry a).location == .none)

/-- A burst whose address character is taken on segment A (R32, R30, R154). -/
def State.forwardToB (s : State) (k : BurstKind) (a : Address) (quiet : Nat) : State :=
  if s.mayForwardToB k a then
    match s.hm.probe with
    | some ⟨.sending, _, _⟩ => s.holdForward k a
    | some ⟨.replyIn, _, _⟩ => s.chargeConflict .a
    | some ⟨.awaiting _, _, _⟩ => (s.setProbe none).forwardNow .b k a quiet
    | some ⟨.pending, _, _⟩ | none => s.forwardNow .b k a quiet
  else s

/-- The conditions of R33 other than the transmitter; `awaited`: the probe scheduler awaits a reply from the station. -/
def State.mayForwardToA (s : State) (k : BurstKind) (a : Address) (awaited : Bool) : Bool :=
  !s.segBIsolated && s.sameProfile && !s.shownIsolated a &&
    match k with
    | .reply => !s.replyConflicts .b a && !awaited
    | .poll | .select => s.ti.segB.profile.mode == .flood

/-- A burst whose address character is taken on segment B (R33). -/
def State.forwardToA (s : State) (k : BurstKind) (a : Address) (awaited : Bool) (quiet : Nat) : State :=
  if s.mayForwardToA k a awaited then s.forwardNow .a k a quiet else s

/-! ### The receiver -/

/-- A receiver takes bits: its own transmitter is not SENDING (R25). -/
def Segment.takesBits (x : Segment) : Bool := x.tx == .idle

/-- A receiver in IN_BURST with no character yet taken (R21). -/
def TrunkRx.inBurst : TrunkRx := { TrunkRx.hunting with phase := .inBurst }

/-- The receiver awaits the burst's address character (R22). -/
def TrunkRx.awaitsAddress (r : TrunkRx) : Bool := r.phase == .inBurst && !r.malformed && r.address.isNone

/-- The probe scheduler awaits a reply from a station on segment B (R26). -/
def State.awaitsReply (s : State) (a : Address) : Bool :=
  match s.hm.probe with
  | some ⟨.awaiting _, _, t⟩ => t == a
  | _ => false

/-- A REPLY address character on segment B reaches a probe in AWAITING (R153). -/
def State.probeSees (s : State) (a : Address) : State :=
  match s.hm.probe with
  | some ⟨.awaiting w, k, t⟩ =>
    if t = a then s.setProbe (some ⟨.replyIn, k, t⟩) else s.probeOutcome ⟨.awaiting w, k, t⟩ false
  | _ => s

/-- A receiver takes a burst's address character and hands it on at once: to the watch, the probe scheduler and the
repeater (R26). -/
def State.addressTaken (s : State) (g : Seg) (k : BurstKind) (a : Address) (quiet : Nat) : State :=
  let x := s.seg g
  if x.takesBits && x.rx.awaitsAddress then
    let s1 := s.setSeg g { x with rx := { x.rx with address := some (k, a), endsInMark := true } }
    let s2 := if k = .reply then s1.resolveWatch g a else s1
    match g with
    | .a => s2.forwardToB k a quiet
    | .b => (if k = .reply then s2.probeSees a else s2).forwardToA k a (s.awaitsReply a) quiet
  else s

/-- A character other than the address character joins the receiver's burst (R22). -/
def TrunkRx.take (r : TrunkRx) (sync : Byte) (ch : TrunkChar) : TrunkRx :=
  let r1 := { r with endsInMark := marker ch }
  if r.malformed then r1
  else
    match r.address with
    | none => if ch = dataChar sync then r1 else { r1 with malformed := true }
    | some _ =>
      if marker ch = false then { r1 with body := r.body ++ [charValue ch] }
      else if ch = fillChar then r1
      else { r1 with malformed := true }

/-- A receiver in SYNC1 or IN_BURST takes a character that is not the burst's address character (R21, R22); a forwarded
copy sends each character after the address on (R31). -/
def State.characterOnTrunk (s : State) (g : Seg) (ch : TrunkChar) : State :=
  let x := s.seg g
  if x.takesBits then
    match x.rx.phase with
    | .hunt => s
    | .sync1 =>
      s.setSeg g { x with rx := if ch = dataChar x.profile.sync then .inBurst else .hunting }
    | .inBurst =>
      if x.rx.awaitsAddress && isBurstAddress ch then s
      else
        let s1 := s.setSeg g { x with rx := x.rx.take x.profile.sync ch }
        if x.rx.address.isSome then s1.forwardChar g.other ch else s1
  else s

/-! ### The end of a burst (R23, R27) -/

inductive Verdict where
  | truncated | malformed | checkError | valid
  deriving DecidableEq, Repr

/-- The count of body characters suits the kind (R20). -/
def countSuits (k : BurstKind) (n : Nat) : Bool :=
  match k with
  | .poll => n == 2
  | .select => decide (2 ≤ n) && decide (n ≤ 129)
  | .reply => decide (2 ≤ n) && decide (n ≤ 130)

/-- The verdict on a burst that idle ends (R23). -/
def TrunkRx.verdict (r : TrunkRx) (inside : Bool) : Verdict :=
  if inside || r.endsInMark then .truncated
  else
    match r.address with
    | none => .malformed
    | some (k, _) =>
      if r.malformed || !countSuits k r.body.length then .malformed
      else if byteSum r.body ≠ 0 then .checkError
      else .valid

/-- A valid burst is handed on with its station, codes and message (R26). -/
def State.validBurst (s : State) (g : Seg) (k : BurstKind) (a : Address) (body : List Byte) : State :=
  match k, g with
  | .reply, _ => s.learn g a
  | _, .b => s
  | k, .a =>
    let s1 := if (s.entry a).location = .segA then s.armWatch .a a else s
    s1.takeRequest a (if k = .poll then .poll (body.headD 0) else .select body.dropLast)

/-- A burst's verdict takes effect: an error event, or the handing on (R26, R27). -/
def State.applyVerdict (s : State) (g : Seg) (r : TrunkRx) (v : Verdict) : State :=
  match v with
  | .truncated => s.chargeSegment g s.hm.weights.truncated
  | .malformed => s.chargeSegment g s.hm.weights.malformed
  | .checkError =>
    let s1 := match r.address with
      | some (.reply, a) =>
        if (s.entry a).location = segLocation g then s.chargeStation a s.hm.weights.stationCheckError else s
      | _ => s
    s1.chargeSegment g s.hm.weights.segmentCheckError
  | .valid =>
    match r.address with
    | some (k, a) => s.validBurst g k a r.body
    | none => s

/-- The reply that a probe awaited ends, or is cut (R153). -/
def State.probeReplyEnds (s : State) (g : Seg) (success : Bool) : State :=
  match g, s.hm.probe with
  | .b, some ⟨.replyIn, k, t⟩ => s.probeOutcome ⟨.replyIn, k, t⟩ success
  | _, _ => s

/-- Idle is recognized in IN_BURST (R23). The verdict acts before the outcome of a probe whose reply ends here: also where a valid
reply conflicts with the directory, the CONFLICT of R13 is charged before the credit of R155 (DEDUCED, log entry 18). -/
def State.burstEnds (s : State) (g : Seg) (inside : Bool) : State :=
  let x := s.seg g
  if x.takesBits && x.rx.phase == .inBurst then
    let v := x.rx.verdict inside
    let s1 := (s.setSeg g { x with rx := .hunting, activity := none }).endSource g.other
    ((s1.applyVerdict g x.rx v).probeReplyEnds g (v == .valid)).takeUpBoth
  else s

/-- Idle is recognized in HUNT or SYNC1 (R21, R24). -/
def State.idleSeen (s : State) (g : Seg) : State :=
  let x := s.seg g
  if x.takesBits && x.rx.phase != .inBurst then
    (s.setSeg g { x with rx := .hunting, activity := none }).takeUpBoth
  else s

/-! ### The end of a copy, and jabber -/

/-- The end of a forwarded copy arms the watch of segment B for a poll or select whose entry is SEG_B (R36). -/
def State.armAfterCopy (s : State) (g : Seg) (c : Copy) : State :=
  if g = .b ∧ c.kind ≠ .reply ∧ (s.entry c.station).location = .segB then s.armWatch .b c.station else s

/-- A jabber event cuts the copy of its burst at once; the buffer is discarded (R24, R35). A copy whose source ended
before is of an earlier burst, and goes on. -/
def State.cutCopy (s : State) (g : Seg) : State :=
  match (s.seg g).copy with
  | none => s
  | some c =>
    if c.sourceEnded then s
    else if c.started then (s.stopCopy g).armAfterCopy g c
    else s.stopCopy g

/-- A JABBER event reaches the Health Monitor; against segment B it sets the jabber mark (R27, R148). -/
def State.chargeJabber (s : State) (g : Seg) : State :=
  let s1 : State := match g with
    | .a => s
    | .b => { s with hm := { s.hm with jabberMark := true } }
  s1.chargeSegment g s.hm.weights.jabber

/-- The activity measure reaches a multiple of the jabber limit (R24, R35, R153). A JABBER on segment A that cuts a copy on segment B
arms the watch of segment B (R36): an earlier watch's POLL_MISS is charged, and reported, before the JABBER (DESIGN CHOICE, log
entry 37). -/
def State.jabbers (s : State) (g : Seg) : State :=
  let x := s.seg g
  if x.takesBits then
    let s1 := s.setSeg g { x with rx := .hunting, activity := some (x.activity.getD 0 + 1) }
    let s2 := if x.rx.phase = .inBurst then s1.cutCopy g.other else s1
    ((s2.chargeJabber g).probeReplyEnds g false).takeUpBoth
  else s

/-! ### The transmitters (R28, R31) -/

/-- A held burst begins on segment B once the line is available (R30, R31). -/
def State.startHeld (s : State) (quiet : Nat) : State :=
  let x := s.ti.segB
  match x.copy with
  | none => s
  | some c => if c.started = false ∧ x.available quiet = true then s.setSeg .b (x.beginCopy c) else s

/-- A forwarded copy ends: the characters still in the buffer have been sent and the source's end has been taken (R31). -/
def State.copyEnds (s : State) (g : Seg) (c : Copy) : State :=
  let x := s.seg g
  let rest := List.replicate c.syncLeft (dataChar x.profile.sync) ++ c.buffer
  (s.setSeg g { x with tx := .idle, line := x.line ++ rest, copy := none }).armAfterCopy g c

/-- The probe poll has been sent: the reply window opens, and the gate closes again over an ISOLATED segment (R149, R151,
R153). -/
def State.probeSent (s : State) (g : Seg) : State :=
  let x := s.seg g
  let s1 := s.setSeg g { x with tx := .idle }
  let s2 := match s.hm.probe with
    | some ⟨.sending, k, t⟩ => s1.setProbe (some ⟨.awaiting (x.profile.deadline + 2), k, t⟩)
    | _ => s1
  if s.segBIsolated then s2.setGate true else s2

/-- A segment transmitter finishes its burst (R28, R31, R43, R149). -/
def State.transmitterEnds (s : State) (g : Seg) : State :=
  let x := s.seg g
  match x.tx with
  | .idle => s
  | .reply =>
    match s.pr with
    | .sending _ _ _ => { s.setSeg g { x with tx := .idle } with pr := .idle }.takeUpBoth
    | _ => s
  | .copy =>
    match x.copy with
    | some c => if c.sourceEnded then (s.copyEnds g c).takeUpBoth else s
    | none => s
  | .probe => (s.probeSent g).takeUpBoth

end Sys2Proof.Machine
end

