-- ==== Sys2Proof/Machine/DeskReceive.lean ====
section
/-! DEFINITION. The events of a port receiver: characters, frames, gaps and breaks (sections 4.1, 4.3 and 4.4). -/

namespace Sys2Proof.Machine

/-- The port states in which error events are raised (R75). -/
def PortState.raisesEvents : PortState → Bool
  | .online | .detached | .isolated => true
  | .standby | .stopping => false

/-- The receiver takes characters: it is not off, and its line is not in break (R64, R67, R69). -/
def Port.listens (p : Port) : Bool :=
  !p.inBreak &&
    match p.state with
    | .online | .detached | .isolated => true
    | .stopping => p.receiving
    | .standby => false

/-- The verdicts of R70. -/
inductive FrameVerdict where
  | overrun | lengthFault | characterFault | checkFault | kindFault | good
  deriving DecidableEq, Repr

/-- The kinds that a desk may send (R70). -/
def deskKind (k : Byte) : Bool :=
  k == kindMsg || k == kindPrintOpen || k == kindPrintData || k == kindPrintClose || k == kindPrintCancel
    || k == kindQuery

/-- LEN suits the kind (R70, test 6). -/
def lenSuits (k : Byte) (n : Nat) : Bool :=
  if k = kindMsg ∨ k = kindPrintData then decide (1 ≤ n) && decide (n ≤ 128)
  else if k = kindPrintOpen ∨ k = kindPrintCancel then n == 1
  else n == 0

/-- The verdict on a frame that ends with its last character: `overlong` when that was a LEN above 128, else its CHECK
(R70). -/
def Port.frameVerdict (p : Port) (r : PortRx) (overlong : Bool) (check : Byte) : FrameVerdict :=
  if 4 ≤ p.responses.length then .overrun
  else if overlong then .lengthFault
  else if r.errorMark then .characterFault
  else if byteSum (r.kind :: r.len :: r.payload) + check ≠ 0 then .checkFault
  else if !deskKind r.kind then .kindFault
  else if !lenSuits r.kind r.len.toNat then .lengthFault
  else .good

/-- The reason that a failing verdict's NAK carries (R70). -/
def FrameVerdict.nak : FrameVerdict → Option NakReason
  | .lengthFault => some .length
  | .characterFault | .checkFault => some .check
  | .kindFault => some .kind
  | .overrun | .good => none

/-- The weight of the event that a verdict raises (R70, R75). -/
def FrameVerdict.weight (w : Weights) : FrameVerdict → Option Byte
  | .overrun => some w.overrun
  | .lengthFault | .kindFault => some w.protocol
  | .checkFault => some w.frameCheck
  | .characterFault | .good => none

/-- A good MSG frame (R72). -/
def State.messageFrame (s : State) (n : PortNo) (payload : List Byte) : State :=
  if (s.mappedAddress n).isNone then (s.respond n (.nak kindMsg .noAddress)).fillNil n
  else if 4 ≤ (s.port n).upstream.length then (s.respond n (.nak kindMsg .queueFull)).fillNil n
  else
    ((s.mapPort n fun p => { p with upstream := p.upstream ++ [payload] }).respond n (.ack kindMsg)).fillData n payload

/-- A good print frame: the Spool Manager's verdict is the response, and precedes the notices (R73, R93). -/
def State.printFrame (s : State) (n : PortNo) (kind : Byte) (payload : List Byte) : State :=
  match s.mappedAddress n with
  | none => s.respond n (.nak kind .noAddress)
  | some a =>
    match s.printRefusal (.desk a) kind payload with
    | some r => s.respond n (.nak kind r)
    | none => (s.respond n (.ack kind)).printEffect (.desk a) kind payload

/-- A good frame completed in ONLINE or DETACHED (section 4.4). -/
def State.goodFrame (s : State) (n : PortNo) (kind : Byte) (payload : List Byte) : State :=
  if kind = kindMsg then s.messageFrame n payload
  else if kind = kindQuery then s.notifyLink n
  else s.printFrame n kind payload

/-- A frame's verdict takes effect in the port's state at its completion, but for its error event (R70). A frame that is
not appended commits a fill to NIL (R52). -/
def State.applyFrame (s : State) (n : PortNo) (r : PortRx) (v : FrameVerdict) : State :=
  match (s.port n).state with
  | .standby => s
  | .stopping => s.finishStopping n
  | .isolated => if v = .good then s.portEvidence n else s
  | .online | .detached =>
    match v with
    | .good => s.goodFrame n r.kind r.payload
    | .overrun => s.fillNil n
    | v =>
      (match v.nak with
        | some reason => s.respond n (.nak r.kind reason)
        | none => s).fillNil n

/-- A CHAR_ERROR event (R64, R75). -/
def State.charError (s : State) (n : PortNo) (error : Bool) : State :=
  if error = true ∧ (s.port n).state.raisesEvents = true then s.chargePort n s.hm.weights.charError else s

/-- The event of a verdict (R70, R75). -/
def State.frameEvent (s : State) (n : PortNo) (v : FrameVerdict) : State :=
  match v.weight s.hm.weights with
  | some w => if (s.port n).state.raisesEvents then s.chargePort n w else s
  | none => s

/-- The receiver returns to LEAD_HUNT. -/
def Port.endFrame (p : Port) : Port := { p with rx := .hunting, gapTimer := none, gapHeld := false }

/-- A frame ends with the character just taken, and receives its verdict (R70). The character's own event and the
verdict's follow the frame's effect. -/
def State.frameEnds (s : State) (n : PortNo) (r : PortRx) (overlong : Bool) (check : Byte) (error : Bool) : State :=
  let v := (s.port n).frameVerdict r overlong check
  (((s.mapPort n Port.endFrame).applyFrame n r v).charError n error).frameEvent n v

/-- The frame goes on: its gap timer restarts (R71). -/
def State.frameGoesOn (s : State) (n : PortNo) (r : PortRx) (error : Bool) : State :=
  (s.mapPort n fun p => { p with rx := r, gapTimer := some p.profile.gap, gapHeld := false }).charError n error

/-- The receiver takes one character (R69). -/
def State.portCharacter (s : State) (n : PortNo) (value : Byte) (error : Bool) : State :=
  let p := s.port n
  let r : PortRx := { p.rx with errorMark := p.rx.errorMark || error }
  if p.listens then
    match p.rx.phase with
    | .leadHunt =>
      if value = frameLead ∧ error = false then s.frameGoesOn n { PortRx.hunting with phase := .kind } false
      else s.charError n error
    | .kind => s.frameGoesOn n { r with kind := value, phase := .len } error
    | .len =>
      if value = 0 then s.frameGoesOn n { r with len := value, phase := .check } error
      else if value.toNat ≤ 128 then s.frameGoesOn n { r with len := value, phase := .payload } error
      else s.frameEnds n { r with len := value } true 0 error
    | .payload =>
      let payload := r.payload ++ [value]
      s.frameGoesOn n
        { r with payload, phase := if payload.length < r.len.toNat then .payload else .check } error
    | .check => s.frameEnds n r false value error
  else s

/-- The character completes the frame in reception: its CHECK, or a LEN above 128 (R70). -/
def Port.completes (p : Port) (value : Byte) : Bool :=
  match p.rx.phase with
  | .check => true
  | .len => decide (128 < value.toNat)
  | .leadHunt | .kind | .payload => false

/-- The gap limit passes: the frame is abandoned (R71). -/
def State.gapExpires (s : State) (n : PortNo) : State :=
  let p := s.port n
  if p.receiving = true ∧ p.gapHeld = false then
    let s1 := (s.mapPort n Port.endFrame).fillNil n
    if p.state = .stopping then s1.finishStopping n
    else if p.state.raisesEvents then s1.chargePort n s1.hm.weights.frameTruncated
    else s1
  else s

/-- A break is recognized: any frame in reception ends, and one BREAK event is raised (R64, R69, R157). -/
def State.breakBegins (s : State) (n : PortNo) : State :=
  let p := s.port n
  if p.inBreak then s
  else
    let s1 := s.mapPort n fun q =>
      { q.endFrame with inBreak := true, breakMark := q.breakMark || q.state == .isolated }
    let s2 := if p.receiving then s1.fillNil n else s1
    if p.state = .stopping then s2.finishStopping n
    else if p.state.raisesEvents then s2.chargePort n s2.hm.weights.breakWeight
    else s2

end Sys2Proof.Machine
end

