-- ==== Sys2Proof/Machine/Records.lean ====
section
/-! DEFINITION. The records that the read commands return (R186), each a view of the state as it stands. -/

namespace Sys2Proof.Machine

/-- READ_STATUS (R176). -/
def State.statusRecord (s : State) : List Byte :=
  bytes2 s.au.flags.toNat ++ bytes2 s.au.alerts.toNat ++ bytes2 s.au.reports.toNat
    ++ [byteOf s.au.queue.length, s.au.nextSequence] ++ bytes2 s.au.seconds.toNat
    ++ [s.hm.segA.state.code, s.hm.segB.state.code]
    ++ (List.finRange 8).map (fun n => (s.port n).state.code)
    ++ [s.pe.state.code, s.pe.state.reasonCode] ++ bytes2 s.sm.free.length ++ [byteOf s.sm.jobs.length]

/-- READ_ENTRY (R17). PRIMARY reads as an unused entry but for its accounts. -/
def State.entryRecord (s : State) (src : Source) : List Byte :=
  match src with
  | .desk a =>
    let e := s.entry a
    let h := s.object (s.shownObject a)
    [src.code, e.location.code, e.location.portCode, e.origin.code, e.standIn.code, byteOf e.age]
      ++ bytes2 e.quota ++ bytes2 e.held ++ bytes2 h.score ++ [h.state.code, boolCode h.mayIsolate]
  | .primary =>
    [src.code, Location.none.code, 0, Origin.static.code, StandIn.silent.code, 0]
      ++ bytes2 s.sd.primaryQuota ++ bytes2 s.sd.primaryHeld ++ bytes2 0 ++ [Health.active.code, boolCode true]

/-- The frame in reception: 0 none, 1 LEAD taken, 2 KIND taken. -/
def FramePhase.receptionCode : FramePhase → Byte
  | .leadHunt => 0
  | .kind => 1
  | .len | .payload | .check => 2

/-- The KIND of the frame in reception, when it has been taken. -/
def PortRx.kindCode (r : PortRx) : Byte :=
  match r.phase with
  | .leadHunt | .kind => noneByte
  | .len | .payload | .check => r.kind

/-- The delivery state of the upstream head. -/
def Port.headCode (p : Port) : Byte := if p.upstream.isEmpty then 0 else if p.headSent then 2 else 1

/-- READ_PORT (R82). -/
def State.portRecord (s : State) (n : PortNo) : List Byte :=
  let p := s.port n
  [byteOf n.val, p.state.code, byteOf p.profile.rate.val, p.profile.parity.code, byteOf p.profile.stopBits,
    byteOf p.profile.gap, boolCode (!p.profile.peerUsed),
    match s.mappedAddress n with | some a => byteOf a.val | none => noneByte,
    boolCode p.srdy, boolCode p.detachTimer.isSome, byteOf p.upstream.length, p.headCode, byteOf p.downstream.length,
    byteOf p.responses.length, byteOf p.notices.length, p.rx.phase.receptionCode, p.rx.kindCode, p.tx.code]

/-- READ_HEALTH of one object (R146). -/
def State.healthRecord (s : State) (o : ObjectId) : List Byte :=
  let h := s.object o
  [o.code] ++ bytes2 h.score ++
    [h.state.code, boolCode h.mayIsolate, boolCode (s.effectiveMayIsolate o), boolCode h.limitMark]

/-- The 16 bytes of SET_WEIGHTS in its order (R185). -/
def weightBytes (w : Weights) : List Byte :=
  [w.stationCheckError, w.stationPollMiss, w.segmentCheckError, w.segmentPollMiss, w.jabber, w.conflict, w.malformed,
    w.truncated, w.charError, w.frameCheck, w.frameTruncated, w.overrun, w.breakWeight, w.protocol, w.credit, w.penalty]

/-- READ_HEALTH with PARAMETERS (R146). -/
def State.parameterRecord (s : State) : List Byte :=
  bytes2 s.hm.suspect ++ bytes2 s.hm.isolate ++ bytes2 s.hm.readmit
    ++ [byteOf s.hm.shift, byteOf s.hm.decayInterval, byteOf s.hm.probeInterval] ++ weightBytes s.hm.weights

/-- A block position: a block in two bytes and an offset, or none. -/
def positionBytes : Option Position → List Byte
  | some p => bytes2 p.block.val ++ [byteOf p.offset.val]
  | none => [noneByte, noneByte, noneByte]

/-- A block number in two bytes, or none. -/
def blockBytes : Option (Fin 512) → List Byte
  | some b => bytes2 b.val
  | none => [noneByte, noneByte]

/-- Bits 0 upwards of one byte. -/
def flagByte (bits : List Bool) : Byte :=
  byteOf (bits.foldr (fun b acc => (if b then 1 else 0) + 2 * acc) 0)

/-- READ_PRINTER (R126). Without a PRINTING job, its fields read as none and the handshake as 0. While a job is in CLAIMING no copy
is in progress: the copy phase reads 0, TEXT, also for a job that a disable returned in END_FF and that claims once more; and for a
job that has never run the position and the page mark read as none, as R186 has them in a job record (DESIGN CHOICE, log entry
32). -/
def State.printerRecord (s : State) : List Byte :=
  let e := s.pe
  [e.state.code, e.state.reasonCode]
    ++ (match s.printing? with
      | some j =>
        [byteOf j.id] ++ positionBytes j.position ++ positionBytes j.pageMark
          ++ [e.phase.code, byteOf j.copiesDone, byteOf j.copies, e.handshake.code]
      | none =>
        [0] ++ positionBytes none ++ positionBytes none ++ [noneByte, noneByte, noneByte, 0])
    ++ [flagByte [e.stopPending, e.disablePending, e.pendingPaper, e.pendingFault, e.grantLost],
      flagByte [e.psel, e.ppe, e.pfltN, e.pbusy, e.pgnt, e.preq],
      boolCode e.releaseTimer.isSome, boolCode e.profile.shared, boolCode e.profile.resumeChar,
      boolCode e.profile.formFeedAtEnd, byteOf e.profile.ackTimeout, byteOf e.profile.releaseGap]

/-- The jobs as LIST_JOBS gives them: the closed ones in queue order, then the OPEN ones in the order of their
openings (R107). -/
def State.listedJobs (s : State) : List Job :=
  s.sm.queue.filterMap s.job? ++ s.sm.jobs.filter fun j => j.state == .opened

/-- LIST_JOBS (R107). -/
def State.jobList (s : State) : List Byte :=
  bytes2 s.sm.free.length ++ [byteOf s.sm.jobs.length]
    ++ s.listedJobs.flatMap fun j => [byteOf j.id, j.source.code, j.state.code]

/-- READ_JOB (R107). -/
def State.jobRecord (s : State) (j : Job) : List Byte :=
  [byteOf j.id, j.source.code, j.state.code, j.priority.code, byteOf j.copies, byteOf j.copiesDone]
    ++ bytes2 j.count ++ bytes2 j.blocks ++ blockBytes j.chain.head? ++ blockBytes j.chain.getLast?
    ++ [byteOf j.lastFill] ++ positionBytes j.position ++ positionBytes j.pageMark
    ++ [byteOf (s.queuePosition j.id), byteOf (j.idleTimer.getD 0 / 1000)]

end Sys2Proof.Machine
end

