-- ==== Sys2Proof/Machine/Link.lean ====
section
/-! DEFINITION. How a command of the administration link is executed: its answer, the response buffer, and the command
list of its transaction (R170, R171, R173). -/

namespace Sys2Proof.Machine

/-- What a command answers: a status and its result bytes. -/
abbrev Answer := Status × List Byte

/-- A command as its block acts on it whole (R170). A status other than OK leaves the state as it was (R173). -/
abbrev Command := State → Answer × State

/-- Accepted, with no result bytes. -/
def accept (s : State) : Answer × State := ((.ok, []), s)

/-- Refused: nothing changes. -/
def refuse (st : Status) (s : State) : Answer × State := ((st, []), s)

/-- A record read: nothing changes. -/
def answer (bytes : List Byte) (s : State) : Answer × State := ((.ok, bytes), s)

/-- The response buffer is rewritten whole (R173). -/
def AdminLink.respond (al : AdminLink) (a : Answer) : AdminLink :=
  { al with response := { status := a.1, index := al.index, result := if a.1 = .ok then a.2 else [] } }

/-- After an execution, the command list goes on or ends (R170, R171): it goes on after status OK with continuation 1,
unless a RESTART was accepted (R178). -/
def AdminLink.goOn (al : AdminLink) (st : Status) (cont : Bool) : AdminLink :=
  if st = .ok ∧ cont = true ∧ al.pendingRestart = none then
    { al with phase := .lead, index := min 255 (al.index + 1), remaining := 0, args := [] }
  else { al with phase := .discard, remaining := 0, args := [] }

/-- What `exec` answers. -/
abbrev Result := Host.Outcome State Fault Refusal

/-- A command is executed in the event of taking its last byte (R170). -/
def State.execute (s : State) (cont : Bool) (c : Command) : State :=
  let r := c s
  r.2.mapAl fun al => (al.respond r.1).goOn r.1.1 cont

end Sys2Proof.Machine
end

