-- ==== Sys2Proof/Machine/AlertCommands.lean ====
section
/-! DEFINITION. The alert family: SET_ALERTS, CLEAR_CAUSES, READ_REPORT and the seconds counter (chapter 9). -/

namespace Sys2Proof.Machine

/-- SET_ALERTS (R159): both enables of every cause, together. -/
def setAlertsCommand (alerts reports : BitVec 16) : Command := fun s =>
  match causesOf alerts, causesOf reports with
  | some a, some r => accept { s with au := { s.au with alerts := a, reports := r } }
  | _, _ => refuse .badValue s

/-- CLEAR_CAUSES (R164): the flags named are cleared. -/
def clearCausesCommand (causes : BitVec 16) : Command := fun s =>
  match causesOf causes with
  | some c => accept { s with au := { s.au with flags := s.au.flags &&& ~~~c } }
  | none => refuse .badValue s

/-- READ_REPORT (R165): the oldest record is removed and returned. -/
def readReportCommand : Command := fun s =>
  match s.au.queue with
  | [] => refuse .empty s
  | r :: rest => answer r.bytes { s with au := { s.au with queue := rest } }

def execSetAlerts (cont : Bool) (alerts reports : BitVec 16) (s : State) : Result :=
  .next (s.execute cont (setAlertsCommand alerts reports))

def execClearCauses (cont : Bool) (causes : BitVec 16) (s : State) : Result :=
  .next (s.execute cont (clearCausesCommand causes))

def execReadReport (cont : Bool) (s : State) : Result := .next (s.execute cont readReportCommand)

/-- SECONDS_COUNTER_TICK (R166): the counter grows by one, from 65535 to 0. -/
def execSecondsCounterTick (s : State) : Result :=
  .next { s with au := { s.au with seconds := s.au.seconds + 1, secondTimer := 1000 } }

end Sys2Proof.Machine
end

