-- ==== Sys2Proof/Machine/DirectoryCommands.lean ====
section
/-! DEFINITION. The directory family: READ_ENTRY, WRITE_ENTRY, CLEAR_ENTRY, SET_PRINTER_ADDRESS, SET_QUOTA and the
minute timer (chapter 1). -/

namespace Sys2Proof.Machine

/-! ### Commands -/

/-- READ_ENTRY (R17). -/
def readEntryCommand (source : Byte) : Command := fun s =>
  match sourceOf source with
  | none => refuse .badValue s
  | some src => answer (s.entryRecord src) s

/-- Another address has location PORT n (R9, case 4). -/
def State.takenByOther (s : State) (a : Address) (l : Location) : Bool :=
  match l with
  | .port _ => (List.finRange 63).any fun b => b != a && (s.entry b).location == l
  | _ => false

/-- The entry lives on a port that is not STANDBY (R9, case 5; R10). -/
def State.onBusyPort (s : State) (a : Address) : Bool :=
  match (s.entry a).location with
  | .port m => (s.port m).state != .standby
  | _ => false

/-- An entry's routing is written as STATIC with age 0 (R8); the station object is set when the location changes (R3), and
an ONLINE port that gains the address tells its desk (R8, R80). -/
def State.writeEntry (s : State) (a : Address) (l : Location) (st : StandIn) : State :=
  let e := s.entry a
  let s1 := s.setEntry a { e with location := l, origin := .static, standIn := st, age := 0 }
  if l = e.location then s1
  else
    let s2 := s1.clearKeeping (.station a)
    match l with
    | .port n => s2.notifyLink n
    | _ => s2

/-- WRITE_ENTRY (R8, R9). -/
def writeEntryCommand (address location port standIn : Byte) : Command := fun s =>
  match addressOf address, locationOf location port, standInOf standIn with
  | some a, some l, some st =>
    if s.takenByOther a l then refuse .inUse s
    else if l ≠ (s.entry a).location ∧ s.onBusyPort a = true then refuse .inUse s
    else accept (s.writeEntry a l st)
  | _, _, _ => refuse .badValue s

/-- One address returns to the unused state; quota and held are kept (R10). -/
def State.clearEntry (s : State) (a : Address) : State :=
  (s.setEntry a { (s.entry a).vacated with standIn := .silent }).clearObject (.station a) true

/-- CLEAR_ENTRY (R10). -/
def clearEntryCommand (address : Byte) : Command := fun s =>
  match addressOf address with
  | none => refuse .badValue s
  | some a => if s.onBusyPort a then refuse .inUse s else accept (s.clearEntry a)

/-- The previous printer address, if it is another one, returns to NONE (R11). -/
def State.vacatePrinter (s : State) (a : Address) : State :=
  match s.printerAddress with
  | none => s
  | some b => if b = a then s else (s.setEntry b (s.entry b).vacated).clearKeeping (.station b)

/-- One address becomes the printer address (R11, R3). -/
def State.makePrinter (s : State) (a : Address) : State :=
  if (s.entry a).location = .printer then s
  else
    let s1 := s.vacatePrinter a
    (s1.setEntry a { s1.entry a with location := .printer, origin := .static, age := 0 }).clearKeeping (.station a)

/-- The entry lives on a port (R11). -/
def Location.isPort : Location → Bool
  | .port _ => true
  | .none | .segA | .segB | .printer => false

/-- SET_PRINTER_ADDRESS (R11). -/
def setPrinterAddressCommand (address : Byte) : Command := fun s =>
  match addressOf address with
  | none => refuse .badValue s
  | some a => if (s.entry a).location.isPort then refuse .inUse s else accept (s.makePrinter a)

def State.setQuota (s : State) (src : Source) (n : Nat) : State :=
  match src with
  | .primary => { s with sd := { s.sd with primaryQuota := n } }
  | .desk a => s.setEntry a { s.entry a with quota := n }

/-- SET_QUOTA (R5). -/
def setQuotaCommand (source : Byte) (quota : BitVec 16) : Command := fun s =>
  match sourceOf source with
  | none => refuse .badValue s
  | some src => if 512 < quota.toNat then refuse .badValue s else accept (s.setQuota src quota.toNat)

/-! ### Meanings -/

def execReadEntry (cont : Bool) (source : Byte) (s : State) : Result :=
  .next (s.execute cont (readEntryCommand source))

def execWriteEntry (cont : Bool) (address location port standIn : Byte) (s : State) : Result :=
  .next (s.execute cont (writeEntryCommand address location port standIn))

def execClearEntry (cont : Bool) (address : Byte) (s : State) : Result :=
  .next (s.execute cont (clearEntryCommand address))

def execSetPrinterAddress (cont : Bool) (address : Byte) (s : State) : Result :=
  .next (s.execute cont (setPrinterAddressCommand address))

def execSetQuota (cont : Bool) (source : Byte) (quota : BitVec 16) (s : State) : Result :=
  .next (s.execute cont (setQuotaCommand source quota))

/-- MINUTE_TIMER_EXPIRY (R15): the timer restarts, and the entries age. -/
def execMinuteTimerExpiry (s : State) : Result :=
  .next { s with sd := { s.sd with minuteTimer := 60000 } }.ageAll

end Sys2Proof.Machine
end

