-- ==== Sys2Proof/Machine/HealthCommands.lean ====
section
/-! DEFINITION. The health family: SET_HEALTH_LIMITS, SET_WEIGHTS, READ_HEALTH, FORCE_ISOLATE, FORCE_READMIT,
SET_MAY_ISOLATE, the decay timer, and the probe scheduler's events (chapters 7 and 8). -/

namespace Sys2Proof.Machine

/-! ### Commands -/

/-- The parameters that SET_HEALTH_LIMITS writes, each in its range and T_r < T_s < T_i (R145). -/
structure HealthLimits where
  suspect : Nat
  isolate : Nat
  readmit : Nat
  shift : Nat
  decay : Nat
  probe : Nat
  deriving DecidableEq, Repr

def healthLimitsOf (suspect isolate readmit : BitVec 16) (shift decay probe : Byte) : Option HealthLimits := do
  let suspect ← inRange 0 1023 suspect.toNat
  let isolate ← inRange 0 1023 isolate.toNat
  let readmit ← inRange 0 1023 readmit.toNat
  let shift ← inRange 1 7 shift.toNat
  let decay ← inRange 1 255 decay.toNat
  let probe ← inRange 1 60 probe.toNat
  if readmit < suspect ∧ suspect < isolate then
    pure { suspect, isolate, readmit, shift, decay, probe }
  else none

/-- The new parameters stand; the decay timer and the probe timer restart from zero with them (R145, R148). -/
def HealthMonitor.setLimits (h : HealthMonitor) (l : HealthLimits) : HealthMonitor :=
  { h with
    suspect := l.suspect, isolate := l.isolate, readmit := l.readmit, shift := l.shift
    decayInterval := l.decay, probeInterval := l.probe
    decayTimer := 10 * l.decay, probeTimer := 1000 * l.probe }

/-- SET_HEALTH_LIMITS (R145): in the same event every object is evaluated against the new thresholds. -/
def setHealthLimitsCommand (suspect isolate readmit : BitVec 16) (shift decay probe : Byte) : Command := fun s =>
  match healthLimitsOf suspect isolate readmit shift decay probe with
  | none => refuse .badValue s
  | some l => accept ({ s with hm := s.hm.setLimits l }.evaluateAll allObjects)

/-- SET_WEIGHTS (R130): every value a byte can hold is in range. -/
def setWeightsCommand (w : Weights) : Command := fun s => accept { s with hm := { s.hm with weights := w } }

/-- READ_HEALTH of one object, or of the parameters for the selector 0xFF (R146). -/
def readHealthCommand (selector : Byte) : Command := fun s =>
  if selector = 0xFF then answer s.parameterRecord s
  else
    match selectorOf selector with
    | none => refuse .badValue s
    | some o => answer (s.healthRecord o) s

/-- The cases, beyond an effective may-isolate of false, in which FORCE_ISOLATE is refused (R143). -/
def State.mayForceIsolate (s : State) (o : ObjectId) : Bool :=
  s.effectiveMayIsolate o &&
    match o with
    | .segment .a => false
    | .station a => (s.entry a).location == .segB
    | .segment .b | .port _ => true

/-- The score becomes 1023 and the limit mark is cleared; an object that was not ISOLATED becomes so (R143). -/
def State.forceIsolate (s : State) (o : ObjectId) : State :=
  let h := s.object o
  let s1 := s.setObject o { h with score := 1023, state := .isolated, limitMark := false }
  if h.state = .isolated then s1 else s1.isolateObject o

/-- FORCE_ISOLATE (R143). -/
def forceIsolateCommand (selector : Byte) : Command := fun s =>
  match selectorOf selector with
  | none => refuse .badValue s
  | some o => if s.mayForceIsolate o then accept (s.forceIsolate o) else refuse .badValue s

/-- FORCE_READMIT (R144). -/
def forceReadmitCommand (selector : Byte) : Command := fun s =>
  match selectorOf selector with
  | none => refuse .badValue s
  | some o => accept (s.clearKeeping o)

/-- The stored flag is written and the object evaluated; an ISOLATED object whose flag is written false is readmitted with
its score kept, and then evaluated as one that is not isolated (R144). -/
def State.setMayIsolate (s : State) (o : ObjectId) (flag : Bool) : State :=
  let h := s.object o
  if h.state = .isolated ∧ flag = false then
    ((s.setObject o { h with mayIsolate := false, state := s.bandOf h.score, limitMark := false }).readmitObject o
      (s.bandOf h.score)).evaluateMark o
  else (s.setObject o { h with mayIsolate := flag }).evaluate o

/-- SET_MAY_ISOLATE (R144). -/
def setMayIsolateCommand (selector flag : Byte) : Command := fun s =>
  match selectorOf selector, flagOf flag with
  | some o, some f =>
    if o = .segment .a then (if f then refuse .badValue s else accept s)
    else accept (s.setMayIsolate o f)
  | _, _ => refuse .badValue s

def execSetHealthLimits (cont : Bool) (suspect isolate readmit : BitVec 16) (shift decay probe : Byte) (s : State) :
    Result :=
  .next (s.execute cont (setHealthLimitsCommand suspect isolate readmit shift decay probe))

def execSetWeights (cont : Bool) (w : Weights) (s : State) : Result :=
  .next (s.execute cont (setWeightsCommand w))

def execReadHealth (cont : Bool) (selector : Byte) (s : State) : Result :=
  .next (s.execute cont (readHealthCommand selector))

def execForceIsolate (cont : Bool) (selector : Byte) (s : State) : Result :=
  .next (s.execute cont (forceIsolateCommand selector))

def execForceReadmit (cont : Bool) (selector : Byte) (s : State) : Result :=
  .next (s.execute cont (forceReadmitCommand selector))

def execSetMayIsolate (cont : Bool) (selector flag : Byte) (s : State) : Result :=
  .next (s.execute cont (setMayIsolateCommand selector flag))

/-! ### Decay (R132) -/

/-- One decay of a score: S − ceil(S / 2^k). -/
def decayed (k score : Nat) : Nat := score - (score + 2 ^ k - 1) / 2 ^ k

/-- An object that is not ISOLATED and whose score is above 0 is decayed and evaluated. -/
def State.decay (s : State) (o : ObjectId) : State :=
  let h := s.object o
  if h.state ≠ .isolated ∧ 0 < h.score then
    (s.setObject o { h with score := decayed s.hm.shift h.score }).evaluate o
  else s

/-- DECAY_TIMER_EXPIRY (R132): the timer restarts, and the objects decay in their fixed order. -/
def execDecayTimerExpiry (s : State) : Result :=
  .next (allObjects.foldl State.decay { s with hm := { s.hm with decayTimer := 10 * s.hm.decayInterval } })

/-! ### Probes (chapter 8) -/

/-- PROBE_TIMER_EXPIRY (R148). -/
def execProbeTimerExpiry (s : State) : Result := .next s.probeExpiry

/-- PROBE_POLL_START (R151, R152, R30): a PENDING probe poll begins once its line allows. -/
def execProbePollStart (quiet : Nat) (s : State) : Result :=
  .next (match s.hm.probe with
    | some ⟨.pending, k, t⟩ => if s.probeMayStart k quiet then s.startProbe ⟨.pending, k, t⟩ else s
    | _ => s)

/-- PROBE_POLL_DEADLINE (R151): a PENDING segment probe fails; a station probe has no deadline (R152). -/
def execProbePollDeadline (s : State) : Result :=
  .next (match s.hm.probe with
    | some ⟨.pending, .segment, t⟩ => s.probeOutcome ⟨.pending, .segment, t⟩ false
    | _ => s)

/-- PROBE_WINDOW_EXPIRY (R153): a probe in AWAITING fails. -/
def execProbeWindowExpiry (s : State) : Result :=
  .next (match s.hm.probe with
    | some ⟨.awaiting w, k, t⟩ => s.probeOutcome ⟨.awaiting w, k, t⟩ false
    | _ => s)

end Sys2Proof.Machine
end

