-- ==== Sys2Proof/Machine/PortCommands.lean ====
section
/-! DEFINITION. The star port family: the port commands and the events of a port's lines, receiver and transmitter
(chapter 4). -/

namespace Sys2Proof.Machine

/-! ### Commands -/

/-- SET_PORT_PROFILE (R63). -/
def setPortProfileCommand (port rate parity stopBits gap peerReady : Byte) : Command := fun s =>
  match portOf port, portProfileOf rate parity stopBits gap peerReady with
  | some n, some p =>
    if (s.port n).state ≠ .standby then refuse .inUse s
    else accept (s.mapPort n fun q => { q with profile := p })
  | _, _ => refuse .badValue s

/-- A STANDBY port as PORT_ENABLE leaves it (R65, R156, R157). The gated transmitter of an ISOLATED port reads as IDLE (log
entry 30). -/
def Port.enabled (p : Port) (isolated : Bool) : Port :=
  if isolated then
    { p with state := .isolated, rx := .hunting, tx := .idle, creditMark := false, breakMark := p.inBreak }
  else { p with state := p.serviceState, rx := .hunting, tx := p.restTx }

/-- A STANDBY port is put into service (R65). -/
def State.enablePort (s : State) (n : PortNo) : State :=
  ((s.mapPort n fun p => p.enabled ((s.object (.port n)).state == .isolated)).reportPort n).notifyLink n

/-- PORT_ENABLE (R65). -/
def portEnableCommand (port : Byte) : Command := fun s =>
  match portOf port with
  | none => refuse .badValue s
  | some n => if (s.port n).state ≠ .standby then refuse .inUse s else accept (s.enablePort n)

/-- A port in service is taken out of it (R67). -/
def State.stopPort (s : State) (n : PortNo) : State :=
  match (s.port n).state with
  | .standby | .stopping => s
  | .online | .detached | .isolated =>
    (((s.mapPort n fun p => { p with state := .stopping, detachTimer := none }).reportPort n).fillOffline n).finishStopping n

/-- PORT_STANDBY (R67). -/
def portStandbyCommand (port : Byte) : Command := fun s =>
  match portOf port with
  | none => refuse .badValue s
  | some n => accept (s.stopPort n)

/-- READ_PORT (R82). -/
def readPortCommand (port : Byte) : Command := fun s =>
  match portOf port with
  | none => refuse .badValue s
  | some n => answer (s.portRecord n) s

def execSetPortProfile (cont : Bool) (port rate parity stopBits gap peerReady : Byte) (s : State) : Result :=
  .next (s.execute cont (setPortProfileCommand port rate parity stopBits gap peerReady))

def execPortEnable (cont : Bool) (port : Byte) (s : State) : Result :=
  .next (s.execute cont (portEnableCommand port))

def execPortStandby (cont : Bool) (port : Byte) (s : State) : Result :=
  .next (s.execute cont (portStandbyCommand port))

def execReadPort (cont : Bool) (port : Byte) (s : State) : Result :=
  .next (s.execute cont (readPortCommand port))

/-! ### The receiver -/

/-- A received character's error, by the port's profile (R64). -/
def State.errorAt (s : State) (n : PortNo) (value : Byte) (parityBit stopBit : Bool) : Bool :=
  characterError (s.port n).profile.parity value parityBit stopBit

/-- PORT_CHARACTER_TAKEN (R69). -/
def execPortCharacterTaken (n : PortNo) (value : Byte) (parityBit stopBit : Bool) (s : State) : Result :=
  .next (s.portCharacter n value (s.errorAt n value parityBit stopBit))

/-- FRAME_COMPLETE (R70): the character that completes the frame in reception is taken; with no such frame the event does
not occur. -/
def execFrameComplete (n : PortNo) (value : Byte) (parityBit stopBit : Bool) (s : State) : Result :=
  .next (if (s.port n).completes value then s.portCharacter n value (s.errorAt n value parityBit stopBit) else s)

/-- PORT_START_BIT (R71): the gap timer of a frame in reception is held while a further character arrives. -/
def execPortStartBit (n : PortNo) (s : State) : Result :=
  .next (if (s.port n).receiving && (s.port n).listens then s.mapPort n fun p => { p with gapHeld := true } else s)

/-- FRAME_GAP_EXPIRY (R71). -/
def execFrameGapExpiry (n : PortNo) (s : State) : Result := .next (s.gapExpires n)

/-- BREAK_RECOGNIZED (R64). -/
def execBreakRecognized (n : PortNo) (s : State) : Result := .next (s.breakBegins n)

/-- BREAK_END (R64): the line is at mark, and the break is re-armed. -/
def execBreakEnd (n : PortNo) (s : State) : Result := .next (s.mapPort n fun p => { p with inBreak := false })

/-! ### Peer-ready and the transmitter (R66, R78, R79) -/

/-- A held transmitter resumes. -/
def Port.release (p : Port) : Port :=
  { p with tx := if p.tx = PortTx.held then PortTx.idle else p.tx }.chooseFrame

/-- PEER_READY_ASSERTED (R66). The transmitter of a port that returns to ONLINE finds the LINK_STATE notice in its list
(R78, the example of section 4.6). In STOPPING and ISOLATED the level alone is recorded, and the transmitter reads as before (log
entry 30). -/
def execPeerReadyAsserted (n : PortNo) (s : State) : Result :=
  let p := s.port n
  let s1 := s.mapPort n fun q => { q with srdy := true }
  .next (
    if p.srdy || !p.profile.peerUsed then s1
    else
      match p.state with
      | .online => s1.mapPort n fun q => { q with detachTimer := none }.release
      | .detached =>
        (((s1.mapPort n fun q => { q with state := .online }).reportPort n).notifyLink n).mapPort n Port.release
      | .standby | .stopping | .isolated => s1)

/-- PEER_READY_DEASSERTED (R66): the 2 s detach timer starts on an ONLINE port, and the transmitter holds after its
frame. In STOPPING and ISOLATED the level alone is recorded (log entry 30). -/
def execPeerReadyDeasserted (n : PortNo) (s : State) : Result :=
  let p := s.port n
  .next (s.mapPort n fun q =>
    if p.srdy = true ∧ p.profile.peerUsed = true ∧ p.state = .online then
      { q with srdy := false, detachTimer := some 2000, tx := if q.tx = PortTx.idle then PortTx.held else q.tx }
    else { q with srdy := false })

/-- A port whose detach timer expires (R66). -/
def Port.detach (p : Port) : Port :=
  { p with state := .detached, detachTimer := none, responses := [], notices := [],
           tx := if p.tx = PortTx.idle then PortTx.held else p.tx }

/-- DETACH_TIMER_EXPIRY (R66). -/
def execDetachTimerExpiry (n : PortNo) (s : State) : Result :=
  .next (if (s.port n).detachTimer.isSome = true ∧ (s.port n).state = .online then
    ((s.mapPort n Port.detach).reportPort n).fillOffline n
  else s)

/-- The last character of a frame has been sent: a DELIVER removes its message, and the next frame is chosen (R78, R79). -/
def Port.frameSent (p : Port) (f : SentFrame) : Port :=
  { p with
    tx := p.restTx
    downstream := match f with | .deliver _ => p.downstream.drop 1 | .response _ | .notice _ => p.downstream }.chooseFrame

/-- PORT_FRAME_SENT (R78, R67). -/
def execPortFrameSent (n : PortNo) (s : State) : Result :=
  .next (match (s.port n).tx with
    | .sending f => (s.mapPort n fun p => p.frameSent f).finishStopping n
    | .idle | .held => s)

end Sys2Proof.Machine
end

