-- ==== Sys2Proof/Machine/PrintCommands.lean ====
section
/-! DEFINITION. The print family: the print profile, the engine's commands and lines, and the administration of jobs
(chapters 5 and 6). -/

namespace Sys2Proof.Machine

/-! ### Commands -/

/-- SET_PRINT_PROFILE (R111, R106). -/
def setPrintProfileCommand (cable resume formFeed ackTimeout releaseGap idleTimeout : Byte) (lowMark : BitVec 16) :
    Command := fun s =>
  match printProfileOf cable resume formFeed ackTimeout releaseGap, inRange 1 255 idleTimeout.toNat,
      inRange 0 512 lowMark.toNat with
  | some p, some t, some m =>
    accept { s with
      pe := { s.pe with profile := p }
      sm := { s.sm with idleTimeout := t, lowMark := m } }
  | _, _, _ => refuse .badValue s

/-- PRINTER_ENABLE (R112). -/
def printerEnableCommand : Command := fun s => accept s.enableEngine

/-- PRINTER_DISABLE (R112, R124). -/
def printerDisableCommand : Command := fun s => accept s.disableEngine

/-- READ_PRINTER (R126). -/
def readPrinterCommand : Command := fun s => answer s.printerRecord s

/-- RESUME_PRINTER (R121). -/
def resumePrinterCommand : Command := fun s => accept s.resumePrinter

/-- LIST_JOBS (R107). -/
def listJobsCommand : Command := fun s => answer s.jobList s

/-- A command that names a job by its id: 0 is BAD_VALUE, an id that no record holds NOT_FOUND (R102, R107). -/
def onJob (id : Byte) (f : Job → Command) : Command := fun s =>
  if id = 0 then refuse .badValue s
  else
    match s.job? id.toNat with
    | none => refuse .notFound s
    | some j => f j s

/-- READ_JOB (R107). -/
def readJobCommand (id : Byte) : Command := onJob id fun j s => answer (s.jobRecord j) s

/-- HOLD_JOB (R103). -/
def holdJobCommand (id : Byte) : Command := onJob id fun j s =>
  match j.state with
  | .queued => accept (s.setJobState j .held .held)
  | .held => accept s
  | .opened | .printing => refuse .inUse s

/-- RELEASE_JOB (R103): an IDLE engine selects in the same event (R113). -/
def releaseJobCommand (id : Byte) : Command := onJob id fun j s =>
  match j.state with
  | .held => accept (s.setJobState j .queued .queued).offerJobs
  | .queued => accept s
  | .opened | .printing => refuse .inUse s

/-- CANCEL_JOB (R105). -/
def cancelJobCommand (id : Byte) : Command := onJob id fun j s => accept (s.cancelJob j)

/-- PROMOTE_JOB (R104). -/
def promoteJobCommand (id : Byte) : Command := onJob id fun j s => accept (s.promote j)

def execSetPrintProfile (cont : Bool) (cable resume formFeed ackTimeout releaseGap idleTimeout : Byte)
    (lowMark : BitVec 16) (s : State) : Result :=
  .next (s.execute cont
    (setPrintProfileCommand cable resume formFeed ackTimeout releaseGap idleTimeout lowMark))

def execPrinterEnable (cont : Bool) (s : State) : Result := .next (s.execute cont printerEnableCommand)

def execPrinterDisable (cont : Bool) (s : State) : Result := .next (s.execute cont printerDisableCommand)

def execReadPrinter (cont : Bool) (s : State) : Result := .next (s.execute cont readPrinterCommand)

def execListJobs (cont : Bool) (s : State) : Result := .next (s.execute cont listJobsCommand)

def execReadJob (cont : Bool) (id : Byte) (s : State) : Result := .next (s.execute cont (readJobCommand id))

def execHoldJob (cont : Bool) (id : Byte) (s : State) : Result := .next (s.execute cont (holdJobCommand id))

def execReleaseJob (cont : Bool) (id : Byte) (s : State) : Result := .next (s.execute cont (releaseJobCommand id))

def execCancelJob (cont : Bool) (id : Byte) (s : State) : Result := .next (s.execute cont (cancelJobCommand id))

def execPromoteJob (cont : Bool) (id : Byte) (s : State) : Result := .next (s.execute cont (promoteJobCommand id))

def execResumePrinter (cont : Bool) (s : State) : Result := .next (s.execute cont resumePrinterCommand)

/-! ### Events -/

/-- JOB_IDLE_TIMEOUT (R98): the idle timer of the OPEN job with that id has run down. An admission restarts the timer, and the
expiry due at that moment does not occur. -/
def execJobIdleTimeout (id : Byte) (s : State) : Result :=
  .next (match s.job? id.toNat with
    | some j => if j.state = .opened ∧ j.idleTimer = some 0 then s.idleExpired j else s
    | none => s)

/-- PRINTER_LINE_CHANGE (R110): a detected level changes. A level equal to the detected one is no change. -/
def execPrinterLineChange (l : PrinterLine) (high : Bool) (s : State) : Result :=
  .next (if s.pe.line l = high then s else (s.lineChanged l high).reportEngine s.pe.state)

/-- PACK_EDGE (R116): acted on only while a handshake awaits its acknowledgement. -/
def execPackEdge (s : State) : Result :=
  .next (if s.pe.inAck then s.characterTaken.reportEngine s.pe.state else s)

/-- ACK_TIMER_EXPIRY (R116, R121): a handshake in WAIT or ACK ends untaken. -/
def execAckTimerExpiry (s : State) : Result :=
  .next (if s.pe.state = .running ∧ s.pe.handshake ≠ .none ∧ s.pe.ackTimer.isSome = true then
    s.characterLost.reportEngine s.pe.state
  else s)

/-- PGNT_CHANGE (R114, R122). -/
def execPgntChange (high : Bool) (s : State) : Result :=
  .next (if s.pe.pgnt = high then s else (s.grantChanged high).reportEngine s.pe.state)

/-- The release timer stops; an engine in GAP goes by the printer's readiness (R114). -/
def State.releaseExpired (s : State) : State :=
  let s1 := s.mapPe fun e => { e with releaseTimer := none }
  if s.pe.state = .gap then s1.enterByReadiness else s1

/-- RELEASE_TIMER_EXPIRY (R114). -/
def execReleaseTimerExpiry (s : State) : Result :=
  .next (if s.pe.releaseTimer.isSome then s.releaseExpired.reportEngine s.pe.state else s)

end Sys2Proof.Machine
end

