-- ==== Sys2Proof/Machine/Resets.lean ====
section
/-! DEFINITION. Hard reset, RESTART FULL and RESTART TRAFFIC, block by block (R18, R41, R61, R83, R108, R127, R147, R158,
R167, R178 to R181). -/

namespace Sys2Proof.Machine

/-! ### Hard reset and RESTART FULL -/

/-- Every port STANDBY with the default profile; the levels of its pins are the present ones (R83; log entry 2). -/
def State.portsAtReset (s : State) : Vector Port 8 :=
  Vector.ofFn fun n => .atReset .default (s.port n).srdy (s.port n).inBreak

/-- Every block but the link at its hard reset values. The characters in the spool memory stay (R108); they are part of no
text. -/
def State.restartBlocks (s : State) : State :=
  { s with
    sd := .atReset, ti := .atReset, pr := .idle, ports := s.portsAtReset, sm := .emptied s.sm.memory 30 32
    pe := .atReset s.pe.pgnt, hm := .atReset, au := .atReset }

/-- RESTART FULL is executed: the straps are sampled again, and the response buffer stays (R179, R168). -/
def State.restartFull (s : State) : State :=
  s.restartBlocks.mapAl fun al => { al with target := 0x4C + al.straps.setWidth 7, pendingRestart := none }

/-- A hard reset: the link is at its reset values too, with the straps sampled (R181). -/
def State.hardReset (s : State) : State := s.restartBlocks.mapAl fun al => .atReset al.straps

/-! ### RESTART TRAFFIC (R180) -/

/-- A learned entry returns to NONE; a static one keeps its location (R18). -/
def Entry.restarted (e : Entry) : Entry :=
  { e with
    location := if e.origin = .learned then .none else e.location
    origin := .static, age := 0, held := 0 }

def Directory.restarted (d : Directory) : Directory :=
  { d with
    entries := Vector.ofFn fun a => d.entries[a].restarted
    primaryHeld := 0, minuteTimer := 60000 }

/-- The profile last written is taken up at once (R41). -/
def TrunkInterface.restarted (t : TrunkInterface) : TrunkInterface :=
  { t with segA := .atReset t.written, segB := .atReset t.written, gateB := false }

/-- Every port STANDBY with its profile kept (R83). -/
def State.portsRestarted (s : State) : Vector Port 8 :=
  Vector.ofFn fun n => .atReset (s.port n).profile (s.port n).srdy (s.port n).inBreak

/-- The engine keeps its enable, its profile and its detectors, and no pending condition (R127). A disable that is pending at the
restart is dropped with the rest: the engine was not DISABLED, so it goes to IDLE or NOT_READY, although R112 has it DISABLED once
PRINTER_DISABLE was taken (DEDUCED, log entry 34). -/
def Engine.restarted (e : Engine) : Engine :=
  { Engine.atReset e.pgnt with
    state := if e.state = .disabled then .disabled else if e.ready then .idle else .notReady
    psel := e.psel, ppe := e.ppe, pfltN := e.pfltN, pbusy := e.pbusy, faultFirst := e.faultFirst
    profile := e.profile }

/-- Scores, states, flags and marks as after a hard reset; the parameters are kept, and the timers restart with them
(R147, R158). -/
def HealthMonitor.restarted (h : HealthMonitor) : HealthMonitor :=
  { HealthMonitor.atReset with
    suspect := h.suspect, isolate := h.isolate, readmit := h.readmit, shift := h.shift
    decayInterval := h.decayInterval, probeInterval := h.probeInterval, weights := h.weights
    decayTimer := 10 * h.decayInterval, probeTimer := 1000 * h.probeInterval }

/-- The enables and the seconds counter are kept (R167). -/
def AlertUnit.restarted (u : AlertUnit) : AlertUnit := { u with flags := 0, queue := [], nextSequence := 0 }

/-- RESTART TRAFFIC is executed (R180). -/
def State.restartTraffic (s : State) : State :=
  { s with
    sd := s.sd.restarted, ti := s.ti.restarted, pr := .idle, ports := s.portsRestarted
    sm := .emptied s.sm.memory s.sm.idleTimeout s.sm.lowMark
    pe := s.pe.restarted, hm := s.hm.restarted, au := s.au.restarted
    al := { s.al with pendingRestart := none } }

/-- A pending restart is executed at the end of its write transaction (R178). -/
def State.executeRestart (s : State) : State :=
  match s.al.pendingRestart with
  | some .full => s.restartFull
  | some .traffic => s.restartTraffic
  | none => s

end Sys2Proof.Machine
end

