-- ==== Sys2Proof/Machine/TrunkCommands.lean ====
section
/-! DEFINITION. The trunk family: SET_TRUNK_PROFILE, the receivers' and transmitters' events, and the reply context's
(chapters 2 and 3). -/

namespace Sys2Proof.Machine

/-- SET_TRUNK_PROFILE (R39, R40, R16). Every learned age limit a byte can hold is in range. -/
def setTrunkProfileCommand (rate sync syncCount deadline fill : Byte) (jabber : BitVec 16) (mode ageLimit : Byte) :
    Command := fun s =>
  match trunkProfileOf rate sync syncCount deadline fill jabber mode with
  | none => refuse .badValue s
  | some p =>
    accept ({ s with sd := { s.sd with ageLimit := ageLimit.toNat } }.writeTrunkProfile p)

def execSetTrunkProfile (cont : Bool) (rate sync syncCount deadline fill : Byte) (jabber : BitVec 16)
    (mode ageLimit : Byte) (s : State) : Result :=
  .next (s.execute cont (setTrunkProfileCommand rate sync syncCount deadline fill jabber mode ageLimit))

/-! ### Receivers -/

/-- LINE_ACTIVITY_START (R24): the activity measure starts, unless the part itself is sending. -/
def execLineActivityStart (g : Seg) (s : State) : Result :=
  let x := s.seg g
  .next (if x.takesBits then s.setSeg g { x with activity := some (x.activity.getD 0) } else s)

/-- SYNC_MATCH (R21): a receiver in HUNT fixes its character boundaries. A match shows activity on the line. -/
def execSyncMatch (g : Seg) (s : State) : Result :=
  let x := s.seg g
  .next (if x.takesBits && x.rx.phase == .hunt then
    s.setSeg g { x with
      activity := some (x.activity.getD 0)
      rx := if x.profile.syncCount = 1 then .inBurst else { TrunkRx.hunting with phase := .sync1 } }
  else s)

/-- ADDRESS_CHARACTER_TAKEN (R22, R26). -/
def execAddressCharacterTaken (g : Seg) (k : BurstKind) (a : Address) (quiet : Nat) (s : State) : Result :=
  .next (s.addressTaken g k a quiet)

/-- TRUNK_CHARACTER_TAKEN (R21, R22, R31). -/
def execTrunkCharacterTaken (g : Seg) (ch : TrunkChar) (s : State) : Result := .next (s.characterOnTrunk g ch)

/-- BURST_END (R23). -/
def execBurstEnd (g : Seg) (inside : Bool) (s : State) : Result := .next (s.burstEnds g inside)

/-- IDLE_RECOGNIZED in HUNT or SYNC1 (R21, R24). -/
def execIdleRecognized (g : Seg) (s : State) : Result := .next (s.idleSeen g)

/-- JABBER (R24). -/
def execJabber (g : Seg) (s : State) : Result := .next (s.jabbers g)

/-! ### Transmitters and watches -/

/-- FORWARD_HELD_START (R30, R31). -/
def execForwardHeldStart (quiet : Nat) (s : State) : Result := .next (s.startHeld quiet)

/-- TRANSMITTER_BURST_END (R28). -/
def execTransmitterBurstEnd (g : Seg) (s : State) : Result := .next (s.transmitterEnds g)

/-- POLL_MISS_WINDOW_EXPIRY (R37): a miss for the watched station, if the watch is armed. -/
def execPollMissWindowExpiry (g : Seg) (s : State) : Result :=
  .next (match (s.seg g).watch with
    | none => s
    | some w => (s.setSeg g { s.seg g with watch := none }).pollMiss g w.station)

/-! ### The reply context -/

/-- REPLY_START_POINT (R44): transmitter A takes a waiting request when its line is available. -/
def execReplyStartPoint (quiet : Nat) (s : State) : Result :=
  .next (match s.pr with
    | .waiting t => if s.ti.segA.available quiet then s.startReply t else s
    | _ => s)

/-- REPLY_DEADLINE_EXPIRY (R44): a waiting reply is abandoned. -/
def execReplyDeadlineExpiry (s : State) : Result :=
  .next (match s.pr with
    | .waiting _ => { s with pr := .idle }
    | _ => s)

/-- FILL_BUDGET_EXHAUSTED (R52): the F-th FILL completes, and the reply commits to NIL. -/
def execFillBudgetExhausted (s : State) : Result :=
  .next (match s.pr with
    | .filling t _ => s.commit t s.fillsLeft .nil []
    | _ => s)

end Sys2Proof.Machine
end

