-- ==== Sys2Proof/Machine/LinkCommands.lean ====
section
/-! DEFINITION. The link family: the bus events of the administration link, READ_STATUS, RESTART and the hard reset
(chapter 10), and the command codes of R185. -/

namespace Sys2Proof.Machine

/-! ### READ_STATUS and RESTART -/

/-- READ_STATUS (R176). -/
def readStatusCommand : Command := fun s => answer s.statusRecord s

/-- RESTART (R178): accepted, it is pending until the write transaction ends. -/
def restartCommand (kind : Byte) : Command := fun s =>
  match restartOf kind with
  | none => refuse .badValue s
  | some k => accept (s.mapAl fun al => { al with pendingRestart := some k })

def execReadStatus (cont : Bool) (s : State) : Result := .next (s.execute cont readStatusCommand)

def execRestart (cont : Bool) (kind : Byte) (s : State) : Result := .next (s.execute cont (restartCommand kind))

/-- HARD_RESET (R181). -/
def execHardReset (s : State) : Result := .next s.hardReset

/-! ### Command codes (R185) -/

/-- The count of argument bytes of a code; none for a code that names no command. -/
def argumentCount (code : Nat) : Option Nat :=
  if code ∈ [0x01, 0x19, 0x1A, 0x1B, 0x1C, 0x22, 0x2A] then some 0
  else if code ∈ [0x02, 0x04, 0x05, 0x0A, 0x0B, 0x0C, 0x12, 0x13, 0x14, 0x1D, 0x1E, 0x1F, 0x20, 0x21, 0x30] then some 1
  else if code ∈ [0x15, 0x29] then some 2
  else if code = 0x06 then some 3
  else if code ∈ [0x03, 0x28] then some 4
  else if code = 0x09 then some 6
  else if code = 0x18 then some 8
  else if code ∈ [0x08, 0x10] then some 9
  else if code = 0x11 then some 16
  else none

/-- The commands without arguments. -/
def bareCommand (code : Nat) : Command :=
  if code = 0x01 then readStatusCommand
  else if code = 0x19 then printerEnableCommand
  else if code = 0x1A then printerDisableCommand
  else if code = 0x1B then readPrinterCommand
  else if code = 0x1C then listJobsCommand
  else if code = 0x22 then resumePrinterCommand
  else if code = 0x2A then readReportCommand
  else refuse .unknownCommand

/-- The commands with one argument byte. -/
def byteCommand (code : Nat) (x : Byte) : Command :=
  if code = 0x02 then readEntryCommand x
  else if code = 0x04 then clearEntryCommand x
  else if code = 0x05 then setPrinterAddressCommand x
  else if code = 0x0A then portEnableCommand x
  else if code = 0x0B then portStandbyCommand x
  else if code = 0x0C then readPortCommand x
  else if code = 0x12 then readHealthCommand x
  else if code = 0x13 then forceIsolateCommand x
  else if code = 0x14 then forceReadmitCommand x
  else if code = 0x1D then readJobCommand x
  else if code = 0x1E then holdJobCommand x
  else if code = 0x1F then releaseJobCommand x
  else if code = 0x20 then cancelJobCommand x
  else if code = 0x21 then promoteJobCommand x
  else if code = 0x30 then restartCommand x
  else refuse .unknownCommand

/-- The command that a code and its argument bytes give. -/
def commandOf (code : Nat) : List Byte → Command
  | [] => bareCommand code
  | [x] => byteCommand code x
  | [x, y] =>
    if code = 0x15 then setMayIsolateCommand x y
    else if code = 0x29 then clearCausesCommand (word16 x y)
    else refuse .unknownCommand
  | [x, y, z] => if code = 0x06 then setQuotaCommand x (word16 y z) else refuse .unknownCommand
  | [x, y, z, w] =>
    if code = 0x03 then writeEntryCommand x y z w
    else if code = 0x28 then setAlertsCommand (word16 x y) (word16 z w)
    else refuse .unknownCommand
  | [a, b, c, d, e, f] => if code = 0x09 then setPortProfileCommand a b c d e f else refuse .unknownCommand
  | [a, b, c, d, e, f, g, h] =>
    if code = 0x18 then setPrintProfileCommand a b c d e f (word16 g h) else refuse .unknownCommand
  | [a, b, c, d, e, f, g, h, i] =>
    if code = 0x08 then setTrunkProfileCommand a b c d e (word16 f g) h i
    else if code = 0x10 then setHealthLimitsCommand (word16 a b) (word16 c d) (word16 e f) g h i
    else refuse .unknownCommand
  | [a, b, c, d, e, f, g, h, i, j, k, l, m, n, o, p] =>
    if code = 0x11 then setWeightsCommand ⟨a, b, c, d, e, f, g, h, i, j, k, l, m, n, o, p⟩ else refuse .unknownCommand
  | _ => refuse .unknownCommand

/-! ### Bus events -/

/-- The transaction under way ends: a command in ARGS is discarded as INCOMPLETE, a pending restart is executed, and the
phase is IDLE (R169, R172, R178). At a START the part is then ready for an address byte; after a STOP it waits for one. -/
def State.endTransaction (s : State) (atStart : Bool) : State :=
  let s1 :=
    if s.al.phase = .args then
      s.mapAl fun al => { al with response := { status := .incomplete, index := al.index, result := [] } }
    else s
  s1.executeRestart.mapAl fun al =>
    { al with phase := .idle, remaining := 0, args := [], ignoring := !atStart, released := false, sent := none }

/-- I2C_START (R169). -/
def execI2cStart (s : State) : Result := .next (s.endTransaction true)

/-- I2C_STOP (R169). -/
def execI2cStop (s : State) : Result := .next (s.endTransaction false)

/-- The address byte after a START: the part's own address begins a write or a read; with any other, the part takes
nothing of the transaction (R168, R169). -/
def AdminLink.takeAddress (al : AdminLink) (b : Byte) : AdminLink :=
  if b.extractLsb' 1 7 = al.target then
    if b.getLsbD 0 then { al with phase := .reading, readPosition := 0, acknowledged := true }
    else { al with phase := .lead, index := 0, acknowledged := true }
  else { al with ignoring := true, acknowledged := false }

/-- A byte in IDLE: the address byte of a START, or a byte of a transaction from which the part takes nothing, which it leaves
unacknowledged (R168, R181). -/
def AdminLink.takeIdleByte (al : AdminLink) (b : Byte) : AdminLink :=
  if al.ignoring then { al with acknowledged := false } else al.takeAddress b

/-- ADDRESS_BYTE (R168). -/
def execAddressByte (b : Byte) (s : State) : Result :=
  .next (if s.al.phase = .idle then s.mapAl (·.takeIdleByte b) else s)

/-- LEAD_BYTE (R170, R171): a code with arguments begins to gather them; one without is executed at once; one that names
no command is refused with UNKNOWN_COMMAND. -/
def State.takeLead (s : State) (b : Byte) : State :=
  let code : BitVec 7 := b.setWidth 7
  let s1 := s.mapAl fun al => { al with code, cont := b.getLsbD 7, acknowledged := true }
  match argumentCount code.toNat with
  | some (k + 1) => s1.mapAl fun al => { al with phase := .args, remaining := k + 1, args := [] }
  | some 0 | none => s1.execute (b.getLsbD 7) (commandOf code.toNat [])

def execLeadByte (b : Byte) (s : State) : Result :=
  .next (if s.al.phase = .lead then s.takeLead b else s)

/-- ARGUMENT_BYTE (R170): with its last argument byte, a command is executed. -/
def State.takeArgument (s : State) (b : Byte) : State :=
  let args := s.al.args ++ [b]
  let s1 := s.mapAl fun al => { al with args, remaining := al.remaining - 1, acknowledged := true }
  if s.al.remaining ≤ 1 then s1.execute s.al.cont (commandOf s.al.code.toNat args) else s1

def execArgumentByte (b : Byte) (s : State) : Result :=
  .next (if s.al.phase = .args then s.takeArgument b else s)

/-- DISCARD_BYTE (R171): acknowledged and ignored. -/
def execDiscardByte (_b : Byte) (s : State) : Result :=
  .next (if s.al.phase = .discard then s.mapAl fun al => { al with acknowledged := true } else s)

/-- The contents of the response buffer, as a read returns them (R173, R185). -/
def ResponseBuffer.bytes (r : ResponseBuffer) : List Byte := r.status.code :: byteOf r.index :: r.result

/-- One byte is clocked out: the byte at the read position, 0xFF past the end; nothing once a byte was not acknowledged
(R174). -/
def AdminLink.clockOut (al : AdminLink) (ack : Bool) : AdminLink :=
  if al.released then { al with sent := none }
  else
    { al with
      sent := some ((al.response.bytes[al.readPosition]?).getD 0xFF)
      readPosition := if ack then al.readPosition + 1 else al.readPosition
      released := !ack }

/-- READ_BYTE (R174). -/
def execReadByte (ack : Bool) (s : State) : Result :=
  .next (if s.al.phase = .reading then s.mapAl (·.clockOut ack) else s)

end Sys2Proof.Machine
end

