-- ==== Sys2Proof/Machine/Dispatch.lean ====
section
/-! DEFINITION. One arm per command: the meaning it calls. -/

namespace Sys2Proof.Machine

def exec (i : Instr) (s : State) : Host.Outcome State Fault Refusal :=
  match i with
  | .hardReset => Sys2Proof.Machine.execHardReset s
  | .i2cStart => Sys2Proof.Machine.execI2cStart s
  | .i2cStop => Sys2Proof.Machine.execI2cStop s
  | .addressByte b => Sys2Proof.Machine.execAddressByte b s
  | .leadByte b => Sys2Proof.Machine.execLeadByte b s
  | .argumentByte b => Sys2Proof.Machine.execArgumentByte b s
  | .discardByte b => Sys2Proof.Machine.execDiscardByte b s
  | .readByte ack => Sys2Proof.Machine.execReadByte ack s
  | .readStatus cont => Sys2Proof.Machine.execReadStatus cont s
  | .readEntry cont source => Sys2Proof.Machine.execReadEntry cont source s
  | .writeEntry cont address location port standIn => Sys2Proof.Machine.execWriteEntry cont address location port standIn s
  | .clearEntry cont address => Sys2Proof.Machine.execClearEntry cont address s
  | .setPrinterAddress cont address => Sys2Proof.Machine.execSetPrinterAddress cont address s
  | .setQuota cont source quota => Sys2Proof.Machine.execSetQuota cont source quota s
  | .setTrunkProfile cont rate sync syncCount deadline fill jabber mode ageLimit => Sys2Proof.Machine.execSetTrunkProfile cont rate sync syncCount deadline fill jabber mode ageLimit s
  | .setPortProfile cont port rate parity stopBits gap peerReady => Sys2Proof.Machine.execSetPortProfile cont port rate parity stopBits gap peerReady s
  | .portEnable cont port => Sys2Proof.Machine.execPortEnable cont port s
  | .portStandby cont port => Sys2Proof.Machine.execPortStandby cont port s
  | .readPort cont port => Sys2Proof.Machine.execReadPort cont port s
  | .setHealthLimits cont suspect isolate readmit shift decay probe => Sys2Proof.Machine.execSetHealthLimits cont suspect isolate readmit shift decay probe s
  | .setWeights cont weights => Sys2Proof.Machine.execSetWeights cont weights s
  | .readHealth cont selector => Sys2Proof.Machine.execReadHealth cont selector s
  | .forceIsolate cont selector => Sys2Proof.Machine.execForceIsolate cont selector s
  | .forceReadmit cont selector => Sys2Proof.Machine.execForceReadmit cont selector s
  | .setMayIsolate cont selector flag => Sys2Proof.Machine.execSetMayIsolate cont selector flag s
  | .setPrintProfile cont cable resume formFeed ackTimeout releaseGap idleTimeout lowMark => Sys2Proof.Machine.execSetPrintProfile cont cable resume formFeed ackTimeout releaseGap idleTimeout lowMark s
  | .printerEnable cont => Sys2Proof.Machine.execPrinterEnable cont s
  | .printerDisable cont => Sys2Proof.Machine.execPrinterDisable cont s
  | .readPrinter cont => Sys2Proof.Machine.execReadPrinter cont s
  | .listJobs cont => Sys2Proof.Machine.execListJobs cont s
  | .readJob cont id => Sys2Proof.Machine.execReadJob cont id s
  | .holdJob cont id => Sys2Proof.Machine.execHoldJob cont id s
  | .releaseJob cont id => Sys2Proof.Machine.execReleaseJob cont id s
  | .cancelJob cont id => Sys2Proof.Machine.execCancelJob cont id s
  | .promoteJob cont id => Sys2Proof.Machine.execPromoteJob cont id s
  | .resumePrinter cont => Sys2Proof.Machine.execResumePrinter cont s
  | .setAlerts cont alerts reports => Sys2Proof.Machine.execSetAlerts cont alerts reports s
  | .clearCauses cont causes => Sys2Proof.Machine.execClearCauses cont causes s
  | .readReport cont => Sys2Proof.Machine.execReadReport cont s
  | .restart cont kind => Sys2Proof.Machine.execRestart cont kind s
  | .addressCharacterTaken seg kind station quiet => Sys2Proof.Machine.execAddressCharacterTaken seg kind station quiet s
  | .burstEnd seg inside => Sys2Proof.Machine.execBurstEnd seg inside s
  | .jabber seg => Sys2Proof.Machine.execJabber seg s
  | .forwardHeldStart quiet => Sys2Proof.Machine.execForwardHeldStart quiet s
  | .transmitterBurstEnd seg => Sys2Proof.Machine.execTransmitterBurstEnd seg s
  | .pollMissWindowExpiry seg => Sys2Proof.Machine.execPollMissWindowExpiry seg s
  | .replyStartPoint quiet => Sys2Proof.Machine.execReplyStartPoint quiet s
  | .replyDeadlineExpiry => Sys2Proof.Machine.execReplyDeadlineExpiry s
  | .fillBudgetExhausted => Sys2Proof.Machine.execFillBudgetExhausted s
  | .minuteTimerExpiry => Sys2Proof.Machine.execMinuteTimerExpiry s
  | .portCharacterTaken port value parityBit stopBit => Sys2Proof.Machine.execPortCharacterTaken port value parityBit stopBit s
  | .frameComplete port value parityBit stopBit => Sys2Proof.Machine.execFrameComplete port value parityBit stopBit s
  | .frameGapExpiry port => Sys2Proof.Machine.execFrameGapExpiry port s
  | .breakRecognized port => Sys2Proof.Machine.execBreakRecognized port s
  | .breakEnd port => Sys2Proof.Machine.execBreakEnd port s
  | .peerReadyAsserted port => Sys2Proof.Machine.execPeerReadyAsserted port s
  | .peerReadyDeasserted port => Sys2Proof.Machine.execPeerReadyDeasserted port s
  | .detachTimerExpiry port => Sys2Proof.Machine.execDetachTimerExpiry port s
  | .portFrameSent port => Sys2Proof.Machine.execPortFrameSent port s
  | .jobIdleTimeout id => Sys2Proof.Machine.execJobIdleTimeout id s
  | .printerLineChange line high => Sys2Proof.Machine.execPrinterLineChange line high s
  | .packEdge => Sys2Proof.Machine.execPackEdge s
  | .ackTimerExpiry => Sys2Proof.Machine.execAckTimerExpiry s
  | .pgntChange high => Sys2Proof.Machine.execPgntChange high s
  | .releaseTimerExpiry => Sys2Proof.Machine.execReleaseTimerExpiry s
  | .decayTimerExpiry => Sys2Proof.Machine.execDecayTimerExpiry s
  | .probeTimerExpiry => Sys2Proof.Machine.execProbeTimerExpiry s
  | .probePollStart quiet => Sys2Proof.Machine.execProbePollStart quiet s
  | .probePollDeadline => Sys2Proof.Machine.execProbePollDeadline s
  | .probeWindowExpiry => Sys2Proof.Machine.execProbeWindowExpiry s
  | .secondsCounterTick => Sys2Proof.Machine.execSecondsCounterTick s
  | .lineActivityStart seg => Sys2Proof.Machine.execLineActivityStart seg s
  | .syncMatch seg => Sys2Proof.Machine.execSyncMatch seg s
  | .trunkCharacterTaken seg ch => Sys2Proof.Machine.execTrunkCharacterTaken seg ch s
  | .idleRecognized seg => Sys2Proof.Machine.execIdleRecognized seg s
  | .portStartBit port => Sys2Proof.Machine.execPortStartBit port s

end Sys2Proof.Machine
end

