-- ==== Sys2Proof/Machine/Bits.lean ====
section
/-! DEFINITION. The bits on the lines: the order in which the bits of a trunk character, of a desk character and of a byte on
SDA are sent, and how a receiver groups them again (R62, R168, R182, R184); what each transmitter puts on its pins, and what the
engine drives on the printer port (R109). On the trunk and the desk link true is mark, a 1, and false is space, a 0; on the other lines
true is high, which on SDA is the level of a released line, and false is low. The time that a level stands is left out (log entry
24). -/

namespace Sys2Proof.Machine

/-- The level of a line at rest (R28, R62). -/
def mark : Bool := true

/-- The level of a start bit (R184). -/
def space : Bool := false

/-- Eight bits from the least significant to the most significant. -/
def valueBits (b : Byte) : List Bool := (List.range 8).map fun i => b.getLsbD i

/-- The byte whose bits, least significant first, are given. -/
def bitsValue (bits : List Bool) : Byte := BitVec.ofNat 8 (bits.foldr (fun b n => b.toNat + 2 * n) 0)

/-! ### The trunk (R19, R182) -/

/-- A trunk character as it is sent: b0 to b7, then the marker bit. -/
def trunkBits (ch : TrunkChar) : List Bool := valueBits (charValue ch) ++ [marker ch]

/-- The trunk character that a receiver groups from nine bits. -/
def trunkCharOf (bits : List Bool) : TrunkChar :=
  BitVec.ofBool ((bits[8]?).getD false) ++ bitsValue (bits.take 8)

/-- TXENA or TXENB is asserted: the transmitter is SENDING, and on segment B its gate is open (R28, R34). -/
def State.drives (s : State) (g : Seg) : Bool :=
  (s.seg g).tx != .idle && match g with
    | .a => true
    | .b => !s.ti.gateB

/-- What TXA or TXB carries: the bits of the characters begun in the present burst, back to back, and mark while the driver
enable is inactive (R28, R34). -/
def State.trunkLine (s : State) (g : Seg) : List Bool :=
  if s.drives g then (s.seg g).line.flatMap trunkBits else [mark]

/-! ### The desk link (R62, R184) -/

/-- The parity bit that is sent after the data bits: with them it makes the number of 1s odd under ODD and even under EVEN. -/
def Parity.bits (p : Parity) (b : Byte) : List Bool :=
  match p with
  | .none => []
  | .odd => [!oddOnes b]
  | .even => [oddOnes b]

/-- A desk character as it is sent under a profile: start bit, data bits, parity bit, stop bits. -/
def PortProfile.charBits (p : PortProfile) (b : Byte) : List Bool :=
  space :: valueBits b ++ p.parity.bits b ++ List.replicate p.stopBits mark

/-- A frame as it is sent under a profile, its characters back to back. -/
def SentFrame.bits (p : PortProfile) (f : SentFrame) : List Bool := f.bytes.flatMap p.charBits

/-- What STXn carries: the frame being sent, and mark between frames and whenever the transmitter holds or is gated. -/
def Port.deskLine (p : Port) : List Bool :=
  match p.tx with
  | .sending f => f.bits p.profile
  | .idle | .held => [mark]

/-- A character as a port receiver samples it on SRXn (R62). -/
structure DeskChar where
  value : Byte
  /-- Under parity NONE there is no such bit, and false stands for it; nothing reads it then. -/
  parityBit : Bool
  /-- The first stop bit; a second one is not examined. -/
  stopBit : Bool
  deriving DecidableEq, Repr

/-- How many parity bits a character has (R62). -/
def Parity.width : Parity → Nat
  | .none => 0
  | .odd | .even => 1

/-- A change of the level of SRXn between characters that is a start bit: the first space after mark (R62). -/
def startsCharacter (before after : Bool) : Bool := before == mark && after == space

/-- How many levels make one received character: the start bit, the data bits, the parity bit if any, the first stop bit (R62). -/
def PortProfile.samples (p : PortProfile) : Nat := 10 + p.parity.width

/-- The character that a port receiver groups from the levels in the middle of its bits, the start bit first (R62, R184): the data
bits from the least significant, the parity bit if the profile has one, and the first stop bit, at whose middle it is taken. -/
def PortProfile.charOf (p : PortProfile) (levels : List Bool) : DeskChar where
  value := bitsValue ((levels.drop 1).take 8)
  parityBit := p.parity != .none && (levels[9]?).getD space
  stopBit := (levels[9 + p.parity.width]?).getD space

/-- The command of the table that the taking of a character is. With its stop bit at space the character is held back, and is taken at
the return to mark (R64). -/
def DeskChar.command (c : DeskChar) (n : PortNo) : Instr := .portCharacterTaken n c.value c.parityBit c.stopBit

/-! ### The printer port (R109) -/

/-- The levels of PSTB_N in their order, true for deasserted, since the handshake last changed: deasserted at rest and while the
character due waits; in ACK the strobe, asserted low, and deasserted again for the rest of ACK. Whatever ends the handshake, a reset
among them, leaves the line deasserted, and a strobe being driven is ended there. How long each level stands, 1 µs for the strobe, is
left out (log entry 24). -/
def Engine.strobeLine (e : Engine) : List Bool :=
  match e.handshake with
  | .none | .wait => [true]
  | .ack => [false, true]

/-- What PD0 to PD7 carry, PD0 first. -/
def Engine.dataLines (e : Engine) : List Bool := valueBits e.pd

/-! ### The administration link (R168) -/

/-- The levels of SCL and SDA at a moment. -/
structure BusLevels where
  scl : Bool
  sda : Bool
  deriving DecidableEq, Repr

/-- What a change of the levels is on the bus. -/
inductive BusCondition where
  | start
  | stop
  deriving DecidableEq, Repr

/-- A START is SDA falling while SCL is high, and a STOP is SDA rising while SCL is high. -/
def busCondition (before after : BusLevels) : Option BusCondition :=
  if before.scl && after.scl then
    match before.sda, after.sda with
    | true, false => some .start
    | false, true => some .stop
    | _, _ => none
  else none

/-- The command of the table that a START or a STOP is. -/
def BusCondition.command : BusCondition → Instr
  | .start => .i2cStart
  | .stop => .i2cStop

/-- The eight bits of a byte on SDA, the most significant first. -/
def sdaBits (b : Byte) : List Bool := (valueBits b).reverse

/-- The byte that eight bits, each sampled while SCL is high, make. -/
def sdaByte (bits : List Bool) : Byte := bitsValue bits.reverse

/-- The command of the table that nine bits on SDA are, eight of a byte and its acknowledge bit, in the phase of the link in which
they come (R169). In READING the part sends the eight, and the controller's acknowledge is the ninth held low. -/
def AdminLink.commandOfBits (al : AdminLink) (bits : List Bool) (ninth : Bool) : Instr :=
  match al.phase with
  | .idle => .addressByte (sdaByte bits)
  | .lead => .leadByte (sdaByte bits)
  | .args => .argumentByte (sdaByte bits)
  | .discard => .discardByte (sdaByte bits)
  | .reading => .readByte (!ninth)

/-- What the part puts on SDA through the nine bits of a byte that the controller sends: nothing for the eight, and SDA low in the
acknowledge bit when it acknowledges the byte. -/
def AdminLink.sdaOfTakenByte (al : AdminLink) : List Bool := List.replicate 8 true ++ [!al.acknowledged]

/-- What the part puts on SDA through the nine bits of a byte that the controller reads: the byte, then nothing in the controller's
acknowledge bit; and nothing at all once it has released SDA (R174). -/
def AdminLink.sdaOfReadByte (al : AdminLink) : List Bool :=
  match al.sent with
  | some b => sdaBits b ++ [true]
  | none => List.replicate 9 true

end Sys2Proof.Machine
end

