-- ==== Sys2Proof/Machine/Encoding.lean ====
section
/-! DEFINITION. The bytes that the administration controller sends for a command (R185), written from its table of codes,
and the running of several commands in a row. The link's own reading of those bytes stands in LinkCommands.lean. -/

namespace Sys2Proof.Machine

/-- The two bytes of a 16-bit argument, most significant first (chapter 11, opening paragraph). -/
def argument16 (w : BitVec 16) : List Byte := [w.extractLsb' 8 8, w.extractLsb' 0 8]

/-- A command of the administration link as its bytes spell it. -/
structure Spelling where
  cont : Bool
  code : BitVec 7
  args : List Byte
  deriving DecidableEq, Repr

/-- The spelling of each row of the administration link (R185); none for the events of the other interfaces. -/
def spelling : Instr → Option Spelling
  | .readStatus c => some ⟨c, 0x01, []⟩
  | .readEntry c x => some ⟨c, 0x02, [x]⟩
  | .writeEntry c a l p st => some ⟨c, 0x03, [a, l, p, st]⟩
  | .clearEntry c a => some ⟨c, 0x04, [a]⟩
  | .setPrinterAddress c a => some ⟨c, 0x05, [a]⟩
  | .setQuota c x q => some ⟨c, 0x06, x :: argument16 q⟩
  | .setTrunkProfile c rate sync count d f j mode age =>
    some ⟨c, 0x08, [rate, sync, count, d, f] ++ argument16 j ++ [mode, age]⟩
  | .setPortProfile c port rate parity stop gap ready => some ⟨c, 0x09, [port, rate, parity, stop, gap, ready]⟩
  | .portEnable c p => some ⟨c, 0x0A, [p]⟩
  | .portStandby c p => some ⟨c, 0x0B, [p]⟩
  | .readPort c p => some ⟨c, 0x0C, [p]⟩
  | .setHealthLimits c ts ti tr k decay probe =>
    some ⟨c, 0x10, argument16 ts ++ argument16 ti ++ argument16 tr ++ [k, decay, probe]⟩
  | .setWeights c w => some ⟨c, 0x11, weightBytes w⟩
  | .readHealth c o => some ⟨c, 0x12, [o]⟩
  | .forceIsolate c o => some ⟨c, 0x13, [o]⟩
  | .forceReadmit c o => some ⟨c, 0x14, [o]⟩
  | .setMayIsolate c o f => some ⟨c, 0x15, [o, f]⟩
  | .setPrintProfile c cable resume ff ack gap idle low =>
    some ⟨c, 0x18, [cable, resume, ff, ack, gap, idle] ++ argument16 low⟩
  | .printerEnable c => some ⟨c, 0x19, []⟩
  | .printerDisable c => some ⟨c, 0x1A, []⟩
  | .readPrinter c => some ⟨c, 0x1B, []⟩
  | .listJobs c => some ⟨c, 0x1C, []⟩
  | .readJob c id => some ⟨c, 0x1D, [id]⟩
  | .holdJob c id => some ⟨c, 0x1E, [id]⟩
  | .releaseJob c id => some ⟨c, 0x1F, [id]⟩
  | .cancelJob c id => some ⟨c, 0x20, [id]⟩
  | .promoteJob c id => some ⟨c, 0x21, [id]⟩
  | .resumePrinter c => some ⟨c, 0x22, []⟩
  | .setAlerts c alerts reports => some ⟨c, 0x28, argument16 alerts ++ argument16 reports⟩
  | .clearCauses c causes => some ⟨c, 0x29, argument16 causes⟩
  | .readReport c => some ⟨c, 0x2A, []⟩
  | .restart c kind => some ⟨c, 0x30, [kind]⟩
  | .hardReset | .i2cStart | .i2cStop | .addressByte _ | .leadByte _ | .argumentByte _ | .discardByte _ | .readByte _
  | .addressCharacterTaken _ _ _ _ | .burstEnd _ _ | .jabber _ | .forwardHeldStart _ | .transmitterBurstEnd _
  | .pollMissWindowExpiry _ | .replyStartPoint _ | .replyDeadlineExpiry | .fillBudgetExhausted | .minuteTimerExpiry
  | .portCharacterTaken _ _ _ _ | .frameComplete _ _ _ _ | .frameGapExpiry _ | .breakRecognized _ | .breakEnd _
  | .peerReadyAsserted _ | .peerReadyDeasserted _ | .detachTimerExpiry _ | .portFrameSent _ | .jobIdleTimeout _
  | .printerLineChange _ _ | .packEdge | .ackTimerExpiry | .pgntChange _ | .releaseTimerExpiry | .decayTimerExpiry
  | .probeTimerExpiry | .probePollStart _ | .probePollDeadline | .probeWindowExpiry | .secondsCounterTick
  | .lineActivityStart _ | .syncMatch _ | .trunkCharacterTaken _ _ | .idleRecognized _ | .portStartBit _ => none

/-- The lead byte: b7 is the continuation flag and b6 to b0 the code. -/
def Spelling.lead (w : Spelling) : Byte := BitVec.ofBool w.cont ++ w.code

/-- The bus events that carry a command to the part: its lead byte and its argument bytes. -/
def Spelling.events (w : Spelling) : List Instr := .leadByte w.lead :: w.args.map .argumentByte

/-- Commands run one after another, each on the state that the one before it left. -/
def State.run (s : State) : List Instr → Result
  | [] => .next s
  | c :: cs =>
    match exec c s with
    | .next t => t.run cs
    | .fault f => .fault f
    | .refused r => .refused r

/-- The link as it stands when the last byte of a command has been taken and the command is executed. -/
def AdminLink.gathered (al : AdminLink) (w : Spelling) : AdminLink :=
  if w.args = [] then { al with code := w.code, cont := w.cont, acknowledged := true }
  else { al with code := w.code, cont := w.cont, acknowledged := true, phase := .args, args := w.args, remaining := 0 }

end Sys2Proof.Machine
end

