-- ==== Sys2Proof/Safety.lean ====
section
/-! DEFINITION. What counts as a safe state of the part, law by law: what the spec says of every state, in the terms that
claims use. -/

namespace Sys2Proof.Machine

/-! ### Commands and their answers -/

/-- The blocks of two states agree: everything but the administration link is the same. -/
def SameBlocks (s t : State) : Prop := t = { s with al := t.al }

/-- The link's record changes in the answer and the place in the command list alone. -/
def LinkKept (s t : State) : Prop :=
  t.al = { s.al with
    response := t.al.response, phase := t.al.phase, index := t.al.index, remaining := 0, args := [] }

/-- A command of the administration link was accepted with these result bytes (R170, R171, R173): the buffer holds OK and
the command's index, and the list goes on after a continuation flag of 1, the index growing by one up to 255. For a command
row given outside LEAD or ARGS, the phase and the index that follow are the model's choice, log entry 9. -/
def Accepted (s t : State) (cont : Bool) (result : List Byte) : Prop :=
  t.al.response = { status := .ok, index := s.al.index, result } ∧ LinkKept s t ∧
  (if cont = true ∧ s.al.pendingRestart = none then
    t.al.phase = .lead ∧ t.al.index = min 255 (s.al.index + 1)
  else t.al.phase = .discard ∧ t.al.index = s.al.index)

/-- A command was refused (R171, R173): the buffer holds the status and the command's index, the list ends, and nothing
changes in any block. For a command row given outside LEAD or ARGS, the phase that follows is the model's choice, log
entry 9. -/
def RefusedWith (s t : State) (st : Status) : Prop :=
  t.al.response = { status := st, index := s.al.index, result := [] } ∧ t.al.phase = .discard ∧
  t.al.index = s.al.index ∧ LinkKept s t ∧ SameBlocks s t

/-- The command answers a next state that is a refusal with this status. -/
def Refuses (c : Instr) (s : State) (st : Status) : Prop := ∃ t, exec c s = .next t ∧ RefusedWith s t st

/-- The command answers a next state in which it was accepted without result bytes and of which the predicate holds. -/
def Accepts (c : Instr) (s : State) (cont : Bool) (p : State → Prop) : Prop :=
  ∃ t, exec c s = .next t ∧ Accepted s t cont [] ∧ p t

/-- The event answers a next state of which the predicate holds. -/
def Leads (c : Instr) (s : State) (p : State → Prop) : Prop := ∃ t, exec c s = .next t ∧ p t

/-! ### The report queue (R161) -/

/-- Each record's number is one more than that of the record before it, and the next number follows the last. -/
def numbered : List Report → Byte → Bool
  | [], _ => true
  | [r], next => r.sequence + 1 == next
  | r :: r' :: q, next => (r.sequence + 1 == r'.sequence) && numbered (r' :: q) next

/-- The report queue holds at most 16 records, with consecutive numbers (R161). -/
def ReportLaw (s : State) : Prop :=
  s.au.queue.length ≤ 16 ∧ numbered s.au.queue s.au.nextSequence = true

/-! ### Health (R134, R3, R128, R145) -/

/-- The thresholds satisfy T_r < T_s < T_i ≤ 1023 (R145). -/
def ThresholdLaw (s : State) : Prop :=
  s.hm.readmit < s.hm.suspect ∧ s.hm.suspect < s.hm.isolate ∧ s.hm.isolate ≤ 1023

/-- What R134 says of one object. -/
def ObjectLaw (s : State) (o : ObjectId) : Prop :=
  (s.object o).score ≤ 1023 ∧
  ((s.object o).state ≠ .isolated → ((s.object o).state = .active ↔ (s.object o).score < s.hm.suspect)) ∧
  ((s.object o).state = .isolated → s.hm.readmit < (s.object o).score) ∧
  (s.effectiveMayIsolate o = false → (s.object o).state ≠ .isolated)

/-- The health objects obey R134; segment A's flag is false (R128); the station object of an entry that is not SEG_A or
SEG_B is at score 0 and ACTIVE (R3). -/
def HealthLaw (s : State) : Prop :=
  ThresholdLaw s ∧ (∀ o, ObjectLaw s o) ∧ s.hm.segA.mayIsolate = false ∧
  ∀ a : Address, (s.entry a).location.isSegment = false →
    (s.object (.station a)).score = 0 ∧ (s.object (.station a)).state = .active

/-- The state that an evaluation gives an object with a new score (R134, R135). -/
def State.judge (s : State) (o : ObjectId) (score : Nat) : Health :=
  if (s.object o).state = .isolated then (if score ≤ s.hm.readmit then .active else .isolated)
  else if s.hm.isolate ≤ score ∧ s.effectiveMayIsolate o = true then .isolated
  else if s.hm.suspect ≤ score then .suspect
  else .active

/-- An object that an evaluation finds with a new score: its state by R134 and R135, its limit mark by R136, its stored
flag as it was. -/
def State.judged (s : State) (o : ObjectId) (score : Nat) : HealthObject :=
  { score, state := s.judge o score, mayIsolate := (s.object o).mayIsolate
    limitMark := (s.object o).state != .isolated && decide (s.hm.isolate ≤ score) && !s.effectiveMayIsolate o }

/-- An object after an error event of weight w (R131): the score saturates at 1023, and the object is evaluated. -/
def State.charged (s : State) (o : ObjectId) (w : Byte) : HealthObject :=
  s.judged o (min 1023 ((s.object o).score + w.toNat))

/-- An object after a probe credit (R131): an ISOLATED one loses C, down to 0, and is evaluated; another is left. -/
def State.credited (s : State) (o : ObjectId) : HealthObject :=
  if (s.object o).state = .isolated then s.judged o ((s.object o).score - s.hm.weights.credit.toNat) else s.object o

/-- An object after a probe failure (R131, R155): an ISOLATED one gains P. -/
def State.penalized (s : State) (o : ObjectId) : HealthObject :=
  if (s.object o).state = .isolated then s.charged o s.hm.weights.penalty else s.object o

/-- A station object after a station event (R129, R3): charged while its entry lives on a segment. -/
def State.chargedStation (s : State) (a : Address) (w : Byte) : HealthObject :=
  if (s.entry a).location.isSegment then s.charged (.station a) w else s.object (.station a)

/-- The health objects of two states agree but for those listed. -/
def ObjectsKeptBut (s t : State) (os : List ObjectId) : Prop := ∀ o, o ∉ os → t.object o = s.object o

/-- The settings of the Health Monitor are the same: thresholds, decay, intervals and weights. -/
def HealthSettingsKept (s t : State) : Prop :=
  t.hm.suspect = s.hm.suspect ∧ t.hm.isolate = s.hm.isolate ∧ t.hm.readmit = s.hm.readmit ∧
  t.hm.shift = s.hm.shift ∧ t.hm.decayInterval = s.hm.decayInterval ∧ t.hm.probeInterval = s.hm.probeInterval ∧
  t.hm.weights = s.hm.weights

/-! ### The directory (R2) -/

/-- The entries of two states agree but for those listed, and so do the directory's other fields. -/
def EntriesKeptBut (s t : State) (as : List Address) : Prop :=
  (∀ a, a ∉ as → t.entry a = s.entry a) ∧ t.sd = { s.sd with entries := t.sd.entries }

/-- The ports of two states agree but for those listed. -/
def PortsKeptBut (s t : State) (ns : List PortNo) : Prop := ∀ n, n ∉ ns → t.port n = s.port n

/-- LEARNED occurs only on a segment; no star port is the location of two addresses, and at most one is PRINTER (R2). -/
def DirectoryLaw (s : State) : Prop :=
  (∀ a : Address, (s.entry a).origin = .learned → (s.entry a).location.isSegment = true) ∧
  (∀ a b : Address, (s.entry a).location = (s.entry b).location →
    ((s.entry a).location.isPort = true ∨ (s.entry a).location = .printer) → a = b)

/-! ### The ports (R46, R76, R77, R81, R68) -/

/-- The four lists are empty. -/
def Port.listsEmpty (p : Port) : Prop :=
  p.upstream = [] ∧ p.downstream = [] ∧ p.responses = [] ∧ p.notices = []

/-- Each list holds at most four; only a head can be SENT; and a port in STANDBY or ISOLATED has empty lists and sends
nothing. -/
def PortLaw (s : State) : Prop :=
  ∀ n : PortNo,
    (s.port n).upstream.length ≤ 4 ∧ (s.port n).downstream.length ≤ 4 ∧
    (s.port n).responses.length ≤ 4 ∧ (s.port n).notices.length ≤ 4 ∧
    ((s.port n).headSent = true → (s.port n).upstream ≠ []) ∧
    ((s.port n).state = .standby ∨ (s.port n).state = .isolated →
      (s.port n).listsEmpty ∧ (s.port n).tx.busy = false)

/-- A port in service is ISOLATED exactly when its health object is (R65, R68, R141). -/
def PortHealthLaw (s : State) : Prop :=
  ∀ n : PortNo,
    ((s.port n).state = .isolated → (s.object (.port n)).state = .isolated) ∧
    ((s.port n).state = .online ∨ (s.port n).state = .detached → (s.object (.port n)).state ≠ .isolated)

/-- What becomes of a reply that is being filled for a port when an event commits it early (R52): the code and the message follow
the FILL characters sent by then, those counted (R51) and further ones, whose number is a free value of at most what the fill budget
leaves (log entry 5). With no such fill the Proxy Responder and the trunk are left as they were. -/
def FillCommits (s t : State) (n : PortNo) (c : ReplyCode) (m : List Byte) : Prop :=
  (s.fillingFor n = none → t.pr = s.pr ∧ t.ti = s.ti ∧ t.draws = s.draws) ∧
  ∀ k, s.fillingFor n = some k → t.pr = .sending k c m ∧ t.draws = s.draws + 1 ∧
    ∃ fills, fills ≤ s.ti.segA.profile.fill - s.pr.fillsSent ∧ t.ti = { s.ti with segA := { s.ti.segA with
      line := s.ti.segA.line ++ List.replicate fills 0x1FE ++ burstBody (c.code :: m) } }

/-- The port that hears of the jobs of a source: the one mapped to its address (R80). -/
def State.deskOf (s : State) : Source → Option PortNo
  | .primary => none
  | .desk a => match (s.entry a).location with
    | .port n => some n
    | _ => none

/-- A PRINT_STATE notice is raised for a job of a source (R80, R100): it joins the notices of the port that hears of it while
that port is ONLINE, and no other port changes. -/
def Notified (s t : State) (src : Source) (x : Notice) : Prop :=
  ∀ n, t.port n =
    if s.deskOf src = some n ∧ (s.port n).state = .online then (s.port n).queueNotice x else s.port n

/-- A good frame of a kind and payload completes at a port with this character (R70): no test of R70 before the last
applies. -/
def CompletesGood (s : State) (n : PortNo) (v : Byte) (pb sb : Bool) (kind : Byte) (payload : List Byte) : Prop :=
  characterError (s.port n).profile.parity v pb sb = false ∧ (s.port n).inBreak = false ∧
  (s.port n).rx.phase = .check ∧ (s.port n).rx.errorMark = false ∧ (s.port n).responses.length < 4 ∧
  (s.port n).rx.kind = kind ∧ (s.port n).rx.len.toNat = payload.length ∧ (s.port n).rx.payload = payload ∧
  byteSum (kind :: byteOf payload.length :: payload) + v = 0 ∧ deskKind kind = true ∧ lenSuits kind payload.length = true

/-- A port that has answered the frame just completed: the receiver is in LEAD_HUNT, and the response is sent or waits
(R69, R77, R78). -/
def Port.answered (p : Port) (x : Response) : Port :=
  { p with rx := .hunting, gapTimer := none, gapHeld := false, responses := p.responses ++ [x] }.chooseFrame

/-! ### The spool (R84, R85, R87, R88, R90, R92) -/

/-- The blocks held by the jobs of a source. -/
def blocksOf (jobs : List Job) (src : Source) : Nat :=
  ((jobs.filter fun j => j.source == src).map Job.blocks).sum

/-- A job has left the table (R99): its chain at the tail of the free list in chain order, the charge lowered, its place in
the queue given up, and a JOB_END occurrence handed to the Alert Unit. -/
def Removed (s t : State) (j : Job) (e : Ending) : Prop :=
  t.sm = { s.sm with
    free := s.sm.free ++ j.chain, jobs := s.sm.jobs.filter fun k => k.id != j.id
    queue := s.sm.queue.filter fun i => i != j.id } ∧
  (∀ src, t.heldOf src = if src = j.source then s.heldOf src - j.chain.length else s.heldOf src) ∧
  t.au = s.au.take .jobEnd j.id (.ending e)

/-- The quotas and the routing of two states agree: only held counts may differ. -/
def AccountsAlone (s t : State) : Prop :=
  (∀ a, t.entry a = { s.entry a with held := (t.entry a).held }) ∧
  t.sd = { s.sd with entries := t.sd.entries, primaryHeld := t.sd.primaryHeld }

/-- The id of a job that opens (R87): the first after the last-issued one, from 255 back to 1, that no record holds. -/
def FreshId (s : State) (id : Nat) : Prop :=
  (∃ d, d < 255 ∧ id = (s.sm.lastId + d) % 255 + 1 ∧
    ∀ k, k < d → ∃ j ∈ s.sm.jobs, j.id = (s.sm.lastId + k) % 255 + 1) ∧
  ∀ j ∈ s.sm.jobs, j.id ≠ id

/-- The record that an opening creates (R93, R97). -/
def newJob (s : State) (id : Nat) (src : Source) (copies : Nat) (p : Priority) : Job :=
  { id, source := src, state := .opened, priority := p, copies, copiesDone := 0, count := 0, chain := [], position := none
    pageMark := none, idleTimer := some (1000 * s.sm.idleTimeout) }

/-- There is room in the table for another record of a source (R88). -/
def RoomFor (s : State) (src : Source) : Prop :=
  s.sm.jobs.length < 16 ∧ (s.sm.jobs.filter fun j => j.source == src).length < 4

/-- A text of n characters behind a job of c is admitted (R91): its new blocks fit the source's quota and the free list. -/
def Fits (s : State) (src : Source) (c n : Nat) : Prop :=
  s.heldOf src + blocksNeeded c n ≤ s.quotaOf src ∧ blocksNeeded c n ≤ s.sm.free.length

/-- A job with an admitted text (R91, R98). -/
def Job.admitted (s : State) (j : Job) (text : List Byte) : Job :=
  { j with
    chain := j.chain ++ s.sm.free.take (blocksNeeded j.count text.length), count := j.count + text.length
    idleTimer := some (1000 * s.sm.idleTimeout) }

/-- A closed job has joined the queue in the place its priority gives (R90): NORMAL at the tail, URGENT directly after the
last URGENT job. -/
def JoinsQueue (s t : State) (j : Job) : Prop :=
  (j.priority = .normal → t.sm.queue = s.sm.queue ++ [j.id]) ∧
  (j.priority = .urgent → ∃ front back, s.sm.queue = front ++ back ∧ t.sm.queue = front ++ j.id :: back ∧
    (∀ i ∈ back, ∀ k, s.job? i = some k → k.priority = .normal) ∧
    (∀ i, front.getLast? = some i → ∃ k, s.job? i = some k ∧ k.priority = .urgent))

/-- The engine passes to a state without a job, by the printer's readiness. -/
def Engine.idleState (e : Engine) : EngineState := if e.ready then .idle else .notReady

/-- A job record stands in the job queue: it is QUEUED, HELD or PRINTING (R90). -/
def Job.closed (j : Job) : Bool := j.state != .opened

/-- What the spool's rules say of every state. -/
structure SpoolLaw (s : State) : Prop where
  /-- Every block stands once in the free list or in the chain of one job (R84, R85). -/
  blocks : (s.sm.free ++ s.sm.jobs.flatMap Job.chain).Perm (List.finRange 512)
  /-- A job's block count is its character count divided by 64 and rounded up (R84). -/
  chains : ∀ j ∈ s.sm.jobs, j.chain.length = (j.count + 63) / 64
  /-- Held equals the total of the block counts of the source's jobs (R92). -/
  held : ∀ src : Source, s.heldOf src = blocksOf s.sm.jobs src
  /-- No two records share an id, and 0 is no job's id (R87). -/
  ids : (s.sm.jobs.map Job.id).Nodup ∧ ∀ j ∈ s.sm.jobs, 1 ≤ j.id ∧ j.id ≤ 255
  /-- At most 16 records, at most four of a source, at most one of them OPEN (R88). -/
  limits : s.sm.jobs.length ≤ 16 ∧
    ∀ src : Source, (s.sm.jobs.filter fun j => j.source == src).length ≤ 4 ∧
      (s.sm.jobs.filter fun j => j.state == .opened && j.source == src).length ≤ 1
  /-- The job queue holds each closed job once, and no OPEN one (R90). -/
  queue : s.sm.queue.Nodup ∧ ∀ id, id ∈ s.sm.queue ↔ ∃ j ∈ s.sm.jobs, j.id = id ∧ j.closed = true

/-- The spool memory keeps its canonical form. -/
def MemoryLaw (s : State) : Prop := s.sm.memory.wf = true

/-- The spool memory is kept but for n characters of a chain's text, from an index on: every address that is the place of none of
them reads as before. -/
def TextAlone (s t : State) (chain : List (Fin 512)) (first n : Nat) : Prop :=
  MemoryLaw s → ∀ a, (∀ i, i < n → a ≠ chainAddress chain (first + i)) → t.sm.memory.read a = s.sm.memory.read a

/-- What an admission does beside the record (R91, R92, R106): blocks from the head of the free list, the source's held
count, SPOOL_LOW when the free count falls below the low mark, and the text in its place in the spool memory, every other
character of which is kept. -/
def TextTaken (s t : State) (j : Job) (text : List Byte) : Prop :=
  t.sm.free = s.sm.free.drop (blocksNeeded j.count text.length) ∧ AccountsAlone s t ∧
  (∀ src, t.heldOf src =
    if src = j.source then s.heldOf src + blocksNeeded j.count text.length else s.heldOf src) ∧
  (t.au = if s.sm.lowMark ≤ s.sm.free.length ∧ t.sm.free.length < s.sm.lowMark then
    s.au.take .spoolLow 0 (.free t.sm.free.length) else s.au) ∧
  (SpoolLaw s → MemoryLaw s → ∀ i c, text[i]? = some c →
    t.sm.memory.read (chainAddress (j.admitted s text).chain (j.count + i)) = c) ∧
  TextAlone s t (j.admitted s text).chain j.count text.length

/-- A desk's OPEN job belongs to the address of a port that is ONLINE, DETACHED or STOPPING (R81): so a port in STANDBY or
ISOLATED has a mapped address without an OPEN job. -/
def OpenJobLaw (s : State) : Prop :=
  ∀ j ∈ s.sm.jobs, j.state = .opened → ∀ a : Address, j.source = .desk a →
    ∃ n : PortNo, (s.entry a).location = .port n ∧ (s.port n).state ≠ .standby ∧ (s.port n).state ≠ .isolated

/-! ### The engine (R109, R114, R116) -/

/-- What the taking of the character c at place p, in a copy phase, leaves of the PRINTING job and of the phase (R117, R118):
the position moves on, past a form feed with the page mark; after the last character the end-of-copy form feed is due, or the
next copy starts; none when the last copy has ended. -/
def Job.afterTaken (j : Job) (formFeedAtEnd : Bool) (phase : CopyPhase) (p : Position) (c : Byte) :
    Option (Job × CopyPhase) :=
  let nextCopy := if j.copiesDone + 1 < j.copies then
    some ({ j with copiesDone := j.copiesDone + 1, position := j.start, pageMark := j.start }, CopyPhase.text) else none
  match phase with
  | .endFF => nextCopy
  | .text =>
    if j.lastPlace ≠ some p then
      some ({ j with position := j.after p, pageMark := if c = 0x0C then j.after p else j.pageMark }, .text)
    else if formFeedAtEnd = true ∧ c ≠ 0x0C then some (j, .endFF)
    else nextCopy

/-- A paper or fault condition exists (R119). -/
def Engine.hindered (e : Engine) : Bool := e.ppe || !e.pfltN

/-- The reason of a stall for it; of both conditions, the one whose detected change was taken first (R119). -/
def Engine.reason (e : Engine) : StallReason :=
  if e.pfltN = true then .paper else if e.ppe = false then .fault else if e.faultFirst = true then .fault else .paper

/-- An engine that has stalled, in a copy phase: no handshake is in progress and what was pending is settled (R119, R121,
R122). -/
def Engine.stalledFor (e : Engine) (r : StallReason) (phase : CopyPhase) : Engine :=
  { e with state := .stalled r, phase, handshake := .none, ackTimer := none, grantLost := false }

/-- The printer, and for a SHARED job the grant, allow a strobe (R116). -/
def Engine.strobes (e : Engine) : Bool := !e.pbusy && e.psel && (!e.shared || e.pgnt)

/-- An engine in which the character c has become due, in a copy phase, with no condition in the way (R116): in WAIT, or strobed at
once. -/
def Engine.runsWith (e : Engine) (phase : CopyPhase) (c : Byte) : Engine :=
  { e with
    state := .running, phase, ackTimer := some (1000 * e.profile.ackTimeout)
    handshake := if e.strobes = true then .ack else .wait, pd := if e.strobes = true then c else e.pd }

/-- The character due in a copy phase at a position: the end-of-copy form feed, or the one at the position (R116). -/
def State.dueAt (s : State) (phase : CopyPhase) (position : Option Position) : Byte :=
  if phase = .endFF then 0x0C else (position.map fun q => s.sm.memory.read q.address).getD 0

/-- An engine that leaves a stall, or a claim, with the character c due in a copy phase (R114, R119 to R122). That a SHARED job
without its grant waits in STALLED(GRANT) also where a condition is present is the model's order, log entry 35. -/
def Engine.resumed (e : Engine) (phase : CopyPhase) (c : Byte) : Engine :=
  if e.shared = true ∧ e.pgnt = false then e.stalledFor .grant phase
  else if e.hindered = true then e.stalledFor e.reason phase
  else e.runsWith phase c

/-- An IDLE engine has selected a job in the event that queued it (R113 to R115): the job, with the record k it has as QUEUED, is
PRINTING in the cable mode read now. A SHARED one without PGNT is CLAIMING; otherwise it runs from its first character or, when it was
returned to the queue, from its page mark, and that character is due. -/
def Selected (s t : State) (k : Job) : Prop :=
  let e : Engine := { s.pe with
    job := some k.id, shared := s.pe.profile.shared, preq := s.pe.profile.shared || s.pe.preq }
  let place := if k.pageMark = none then k.start else k.pageMark
  (∀ i, i ≠ k.id → t.job? i = s.job? i) ∧
  if s.pe.profile.shared = true ∧ s.pe.pgnt = false then
    t.pe = { e with state := .claiming } ∧ t.job? k.id = some { k with state := .printing }
  else
    t.pe = e.runsWith .text (t.dueAt .text place) ∧
    t.job? k.id = some { k with state := .printing, position := place, pageMark := place }

/-- A closed job is QUEUED and at once PRINTING: the two notices that its desk hears, in their order (R80, R100). -/
def NotifiedSelected (s t : State) (j : Job) : Prop :=
  ∀ n, t.port n =
    if s.deskOf j.source = some n ∧ (s.port n).state = .online then
      ((s.port n).queueNotice (.printState j.id .queued (t.queuePosition j.id))).queueNotice
        (.printState j.id .printing (t.queuePosition j.id))
    else s.port n

/-- The states in which the engine holds a job (section 6.3). -/
def EngineState.hasJob : EngineState → Bool
  | .claiming | .running | .stalled _ => true
  | .disabled | .idle | .notReady | .gap => false

/-- The states of the engine in which the printer address answers OFFLINE (R58). -/
def EngineState.answersOffline : EngineState → Bool
  | .disabled | .notReady | .stalled _ => true
  | .idle | .claiming | .running | .gap => false

/-- The PRINTING job has ended (R99, R114, R118, R123), and no QUEUED job can be selected in the same event: the job has left the
table, its desk is told, and the engine has let it go. The engine's report is that of a passage into or out of a state in which the
printer address answers OFFLINE (R125, R58). That JOB_END comes before it is log entry 11. -/
def JobEnded (s t : State) (j : Job) (x : Ending) : Prop :=
  s.pe.shared = true ∨ s.pe.disablePending = true ∨ (∀ k ∈ s.sm.jobs, k.state ≠ .queued) →
  t.sm = { s.sm with
    free := s.sm.free ++ j.chain, jobs := s.sm.jobs.filter fun k => k.id != j.id
    queue := s.sm.queue.filter fun i => i != j.id } ∧ AccountsAlone s t ∧
  (∀ src, t.heldOf src = if src = j.source then s.heldOf src - j.chain.length else s.heldOf src) ∧
  t.pe.job = none ∧ t.pe.handshake = .none ∧ t.pe.ackTimer = none ∧
  t.pe.state = (if s.pe.disablePending = true then .disabled else if s.pe.shared = true then .gap else s.pe.idleState) ∧
  (s.pe.shared = true → t.pe.preq = false ∧ t.pe.releaseTimer = some (100 * s.pe.profile.releaseGap)) ∧
  Notified s t j.source (.printState j.id x.notice 0) ∧
  (t.au = if s.pe.state ≠ t.pe.state ∧ (s.pe.state.answersOffline = true ∨ t.pe.state.answersOffline = true) then
      (s.au.take .jobEnd j.id (.ending x)).take .printer 0 (.engine t.pe.state)
    else s.au.take .jobEnd j.id (.ending x)) ∧
  t = { s with sd := t.sd, sm := t.sm, pe := t.pe, ports := t.ports, au := t.au }

/-- A pending disable has returned the PRINTING job, with the record k, to the head of the queue as QUEUED, and the engine is
DISABLED (R124). -/
def JobReturned (s t : State) (k : Job) : Prop :=
  t.job? k.id = some { k with state := .queued } ∧ (∀ id, id ≠ k.id → t.job? id = s.job? id) ∧
  t.sm.queue = k.id :: s.sm.queue.filter (· != k.id) ∧ t.pe.state = .disabled ∧ t.pe.job = none ∧
  t.pe.handshake = .none ∧ t.pe.ackTimer = none ∧
  (s.pe.shared = true → t.pe.preq = false ∧ t.pe.releaseTimer = some (100 * s.pe.profile.releaseGap)) ∧
  Notified s t k.source (.printState k.id .queued 1) ∧ t.au = s.au.take .printer 0 (.engine .disabled) ∧
  t = { s with sm := { s.sm with jobs := t.sm.jobs, queue := t.sm.queue }, pe := t.pe, ports := t.ports, au := t.au }

/-- A handshake is in progress only in RUNNING, and its ack timer with it (R116); the engine has a job exactly in CLAIMING,
RUNNING and STALLED (section 6.3); PREQ is asserted exactly while that job is a SHARED one (R109). -/
def EngineLaw (s : State) : Prop :=
  (s.pe.handshake ≠ .none → s.pe.state = .running) ∧
  (s.pe.ackTimer.isSome = true ↔ s.pe.handshake ≠ .none) ∧
  (s.pe.job.isSome = s.pe.state.hasJob) ∧
  (s.pe.shared = true → s.pe.state.hasJob = true) ∧
  s.pe.preq = s.pe.shared

/-- The PRINTING records are the engine's job: at most one record is PRINTING (R116). -/
def PrintingLaw (s : State) : Prop :=
  (∀ j ∈ s.sm.jobs, j.state = .printing ↔ s.pe.job = some j.id) ∧
  ∀ id, s.pe.job = some id → ∃ j ∈ s.sm.jobs, j.id = id

/-! ### Segment B cut off (R34, R138, R151) -/

/-- A station probe is under way, in any state of its exchange. -/
def State.stationProbe (s : State) : Bool := s.hm.probe.any fun p => p.kind == .station

/-- The probe exchange is in SENDING. -/
def State.probeSending (s : State) : Bool := s.hm.probe.any fun p => p.phase == .sending

/-- While segment B is ISOLATED nothing is forwarded and TXB carries nothing but segment probe polls, the gate open for
them alone; otherwise the gate is open. A probe poll is sent by transmitter B alone. -/
structure CutLaw (s : State) : Prop where
  isolated : s.segBIsolated = true →
    s.ti.segA.copy = none ∧ s.ti.segB.copy = none ∧ (s.ti.segB.tx = .idle ∨ s.ti.segB.tx = .probe) ∧
    s.stationProbe = false ∧ s.ti.gateB = !s.probeSending
  released : s.segBIsolated = false → s.ti.gateB = false
  sending : s.ti.segB.tx = .probe ↔ s.probeSending = true
  roles : s.ti.segA.tx ≠ .probe ∧ s.ti.segB.tx ≠ .reply

end Sys2Proof.Machine
end

