-- ==== Sys2Proof/Certificates/Slice0/Obligations.lean ====
section
/-! DEFINITION. The statements for the provers. Each docstring names the rules of spec/ that the statement formalises. -/

open Sys2Proof Sys2Proof.Machine

/-! ### The machine -/

/-- A step takes the command at the front of the queue and runs it with the queue's rest. -/
def Obligations.StepRunsTheFrontCommand : Prop :=
  ∀ (c : Instr) (s : State), step { s with pending := c :: s.pending } = exec c s

/-- On an empty queue one millisecond of the time base passes: every running millisecond timer holds one less, a gap timer
unless a character is arriving (R71). A reply that is being filled sends FILL characters, which its context counts (R51): how many is a
free value, short of the F-th, whose end is its own event (R52; log entry 5). Nothing else changes. The model's choice, log entry 3. -/
def Obligations.IdleStepCountsOneMillisecond : Prop :=
  ∀ s : State, s.pending = [] →
    ∃ t, step s = .next t ∧
      t = { s with
        sd := t.sd, ti := { s.ti with segA := t.ti.segA }, pr := t.pr, ports := t.ports, sm := t.sm, pe := t.pe, hm := t.hm
        au := t.au, draws := t.draws } ∧
      ((∀ k sent, s.pr ≠ .filling k sent) → t.ti = s.ti ∧ t.pr = s.pr ∧ t.draws = s.draws) ∧
      (∀ k sent, s.pr = .filling k sent → ∃ more, more ≤ s.ti.segA.profile.fill - 1 - sent ∧
        t.pr = .filling k (sent + more) ∧ t.draws = s.draws + 1 ∧
        t.ti.segA = { s.ti.segA with line := s.ti.segA.line ++ List.replicate more 0x1FE }) ∧
      t.sd = { s.sd with minuteTimer := s.sd.minuteTimer - 1 } ∧
      (∀ n, t.port n = { s.port n with
        gapTimer := if (s.port n).gapHeld then (s.port n).gapTimer else (s.port n).gapTimer.map (· - 1)
        detachTimer := (s.port n).detachTimer.map (· - 1) }) ∧
      t.sm = { s.sm with jobs := s.sm.jobs.map fun j => { j with idleTimer := j.idleTimer.map (· - 1) } } ∧
      t.pe = { s.pe with ackTimer := s.pe.ackTimer.map (· - 1), releaseTimer := s.pe.releaseTimer.map (· - 1) } ∧
      t.hm = { s.hm with decayTimer := s.hm.decayTimer - 1, probeTimer := s.hm.probeTimer - 1 } ∧
      t.au = { s.au with secondTimer := s.au.secondTimer - 1 }

/-- No command of the block stops it, and none touches the queue of waiting commands. That a row which cannot occur in the
present state still answers a next state, with nothing changed, is the model's choice, log entry 8. -/
def Obligations.EveryCommandAnswersANextState : Prop :=
  ∀ (c : Instr) (s : State), ∃ t, exec c s = .next t ∧ t.pending = s.pending

/-- The values that R15, R18, R39, R41, R61, R63, R83, R106, R108 to R111, R127, R132, R147, R148, R158, R166, R167, R168 and R181
give for a hard reset: PSTB_N is deasserted and SDA released. -/
def Obligations.ResetHoldsTheSpecValues : Prop :=
  (∀ a : Address, State.reset.entry a =
    { location := .none, origin := .static, standIn := .silent, age := 0, quota := 64, held := 0 }) ∧
  State.reset.sd.primaryQuota = 256 ∧ State.reset.sd.primaryHeld = 0 ∧ State.reset.sd.ageLimit = 60 ∧
  State.reset.sd.minuteTimer = 60000 ∧
  (∀ g : Seg, (State.reset.seg g).profile =
      { rate := .k250, sync := 0x96, syncCount := 2, deadline := 16, fill := 24, jabber := 200, mode := .flood } ∧
    (State.reset.seg g).rx.phase = .hunt ∧ (State.reset.seg g).tx = .idle ∧ (State.reset.seg g).activity = none ∧
    (State.reset.seg g).copy = none ∧ (State.reset.seg g).watch = none) ∧
  State.reset.ti.written = (State.reset.seg .a).profile ∧ State.reset.ti.gateB = false ∧
  State.reset.pr = .idle ∧
  (∀ n : PortNo, (State.reset.port n).state = .standby ∧
    (State.reset.port n).profile = { rate := 3, parity := .none, stopBits := 1, gap := 50, peerUsed := true } ∧
    (State.reset.port n).listsEmpty ∧ (State.reset.port n).tx = .idle ∧ (State.reset.port n).rx.phase = .leadHunt ∧
    (State.reset.port n).gapTimer = none ∧ (State.reset.port n).detachTimer = none ∧
    (State.reset.port n).creditMark = false ∧ (State.reset.port n).breakMark = false) ∧
  State.reset.sm.jobs = [] ∧ State.reset.sm.queue = [] ∧ State.reset.sm.free = List.finRange 512 ∧
  State.reset.sm.lastId = 0 ∧ State.reset.sm.idleTimeout = 30 ∧ State.reset.sm.lowMark = 32 ∧
  State.reset.pe.state = .disabled ∧ State.reset.pe.job = none ∧ State.reset.pe.handshake = .none ∧
  State.reset.pe.preq = false ∧ State.reset.pe.pd = 0 ∧ State.reset.pe.strobeLine = [true] ∧
  State.reset.pe.releaseTimer = none ∧
  State.reset.pe.ackTimer = none ∧ State.reset.pe.stopPending = false ∧ State.reset.pe.disablePending = false ∧
  State.reset.pe.grantLost = false ∧ State.reset.pe.pendingPaper = false ∧ State.reset.pe.pendingFault = false ∧
  State.reset.pe.psel = false ∧ State.reset.pe.ppe = true ∧ State.reset.pe.pfltN = false ∧ State.reset.pe.pbusy = true ∧
  State.reset.pe.profile =
    { shared := false, resumeChar := false, formFeedAtEnd := true, ackTimeout := 5, releaseGap := 10 } ∧
  (∀ o : ObjectId, State.reset.object o =
    { score := 0, state := .active, mayIsolate := decide (o ≠ .segment .a), limitMark := false }) ∧
  State.reset.hm.suspect = 240 ∧ State.reset.hm.isolate = 480 ∧ State.reset.hm.readmit = 96 ∧
  State.reset.hm.shift = 3 ∧ State.reset.hm.decayInterval = 10 ∧ State.reset.hm.probeInterval = 2 ∧
  State.reset.hm.decayTimer = 100 ∧ State.reset.hm.probeTimer = 2000 ∧
  weightBytes State.reset.hm.weights = [64, 32, 16, 8, 255, 32, 16, 16, 8, 32, 16, 16, 128, 16, 128, 64] ∧
  State.reset.hm.probe = none ∧ State.reset.hm.segmentPointer = 0 ∧ State.reset.hm.stationPointer = 0 ∧
  State.reset.hm.jabberMark = false ∧
  State.reset.au.flags = 0 ∧ State.reset.au.alerts = 0 ∧ State.reset.au.reports = 0 ∧ State.reset.au.queue = [] ∧
  State.reset.au.nextSequence = 0 ∧ State.reset.au.seconds = 0 ∧
  State.reset.au.secondTimer = 1000 ∧ State.reset.alertAsserted = false ∧
  State.reset.al.target = 0x4C + State.reset.al.straps.setWidth 7 ∧ State.reset.al.phase = .idle ∧
  State.reset.al.pendingRestart = none ∧
  State.reset.al.response = { status := .none, index := 0, result := [] } ∧
  State.reset.al.sdaOfTakenByte = List.replicate 9 true ∧ State.reset.al.sdaOfReadByte = List.replicate 9 true

/-- Every law of Safety.lean holds at reset: those of the reports, the health objects, the directory, the ports, the spool, its
memory, the open jobs, the engine, and the cutting off of segment B. -/
def Obligations.ResetMeetsEveryLaw : Prop :=
  ReportLaw State.reset ∧ HealthLaw State.reset ∧ DirectoryLaw State.reset ∧ PortLaw State.reset ∧
  PortHealthLaw State.reset ∧ SpoolLaw State.reset ∧ MemoryLaw State.reset ∧ OpenJobLaw State.reset ∧
  EngineLaw State.reset ∧ PrintingLaw State.reset ∧ CutLaw State.reset

/-- A hard reset returns every block to its reset values and samples the straps (R181). What stands outside the part's reset
stays: the pins' levels, the characters left in the spool memory (R108), the queue of commands and the count of free values drawn
(log entries 1, 2 and 26). Where the reset tables give a field no value, the reset state's is the model's (log entries 19, 26, 29,
32 and 36). A strobe being driven is ended, PD0 to PD7 are low and PSTB_N and PREQ deasserted (R109, R127). A transaction under
way is abandoned: SDA is released, and the byte that comes next, whatever it is, changes nothing and is not acknowledged (R181).
-/
def Obligations.HardResetRestoresTheResetValues : Prop :=
  ∀ s : State, let h : State := { State.reset with
      ports := Vector.ofFn fun n => { State.reset.port n with srdy := (s.port n).srdy, inBreak := (s.port n).inBreak }
      sm := { State.reset.sm with memory := s.sm.memory }
      pe := { State.reset.pe with pgnt := s.pe.pgnt }
      al := { State.reset.al with straps := s.al.straps, target := 0x4C + s.al.straps.setWidth 7 }
      draws := s.draws, pending := s.pending }
    exec .hardReset s = .next h ∧
    h.pe.strobeLine = [true] ∧ h.pe.dataLines = List.replicate 8 false ∧ h.pe.preq = false ∧
    h.al.sdaOfReadByte = List.replicate 9 true ∧
    ∀ (bits : List Bool) (ninth : Bool), exec (h.al.commandOfBits bits ninth) h = .next h ∧
      h.al.sdaOfTakenByte = List.replicate 9 true

/-! ### Laws that every step keeps -/

/-- The report queue holds at most 16 records with consecutive sequence numbers (R161), and the spool memory keeps its
canonical form, which is the model's own (log entry 1): each step keeps both. Only a reply's start point and a character that completes
a desk's frame can admit a text (R91): every other command keeps the whole spool memory, a reset among them (log entry 1), and no
command changes a character of the text that a job of the table already holds (R84, R85). -/
def Obligations.StepKeepsReportsAndMemory : Prop :=
  (∀ s t : State, ReportLaw s → step s = .next t → ReportLaw t) ∧
  (∀ s t : State, MemoryLaw s → step s = .next t → MemoryLaw t) ∧
  (∀ (c : Instr) (s t : State),
     (∀ n v pb sb, c ≠ .portCharacterTaken n v pb sb ∧ (c = .frameComplete n v pb sb → (s.port n).rx.kind ≠ kindPrintData)) →
     (∀ quiet, c ≠ .replyStartPoint quiet) → exec c s = .next t → t.sm.memory = s.sm.memory) ∧
  (∀ (c : Instr) (s t : State), SpoolLaw s → MemoryLaw s → exec c s = .next t →
     ∀ j ∈ s.sm.jobs, ∀ i, i < j.count →
       t.sm.memory.read (chainAddress j.chain i) = s.sm.memory.read (chainAddress j.chain i))

/-- Each step keeps what R134, R145, R128 and R3 say: T_r < T_s < T_i ≤ 1023; every score at most 1023; a non-isolated object
ACTIVE exactly below T_s; an ISOLATED one above T_r and with an effective may-isolate of true; segment A's flag false; and a
station object at score 0 and ACTIVE while its entry is NONE, PORT or PRINTER. -/
def Obligations.StepKeepsTheHealthLaw : Prop :=
  ∀ s t : State, HealthLaw s → step s = .next t → HealthLaw t

/-- Each step keeps the origin law and the uniqueness of ports and of the printer address (R2); and a port that leaves service
takes the OPEN job of its address with it (R81, R101). -/
def Obligations.StepKeepsTheDirectoryLaws : Prop :=
  (∀ s t : State, DirectoryLaw s → step s = .next t → DirectoryLaw t) ∧
  (∀ s t : State, DirectoryLaw s → SpoolLaw s → OpenJobLaw s → step s = .next t → OpenJobLaw t)

/-- The bounds of the four lists, the SENT head, quiet ports in STANDBY and ISOLATED (R46, R68, R76, R77, R81), and the
agreement of a port's state with its health object (R65, R68, R141). -/
def Obligations.StepKeepsThePortLaws : Prop :=
  ∀ s t : State, PortLaw s → PortHealthLaw s → step s = .next t → PortLaw t ∧ PortHealthLaw t

/-- The conservation of blocks, the held counts, the ids, the limits of the job table and the job queue (R84, R85, R87, R88,
R90, R92). -/
def Obligations.StepKeepsTheSpoolLaw : Prop :=
  ∀ s t : State, SpoolLaw s → step s = .next t → SpoolLaw t

/-- The handshake, the ack timer, the engine's job and PREQ go with the engine's state (R109, R114, R116), and the PRINTING
record is the engine's job (R113, R116). -/
def Obligations.StepKeepsTheEngineLaws : Prop :=
  (∀ s t : State, EngineLaw s → step s = .next t → EngineLaw t) ∧
  (∀ s t : State, SpoolLaw s → EngineLaw s → PrintingLaw s → step s = .next t → PrintingLaw t)

/-- While segment B is ISOLATED nothing is forwarded and TXB is gated but for segment probe polls (R34, R138, R151). -/
def Obligations.StepKeepsSegmentBCutOff : Prop :=
  ∀ s t : State, CutLaw s → step s = .next t → CutLaw t

/-! ### The administration link -/

/-- A START or a STOP ends the transaction (R169, R172): a command still gathering its arguments is discarded as INCOMPLETE
with its index, the parse state is IDLE, and nothing else changes while no restart is pending. The address byte after a START
(R168, R170, R174): the part's own address with the write direction opens a command list at index 0, with the read direction a
read from the first byte, and any other address is not acknowledged. With no START before it, or behind another's address byte, a
byte in IDLE is not acknowledged either, and nothing is taken from it. -/
def Obligations.TransactionsBeginAndEnd : Prop :=
  (∀ (c : Instr) (s : State), c = .i2cStart ∨ c = .i2cStop → s.al.pendingRestart = none →
     exec c s = .next { s with al := { s.al with
       phase := .idle, remaining := 0, args := [], ignoring := decide (c = .i2cStop), released := false, sent := none
       response := if s.al.phase = .args then { status := .incomplete, index := s.al.index, result := [] }
         else s.al.response } }) ∧
  (∀ (b : Byte) (s : State), s.al.phase = .idle → s.al.ignoring = false →
     exec (.addressByte b) s = .next { s with
      al :=
       if b.extractLsb' 1 7 ≠ s.al.target then { s.al with ignoring := true, acknowledged := false }
       else if b.getLsbD 0 then { s.al with phase := .reading, readPosition := 0, acknowledged := true }
       else { s.al with phase := .lead, index := 0, acknowledged := true } }) ∧
  (∀ (b : Byte) (s : State), s.al.phase = .idle → s.al.ignoring = true →
     exec (.addressByte b) s = .next { s with al := { s.al with acknowledged := false } })

/-- A pending restart is executed at the end of its transaction (R178). FULL (R179): every block is as after a hard reset and the
straps are sampled, while the response buffer, outside ARGS, stays. TRAFFIC (R180): what it keeps and what it clears. An enabled
engine goes to IDLE or NOT_READY by the printer's readiness, its detectors and profile kept, with no job, no handshake, nothing pending,
its timers stopped, PD0 to PD7 at 0, and PSTB_N and PREQ deasserted (R109, R127); the minute, decay and probe timers restart (R18, R147,
R158). That an engine with a disable pending keeps its enable is the model's reading, log entry 34. -/
def Obligations.RestartsAtTheTransactionEnd : Prop :=
  (∀ (c : Instr) (s : State), c = .i2cStart ∨ c = .i2cStop → s.al.pendingRestart = some .full → s.al.phase ≠ .args →
     ∃ h t, exec .hardReset s = .next h ∧ exec c s = .next t ∧ t = { h with al := t.al } ∧
       t.al.target = 0x4C + s.al.straps.setWidth 7 ∧ t.al.straps = s.al.straps ∧ t.al.pendingRestart = none ∧
       t.al.phase = .idle ∧ t.al.response = s.al.response) ∧
  (∀ (c : Instr) (s : State), c = .i2cStart ∨ c = .i2cStop → s.al.pendingRestart = some .traffic → s.al.phase ≠ .args →
     Leads c s fun t =>
       (∀ a : Address, t.entry a = { s.entry a with
         location := if (s.entry a).origin = .learned then .none else (s.entry a).location
         origin := .static, age := 0, held := 0 }) ∧
       t.sd.primaryQuota = s.sd.primaryQuota ∧ t.sd.primaryHeld = 0 ∧ t.sd.ageLimit = s.sd.ageLimit ∧
       t.sd.minuteTimer = 60000 ∧ t.hm.decayTimer = 10 * s.hm.decayInterval ∧ t.hm.probeTimer = 1000 * s.hm.probeInterval ∧
       t.ti.written = s.ti.written ∧ t.ti.gateB = false ∧
       (∀ g : Seg, (t.seg g).profile = s.ti.written ∧ (t.seg g).rx.phase = .hunt ∧ (t.seg g).tx = .idle ∧
         (t.seg g).activity = none ∧ (t.seg g).copy = none ∧ (t.seg g).watch = none) ∧
       t.pr = .idle ∧
       (∀ n : PortNo, (t.port n).state = .standby ∧ (t.port n).profile = (s.port n).profile ∧ (t.port n).listsEmpty ∧
         (t.port n).tx = .idle ∧ (t.port n).rx.phase = .leadHunt ∧ (t.port n).gapTimer = none ∧
         (t.port n).detachTimer = none ∧ (t.port n).creditMark = false ∧ (t.port n).breakMark = false ∧
         (t.port n).srdy = (s.port n).srdy) ∧
       t.sm.jobs = [] ∧ t.sm.queue = [] ∧ t.sm.free = List.finRange 512 ∧ t.sm.lastId = 0 ∧
       t.sm.idleTimeout = s.sm.idleTimeout ∧ t.sm.lowMark = s.sm.lowMark ∧
       t.pe = { s.pe with
         state := if s.pe.state = .disabled then .disabled else s.pe.idleState
         job := none, shared := t.pe.shared, phase := t.pe.phase, handshake := .none, ackTimer := none
         stopPending := false, disablePending := false, grantLost := false, preq := false, pd := 0, releaseTimer := none } ∧
       t.pe.strobeLine = [true] ∧ HealthSettingsKept s t ∧
       (∀ o : ObjectId, t.object o =
         { score := 0, state := .active, mayIsolate := decide (o ≠ .segment .a), limitMark := false }) ∧
       t.hm.probe = none ∧ t.hm.segmentPointer = 0 ∧ t.hm.stationPointer = 0 ∧ t.hm.jabberMark = false ∧
       t.au = { s.au with flags := 0, queue := [], nextSequence := 0 } ∧
       t.al.target = s.al.target ∧ t.al.pendingRestart = none ∧ t.al.response = s.al.response)

/-- Bytes of a write transaction (R170, R171): a lead byte whose code has arguments opens their gathering; an argument byte that
is not the last joins them; in DISCARD a byte is acknowledged and ignored; a lead byte that names no command is refused with
UNKNOWN_COMMAND and ends the list. A read transaction returns the response buffer byte by byte, then 0xFF, until a byte is not
acknowledged (R174). On the bus (R168) a START is SDA falling and a STOP SDA rising while SCL is high; a byte is eight bits, the
most significant first, and its acknowledge bit, in which the part holds SDA low for a byte that it takes and releases SDA for one
that it sends; and those bits are the command of the table that the phase of the link gives (R169). The first byte of the response
is the status, with its value of R185. -/
def Obligations.BytesAreGatheredAndReturned : Prop :=
  ([Status.ok, .none, .unknownCommand, .badValue, .inUse, .notFound, .incomplete, .empty].map Status.code =
    [0x00, 0x01, 0x02, 0x03, 0x04, 0x05, 0x06, 0x07]) ∧
  ((∀ before after : BusLevels,
     (busCondition before after = some .start ↔
       before.scl = true ∧ after.scl = true ∧ before.sda = true ∧ after.sda = false) ∧
     (busCondition before after = some .stop ↔
       before.scl = true ∧ after.scl = true ∧ before.sda = false ∧ after.sda = true)) ∧
   (∀ (b : Byte) (ninth : Bool) (al : AdminLink),
     sdaBits b = List.ofFn (fun i : Fin 8 => b.getMsbD i) ∧
     al.commandOfBits (sdaBits b) ninth = (match al.phase with
       | .idle => .addressByte b
       | .lead => .leadByte b
       | .args => .argumentByte b
       | .discard => .discardByte b
       | .reading => .readByte (!ninth))) ∧
   (∀ (b : Byte) (c : Instr) (s : State),
     s.al.phase = .lead ∧ c = .leadByte b ∨ s.al.phase = .args ∧ c = .argumentByte b ∨
       s.al.phase = .discard ∧ c = .discardByte b ∨
       s.al.phase = .idle ∧ s.al.ignoring = false ∧ b.extractLsb' 1 7 = s.al.target ∧ c = .addressByte b →
     Leads c s fun t => t.al.sdaOfTakenByte = [true, true, true, true, true, true, true, true, false]) ∧
   (∀ (b : Byte) (s : State), s.al.phase = .idle → s.al.ignoring = false → b.extractLsb' 1 7 ≠ s.al.target →
     Leads (.addressByte b) s fun t => t.al.sdaOfTakenByte = List.replicate 9 true) ∧
   (∀ (ack : Bool) (s : State), s.al.phase = .reading →
     Leads (.readByte ack) s fun t => t.al.sdaOfReadByte =
       if s.al.released = true then List.replicate 9 true
       else List.ofFn (fun i : Fin 8 => (((s.al.response.status.code :: byteOf s.al.response.index ::
         s.al.response.result)[s.al.readPosition]?).getD 0xFF).getMsbD i) ++ [true])) ∧
  ((∀ (i : Instr) (w : Spelling) (s : State), spelling i = some w → w.args ≠ [] → s.al.phase = .lead →
     exec (.leadByte w.lead) s = .next { s with al := { s.al with
       code := w.code, cont := w.cont, acknowledged := true, phase := .args, remaining := w.args.length, args := [] } }) ∧
   (∀ (b : Byte) (s : State), s.al.phase = .args → 2 ≤ s.al.remaining →
     exec (.argumentByte b) s = .next { s with al := { s.al with
       args := s.al.args ++ [b], remaining := s.al.remaining - 1, acknowledged := true } }) ∧
   (∀ (b : Byte) (s : State), s.al.phase = .discard →
     exec (.discardByte b) s = .next { s with al := { s.al with acknowledged := true } }) ∧
   (∀ (code : BitVec 7) (cont : Bool) (s : State), s.al.phase = .lead →
     (∀ i w, spelling i = some w → w.code ≠ code) →
     exec (.leadByte (BitVec.ofBool cont ++ code)) s = .next { s with al := { s.al with
       code := code, cont := cont, acknowledged := true, phase := .discard, remaining := 0, args := []
       response := { status := .unknownCommand, index := s.al.index, result := [] } } })) ∧
  (∀ (ack : Bool) (s : State), s.al.phase = .reading →
     (s.al.released = false → exec (.readByte ack) s = .next { s with al := { s.al with
       sent := some (((s.al.response.status.code :: byteOf s.al.response.index :: s.al.response.result)[
         s.al.readPosition]?).getD 0xFF)
       readPosition := if ack then s.al.readPosition + 1 else s.al.readPosition
       released := !ack } }) ∧
     (s.al.released = true → exec (.readByte ack) s = .next { s with al := { s.al with sent := none } }))

/-- The link reads every command as the controller spells it (R170, R185): the lead byte and the argument bytes, taken in
LEAD, run exactly that command, with no bit of an argument dropped. -/
def Obligations.SpelledCommandsRunAsTheCommand : Prop :=
  ∀ (i : Instr) (w : Spelling) (s : State), spelling i = some w → s.al.phase = .lead →
    s.run w.events = exec i { s with al := s.al.gathered w }

/-- Every command of the link answers in the response buffer with its index (R170, R171, R173): a status other than OK
changes nothing in any block, carries no result and ends the list; OK lets the list go on after continuation 1, unless a
restart is pending. The statement holds in every phase of the link; for a command row given outside LEAD or ARGS, the phase and
the index that follow it are the model's choice, log entry 9. -/
def Obligations.AnswersOfTheLink : Prop :=
  ∀ (i : Instr) (w : Spelling) (s : State), spelling i = some w →
    Leads i s fun t =>
      t.al.response.index = s.al.index ∧
      (t.al.response.status ≠ .ok →
        RefusedWith s t t.al.response.status ∧ t.al.pendingRestart = s.al.pendingRestart) ∧
      (t.al.response.status = .ok →
        if w.cont = true ∧ t.al.pendingRestart = none then
          t.al.phase = .lead ∧ t.al.index = min 255 (s.al.index + 1)
        else t.al.phase = .discard ∧ t.al.index = s.al.index)

/-- HOLD_JOB, RELEASE_JOB, PROMOTE_JOB and CANCEL_JOB refuse an id of 0 and an id that no record holds (R102). -/
def Obligations.JobCommandsNameAJob : Prop :=
  ∀ (c : Bool → Byte → Instr) (cont : Bool) (id : Byte) (s : State),
    c = .holdJob ∨ c = .releaseJob ∨ c = .promoteJob ∨ c = .cancelJob →
    (id = 0 → Refuses (c cont id) s .badValue) ∧
    (id ≠ 0 → (∀ j ∈ s.sm.jobs, j.id ≠ id.toNat) → Refuses (c cont id) s .notFound)

/-- The read commands return their records, taken whole at their execution, and change nothing in any block (R17, R82, R107, R126,
R146, R176). Each record is written out here field by field in the order of R186, with its codes: 25, 14, 18, 7, 25, 21, 23 and 7
bytes, and LIST_JOBS 3 bytes and 3 for each record of the table, which under the spool's law is at most 51. What the copy phase, the
position and the page mark of READ_PRINTER show while a job is in CLAIMING, TEXT and none or the returned job's, is the model's choice,
log entry 32; that a paper or fault condition is pending exactly while it is present in ACK is log entry 19. -/
def Obligations.ReadCommandsReturnTheirRecords : Prop :=
  let two (n : Nat) : List Byte := [BitVec.ofNat 8 (n / 256), BitVec.ofNat 8 n]
  let flag (b : Bool) : Byte := BitVec.ofNat 8 b.toNat
  let count (n : Nat) : Byte := BitVec.ofNat 8 n
  let block (b : Option (Fin 512)) : List Byte := match b with
    | some b => two b.val
    | none => [0xFF, 0xFF]
  let place (p : Option Position) : List Byte := match p with
    | some p => two p.block.val ++ [count p.offset.val]
    | none => [0xFF, 0xFF, 0xFF]
  let status (s : State) : List Byte :=
    two s.au.flags.toNat ++ two s.au.alerts.toNat ++ two s.au.reports.toNat ++ [count s.au.queue.length, s.au.nextSequence] ++
    two s.au.seconds.toNat ++ [(s.object (.segment .a)).state.code, (s.object (.segment .b)).state.code,
      (s.port 0).state.code, (s.port 1).state.code, (s.port 2).state.code, (s.port 3).state.code, (s.port 4).state.code,
      (s.port 5).state.code, (s.port 6).state.code, (s.port 7).state.code, s.pe.state.code, s.pe.state.reasonCode] ++
    two s.sm.free.length ++ [count s.sm.jobs.length]
  let entry (s : State) (a : Address) : List Byte :=
    let e := s.entry a
    let shown : ObjectId := match e.location with
      | .port n => .port n
      | _ => .station a
    [count a.val, e.location.code, e.location.portCode, e.origin.code, e.standIn.code, count e.age] ++ two e.quota ++
    two e.held ++ two (s.object shown).score ++ [(s.object shown).state.code, flag (s.object shown).mayIsolate]
  let primary (s : State) : List Byte :=
    [0x40, 0, 0, 0, 0, 0] ++ two s.sd.primaryQuota ++ two s.sd.primaryHeld ++ [0, 0, 0, 1]
  let port (s : State) (n : PortNo) : List Byte :=
    let p := s.port n
    [count n.val, p.state.code, count p.profile.rate.val, p.profile.parity.code, count p.profile.stopBits, count p.profile.gap,
      if p.profile.peerUsed then 0 else 1, match s.mappedAddress n with | some a => count a.val | none => 0xFF, flag p.srdy,
      flag p.detachTimer.isSome, count p.upstream.length, if p.upstream = [] then 0 else if p.headSent then 2 else 1,
      count p.downstream.length, count p.responses.length, count p.notices.length,
      match p.rx.phase with | .leadHunt => 0 | .kind => 1 | .len | .payload | .check => 2,
      match p.rx.phase with | .leadHunt | .kind => 0xFF | .len | .payload | .check => p.rx.kind, p.tx.code]
  let health (s : State) (o : ObjectId) : List Byte :=
    o.code :: two (s.object o).score ++
    [(s.object o).state.code, flag (s.object o).mayIsolate, flag (s.effectiveMayIsolate o), flag (s.object o).limitMark]
  let parameters (s : State) : List Byte :=
    let w := s.hm.weights
    two s.hm.suspect ++ two s.hm.isolate ++ two s.hm.readmit ++
    [count s.hm.shift, count s.hm.decayInterval, count s.hm.probeInterval, w.stationCheckError, w.stationPollMiss,
      w.segmentCheckError, w.segmentPollMiss, w.jabber, w.conflict, w.malformed, w.truncated, w.charError, w.frameCheck,
      w.frameTruncated, w.overrun, w.breakWeight, w.protocol, w.credit, w.penalty]
  let printer (s : State) (j : Option Job) : List Byte :=
    let e := s.pe
    [e.state.code, e.state.reasonCode] ++
    (match j with
      | some j => count j.id :: place j.position ++ place j.pageMark ++
          [e.phase.code, count j.copiesDone, count j.copies, e.handshake.code]
      | none => [0, 0xFF, 0xFF, 0xFF, 0xFF, 0xFF, 0xFF, 0xFF, 0xFF, 0xFF, 0]) ++
    [count (e.stopPending.toNat + 2 * e.disablePending.toNat + 4 * (e.handshake == .ack && e.ppe).toNat +
        8 * (e.handshake == .ack && !e.pfltN).toNat + 16 * e.grantLost.toNat),
      count (e.psel.toNat + 2 * e.ppe.toNat + 4 * e.pfltN.toNat + 8 * e.pbusy.toNat + 16 * e.pgnt.toNat + 32 * e.preq.toNat),
      flag e.releaseTimer.isSome, flag e.profile.shared, flag e.profile.resumeChar, flag e.profile.formFeedAtEnd,
      count e.profile.ackTimeout, count e.profile.releaseGap]
  let list (s : State) : List Byte :=
    two s.sm.free.length ++ [count s.sm.jobs.length] ++
    (s.sm.queue.filterMap s.job? ++ s.sm.jobs.filter fun j => j.state == .opened).flatMap fun j =>
      [count j.id, j.source.code, j.state.code]
  let job (s : State) (j : Job) : List Byte :=
    [count j.id, j.source.code, j.state.code, j.priority.code, count j.copies, count j.copiesDone] ++ two j.count ++
    two j.chain.length ++ block j.chain.head? ++ block j.chain.getLast? ++
    [if j.count = 0 then 0 else count ((j.count - 1) % 64 + 1)] ++ place j.position ++ place j.pageMark ++
    [count ((s.sm.queue.idxOf? j.id).elim 0 (· + 1)), count (j.idleTimer.elim 0 (· / 1000))]
  let returns (c : Instr) (s : State) (cont : Bool) (record : List Byte) :=
    ∃ t, exec c s = .next t ∧ Accepted s t cont record ∧ SameBlocks s t
  (∀ (cont : Bool) (s : State),
     returns (.readStatus cont) s cont (status s) ∧
     (s.pe.job = none → returns (.readPrinter cont) s cont (printer s none)) ∧
     (∀ j, s.pe.job = some j.id → s.job? j.id = some j → returns (.readPrinter cont) s cont (printer s (some j))) ∧
     returns (.listJobs cont) s cont (list s) ∧
     returns (.readHealth cont 0xFF) s cont (parameters s) ∧
     returns (.readEntry cont 0x40) s cont (primary s) ∧
     (∀ a : Address, returns (.readEntry cont (byteOf a.val)) s cont (entry s a)) ∧
     (∀ n : PortNo, returns (.readPort cont (byteOf n.val)) s cont (port s n)) ∧
     (∀ o : ObjectId, returns (.readHealth cont o.code) s cont (health s o)) ∧
     (∀ (id : Byte) (j : Job), id ≠ 0 → s.job? id.toNat = some j → returns (.readJob cont id) s cont (job s j))) ∧
  (∀ s : State,
     (status s).length = 25 ∧ (parameters s).length = 25 ∧ (∀ j, (printer s j).length = 21) ∧ (primary s).length = 14 ∧
     (∀ a, (entry s a).length = 14) ∧ (∀ n, (port s n).length = 18) ∧ (∀ o, (health s o).length = 7) ∧
     (∀ j, (job s j).length = 23) ∧ (SpoolLaw s → (list s).length = 3 + 3 * s.sm.jobs.length ∧ (list s).length ≤ 51)) ∧
  (∀ r : Report, r.bytes.length = 7 ∧
     r.bytes = r.sequence :: count r.cause.code :: count r.subject :: r.detail.bytes ++ two r.stamp.toNat) ∧
  ((ObjectId.segment .a).code = 0x00 ∧ (ObjectId.segment .b).code = 0x01 ∧
   (∀ n : PortNo, (ObjectId.port n).code = BitVec.ofNat 8 (0x10 + n.val)) ∧
   (∀ a : Address, (ObjectId.station a).code = BitVec.ofNat 8 (0x40 + a.val)) ∧
   [Location.none, .segA, .segB, .port 5, .printer].map Location.code = [0, 1, 2, 3, 4] ∧
   [Location.none, .segA, .segB, .port 5, .printer].map Location.portCode = [0, 0, 0, 5, 0] ∧
   [Origin.static, .learned].map Origin.code = [0, 1] ∧ [StandIn.silent, .offline].map StandIn.code = [0, 1] ∧
   [Health.active, .suspect, .isolated].map Health.code = [0, 1, 2] ∧ HealthDetail.limit.code = 3 ∧
   [PortState.standby, .online, .detached, .stopping, .isolated].map PortState.code = [0, 1, 2, 3, 4] ∧
   [EngineState.disabled, .idle, .notReady, .claiming, .running, .stalled .paper, .gap].map EngineState.code =
     [0, 1, 2, 3, 4, 5, 6] ∧
   [EngineState.idle, .stalled .paper, .stalled .fault, .stalled .noResponse, .stalled .grant].map EngineState.reasonCode =
     [0, 1, 2, 3, 4] ∧
   [JobState.opened, .queued, .held, .printing].map JobState.code = [0, 1, 2, 3] ∧
   [Priority.normal, .urgent].map Priority.code = [0, 1] ∧ [CopyPhase.text, .endFF].map CopyPhase.code = [0, 1] ∧
   [Handshake.none, .wait, .ack].map Handshake.code = [0, 1, 2] ∧
   (∀ f, [PortTx.idle, .sending f, .held].map PortTx.code = [0, 1, 2]) ∧
   [Parity.none, .odd, .even].map Parity.code = [0, 1, 2] ∧ Source.primary.code = 0x40 ∧
   (∀ a : Address, (Source.desk a).code = count a.val) ∧
   [Cause.segmentState, .portState, .stationState, .conflict, .moved, .printer, .jobEnd, .spoolLow, .reportLost].map
     Cause.code = [0, 1, 2, 3, 4, 5, 6, 7, 8] ∧
   (∀ h, (Detail.health h).bytes = [0, h.code]) ∧ (∀ p, (Detail.port p none).bytes = [p.code, 0xFF]) ∧
   (∀ p h, (Detail.port p (some h)).bytes = [p.code, h.code]) ∧
   [Detail.segment .a, .segment .b, .aged].map Detail.bytes = [[0, 1], [0, 2], [0, 0x10]] ∧
   (∀ e, (Detail.engine e).bytes = [e.code, e.reasonCode]) ∧ (∀ n, (Detail.free n).bytes = two n) ∧
   [Ending.done, .empty, .cancelled, .timeout, .discarded].map (fun e => (Detail.ending e).bytes) =
     [[0, 0], [0, 1], [0, 2], [0, 3], [0, 4]])

/-- The commands that only write settings (R5, R63, R106, R111, R130, R159, R164, R178): accepted with their arguments in
range, they write exactly those settings. -/
def Obligations.SettingsAreWritten : Prop :=
  ∀ (cont : Bool) (s : State),
    (∀ (a : Address) (q : BitVec 16), q.toNat ≤ 512 → Accepts (.setQuota cont (byteOf a.val) q) s cont fun t =>
      t.entry a = { s.entry a with quota := q.toNat } ∧ EntriesKeptBut s t [a] ∧
      t = { s with sd := t.sd, al := t.al }) ∧
    (∀ q : BitVec 16, q.toNat ≤ 512 → Accepts (.setQuota cont 0x40 q) s cont fun t =>
      t = { s with sd := { s.sd with primaryQuota := q.toNat }, al := t.al }) ∧
    (∀ w : Weights, Accepts (.setWeights cont w) s cont fun t =>
      t = { s with hm := { s.hm with weights := w }, al := t.al }) ∧
    (∀ alerts reports : BitVec 16, alerts.toNat < 512 → reports.toNat < 512 →
      Accepts (.setAlerts cont alerts reports) s cont fun t =>
        t = { s with au := { s.au with alerts := alerts.setWidth 9, reports := reports.setWidth 9 }, al := t.al }) ∧
    (∀ causes : BitVec 16, causes.toNat < 512 → Accepts (.clearCauses cont causes) s cont fun t =>
      t = { s with au := { s.au with flags := s.au.flags &&& ~~~(causes.setWidth 9) }, al := t.al }) ∧
    (∀ (n : PortNo) (rate : Fin 8) (parity : Parity) (stop gap ready : Byte), (s.port n).state = .standby →
      1 ≤ stop.toNat → stop.toNat ≤ 2 → 5 ≤ gap.toNat → ready.toNat ≤ 1 →
      Accepts (.setPortProfile cont (byteOf n.val) (byteOf rate.val) parity.code stop gap ready) s cont fun t =>
        t.port n = { s.port n with
          profile := { rate, parity, stopBits := stop.toNat, gap := gap.toNat, peerUsed := ready == 0 } } ∧
        PortsKeptBut s t [n] ∧ t = { s with ports := t.ports, al := t.al }) ∧
    (∀ (shared resume formFeed : Bool) (timeout gap idle : Byte) (low : BitVec 16), 1 ≤ timeout.toNat →
      timeout.toNat ≤ 60 → 1 ≤ gap.toNat → gap.toNat ≤ 100 → 1 ≤ idle.toNat → low.toNat ≤ 512 →
      Accepts (.setPrintProfile cont (boolCode shared) (boolCode resume) (boolCode formFeed) timeout gap idle low) s cont
        fun t => t = { s with
          pe := { s.pe with profile :=
            { shared, resumeChar := resume, formFeedAtEnd := formFeed, ackTimeout := timeout.toNat
              releaseGap := gap.toNat } }
          sm := { s.sm with idleTimeout := idle.toNat, lowMark := low.toNat }, al := t.al }) ∧
    (∀ (kind : Byte) (k : RestartKind), kind = 1 ∧ k = .full ∨ kind = 2 ∧ k = .traffic →
      exec (.restart cont kind) s = .next { s with al := { s.al with
        pendingRestart := some k, phase := .discard, remaining := 0, args := []
        response := { status := .ok, index := s.al.index, result := [] } } })

/-- Arguments out of range refuse a command with BAD_VALUE, a port in use refuses its profile with IN_USE, and READ_JOB refuses
an id that no record holds with NOT_FOUND (R5, R10, R11, R39, R63, R65, R67, R82, R107, R111, R143 to R146, R159, R164, R178).
That SET_PORT_PROFILE answers BAD_VALUE for a port in use when an argument is out of range too is read from the order of R63's
sentences, log entry 20. -/
def Obligations.ArgumentsOutOfRangeAreRefused : Prop :=
  ∀ (cont : Bool) (s : State),
    (∀ (x : Byte) (q : BitVec 16), 63 ≤ x.toNat ∧ x ≠ 0x40 ∨ 512 < q.toNat →
      Refuses (.setQuota cont x q) s .badValue) ∧
    (∀ x : Byte, 63 ≤ x.toNat → Refuses (.clearEntry cont x) s .badValue ∧
      Refuses (.setPrinterAddress cont x) s .badValue ∧ (x ≠ 0x40 → Refuses (.readEntry cont x) s .badValue)) ∧
    (∀ x : Byte, 8 ≤ x.toNat → Refuses (.portEnable cont x) s .badValue ∧ Refuses (.portStandby cont x) s .badValue ∧
      Refuses (.readPort cont x) s .badValue) ∧
    (∀ rate sync count d f : Byte, ∀ j : BitVec 16, ∀ mode age : Byte,
      3 ≤ rate.toNat ∨ count.toNat = 0 ∨ 3 ≤ count.toNat ∨ d.toNat < 4 ∨ 64 < d.toNat ∨ 63 < f.toNat ∨
        j.toNat < 200 ∨ 1023 < j.toNat ∨ 2 ≤ mode.toNat →
      Refuses (.setTrunkProfile cont rate sync count d f j mode age) s .badValue) ∧
    (∀ port rate parity stop gap ready : Byte,
      8 ≤ port.toNat ∨ 8 ≤ rate.toNat ∨ 3 ≤ parity.toNat ∨ stop.toNat = 0 ∨ 3 ≤ stop.toNat ∨ gap.toNat < 5 ∨
        2 ≤ ready.toNat →
      Refuses (.setPortProfile cont port rate parity stop gap ready) s .badValue) ∧
    (∀ (n : PortNo) (rate : Fin 8) (parity : Parity) (stop gap ready : Byte), (s.port n).state ≠ .standby →
      1 ≤ stop.toNat → stop.toNat ≤ 2 → 5 ≤ gap.toNat → ready.toNat ≤ 1 →
      Refuses (.setPortProfile cont (byteOf n.val) (byteOf rate.val) parity.code stop gap ready) s .inUse) ∧
    (∀ cable resume ff timeout gap idle : Byte, ∀ low : BitVec 16,
      2 ≤ cable.toNat ∨ 2 ≤ resume.toNat ∨ 2 ≤ ff.toNat ∨ timeout.toNat = 0 ∨ 60 < timeout.toNat ∨ gap.toNat = 0 ∨
        100 < gap.toNat ∨ idle.toNat = 0 ∨ 512 < low.toNat →
      Refuses (.setPrintProfile cont cable resume ff timeout gap idle low) s .badValue) ∧
    (∀ ts ti tr : BitVec 16, ∀ k decay probe : Byte,
      ¬ (tr.toNat < ts.toNat ∧ ts.toNat < ti.toNat ∧ ti.toNat ≤ 1023) ∨ k.toNat = 0 ∨ 7 < k.toNat ∨ decay.toNat = 0 ∨
        probe.toNat = 0 ∨ 60 < probe.toNat →
      Refuses (.setHealthLimits cont ts ti tr k decay probe) s .badValue) ∧
    (∀ alerts reports : BitVec 16, 512 ≤ alerts.toNat ∨ 512 ≤ reports.toNat →
      Refuses (.setAlerts cont alerts reports) s .badValue) ∧
    (∀ causes : BitVec 16, 512 ≤ causes.toNat → Refuses (.clearCauses cont causes) s .badValue) ∧
    (∀ kind : Byte, kind ≠ 1 → kind ≠ 2 → Refuses (.restart cont kind) s .badValue) ∧
    (∀ x : Byte, (∀ o : ObjectId, x ≠ o.code) → Refuses (.forceIsolate cont x) s .badValue ∧
      Refuses (.forceReadmit cont x) s .badValue ∧ (∀ f, Refuses (.setMayIsolate cont x f) s .badValue) ∧
      (x ≠ 0xFF → Refuses (.readHealth cont x) s .badValue)) ∧
    (∀ x flag : Byte, 2 ≤ flag.toNat → Refuses (.setMayIsolate cont x flag) s .badValue) ∧
    Refuses (.readJob cont 0) s .badValue ∧
    (∀ id : Byte, id ≠ 0 → (∀ j ∈ s.sm.jobs, j.id ≠ id.toNat) → Refuses (.readJob cont id) s .notFound)

/-! ### The station directory -/

/-- WRITE_ENTRY refuses by the first case of R9's table that applies, and accepts a write that keeps an entry on its port in any
state of that port. Accepted, it writes the routing of its address (R8): location and stand-in as written, STATIC, age 0. When the
location changes, the station object is set to score 0 and ACTIVE with its flag kept (R3), and an ONLINE port that gains the
address tells its desk (R80). Nothing else changes in the directory, the other objects, the other ports, the spool, the engine and
the trunk. -/
def Obligations.WriteEntryJudgesAndWrites : Prop :=
  (∀ (cont : Bool) (address location port standIn : Byte) (s : State),
     (63 ≤ address.toNat ∨ 4 ≤ location.toNat ∨ location = 3 ∧ 8 ≤ port.toNat ∨ 2 ≤ standIn.toNat →
       Refuses (.writeEntry cont address location port standIn) s .badValue) ∧
     (∀ (a : Address) (n : PortNo) (st : StandIn),
       ((∃ b, b ≠ a ∧ (s.entry b).location = .port n) →
         Refuses (.writeEntry cont (byteOf a.val) 3 (byteOf n.val) st.code) s .inUse) ∧
       ((∀ b, b ≠ a → (s.entry b).location ≠ .port n) → (s.entry a).location = .port n →
         Accepts (.writeEntry cont (byteOf a.val) 3 (byteOf n.val) st.code) s cont fun t =>
           t.entry a = { s.entry a with origin := .static, standIn := st, age := 0 } ∧ EntriesKeptBut s t [a] ∧
           t = { s with sd := t.sd, al := t.al })) ∧
     (∀ (a : Address) (m : PortNo) (l : Location) (st : StandIn), locationOf location port = some l → l ≠ .port m →
       (s.entry a).location = .port m → (s.port m).state ≠ .standby →
       Refuses (.writeEntry cont (byteOf a.val) location port st.code) s .inUse)) ∧
  (∀ (cont : Bool) (a : Address) (location port : Byte) (l : Location) (st : StandIn) (s : State),
     locationOf location port = some l → (∀ b, b ≠ a → l.isPort = true → (s.entry b).location ≠ l) →
     (l ≠ (s.entry a).location → ∀ m, (s.entry a).location = .port m → (s.port m).state = .standby) →
     Accepts (.writeEntry cont (byteOf a.val) location port st.code) s cont fun t =>
       t.entry a = { s.entry a with location := l, origin := .static, standIn := st, age := 0 } ∧
       EntriesKeptBut s t [a] ∧ t = { s with sd := t.sd, ports := t.ports, hm := t.hm, au := t.au, al := t.al } ∧
       HealthSettingsKept s t ∧ ObjectsKeptBut s t [.station a] ∧
       (l = (s.entry a).location → t.hm = s.hm ∧ t.au = s.au ∧ t.ports = s.ports) ∧
       (l ≠ (s.entry a).location →
         t.object (.station a) =
           { score := 0, state := .active, mayIsolate := (s.object (.station a)).mayIsolate, limitMark := false } ∧
         ∀ n, t.port n =
           if l = .port n ∧ (s.port n).state = .online then
             (s.port n).queueNotice (.linkState .online (some a) s.pe.state s.sm.free.length (min 255 (s.entry a).held))
           else s.port n))

/-- CLEAR_ENTRY (R10) returns an address to the unused state, its accounts kept and its station object at score 0, ACTIVE with
may-isolate true; cleared, the printer address leaves the part without one; an entry in the unused state stays as it was. It is
refused for address 63, or while the address's port is not STANDBY. SET_PRINTER_ADDRESS (R11) moves the printer address, the
stand-ins and accounts kept; the named station's object is set to 0 and ACTIVE, a readmission if it was ISOLATED, and reported
unless it was 0 and ACTIVE already (R3); it is refused for address 63 and for an address on a port. No address is the printer's
after a hard reset or RESTART FULL, and RESTART TRAFFIC keeps the one there is. A cleared address is learned again, with age 0, at
the next valid reply of its station, and such a reply at the printer address is a conflict (R13). -/
def Obligations.AddressesAreClearedAndThePrinterPlaced : Prop :=
  (∀ (cont : Bool) (x : Byte) (s : State), 63 ≤ x.toNat →
    Refuses (.clearEntry cont x) s .badValue ∧ Refuses (.setPrinterAddress cont x) s .badValue) ∧
  (∀ s : State, Leads .hardReset s fun t => ∀ a, (t.entry a).location ≠ .printer) ∧
  (∀ (c : Instr) (s : State), c = .i2cStart ∨ c = .i2cStop →
    (s.al.pendingRestart = some .full → Leads c s fun t => ∀ a, (t.entry a).location ≠ .printer) ∧
    (s.al.pendingRestart = some .traffic → DirectoryLaw s →
      Leads c s fun t => ∀ a, ((t.entry a).location = .printer ↔ (s.entry a).location = .printer))) ∧
  (∀ (g : Seg) (a : Address) (s : State), (s.seg g).tx = .idle → (s.seg g).rx.phase = .inBurst →
    (s.seg g).rx.address = some (.reply, a) → (s.seg g).rx.malformed = false → (s.seg g).rx.endsInMark = false →
    2 ≤ (s.seg g).rx.body.length → (s.seg g).rx.body.length ≤ 130 → byteSum (s.seg g).rx.body = 0 →
    (g = .b → ∀ pr, s.hm.probe = some pr → pr.phase ≠ .replyIn) → Leads (.burstEnd g false) s fun t =>
      ((s.entry a).location = .none →
        t.entry a = { s.entry a with location := segLocation g, origin := .learned, age := 0 }) ∧
      ((s.entry a).location = .printer → (s.entry a).origin = .static →
        t.entry a = s.entry a ∧ t.object (.segment g) = s.charged (.segment g) s.hm.weights.conflict ∧
        t.au.flags &&& Cause.conflict.bit ≠ 0)) ∧
  ∀ (cont : Bool) (a : Address) (s : State),
    let told := if (s.object (.station a)).score = 0 ∧ (s.object (.station a)).state = .active then s.au
      else s.au.take .stationState a.val (.health (.state .active))
    ((∀ m, (s.entry a).location = .port m → (s.port m).state = .standby) →
      Accepts (.clearEntry cont (byteOf a.val)) s cont fun t =>
        t.entry a = { s.entry a with location := .none, origin := .static, standIn := .silent, age := 0 } ∧
        EntriesKeptBut s t [a] ∧ ObjectsKeptBut s t [.station a] ∧
        t.object (.station a) = { score := 0, state := .active, mayIsolate := true, limitMark := false } ∧ t.au = told ∧
        ((s.entry a).location = .printer → DirectoryLaw s → ∀ b, (t.entry b).location ≠ .printer) ∧
        (s.entry a = { s.entry a with location := .none, origin := .static, standIn := .silent, age := 0 } →
          s.object (.station a) = { score := 0, state := .active, mayIsolate := true, limitMark := false } → SameBlocks s t) ∧
        t = { s with sd := t.sd, hm := t.hm, au := t.au, al := t.al }) ∧
    ((∃ m, (s.entry a).location = .port m ∧ (s.port m).state ≠ .standby) →
      Refuses (.clearEntry cont (byteOf a.val)) s .inUse) ∧
    ((s.entry a).location.isPort = true → Refuses (.setPrinterAddress cont (byteOf a.val)) s .inUse) ∧
    ((s.entry a).location = .printer →
      Accepts (.setPrinterAddress cont (byteOf a.val)) s cont fun t => SameBlocks s t) ∧
    (DirectoryLaw s → (s.entry a).location.isPort = false → (s.entry a).location ≠ .printer →
      Accepts (.setPrinterAddress cont (byteOf a.val)) s cont fun t =>
        t.entry a = { s.entry a with location := .printer, origin := .static, age := 0 } ∧
        (∀ b, b ≠ a → t.entry b =
          if (s.entry b).location = .printer then { s.entry b with location := .none, origin := .static, age := 0 }
          else s.entry b) ∧
        t.sd = { s.sd with entries := t.sd.entries } ∧
        (∀ b, t.object (.station b) =
          if b = a ∨ (s.entry b).location = .printer then
            { score := 0, state := .active, mayIsolate := (s.object (.station b)).mayIsolate, limitMark := false }
          else s.object (.station b)) ∧
        (∀ o, (∀ b, o ≠ .station b) → t.object o = s.object o) ∧ (HealthLaw s → t.au = told) ∧
        t = { s with sd := t.sd, hm := t.hm, au := t.au, al := t.al })

/-- At an expiry of the minute timer (R15, R16) every segment entry ages by one up to 255, and a LEARNED one that has reached
the learned age limit, unless its station is ISOLATED, reverts to NONE with its station object at score 0 and ACTIVE; no
other entry and no other object changes, and the timer restarts. -/
def Obligations.MinuteTimerAgesTheEntries : Prop :=
  ∀ s : State, Leads .minuteTimerExpiry s fun t =>
    t.sd = { s.sd with entries := t.sd.entries, minuteTimer := 60000 } ∧
    t = { s with sd := t.sd, hm := t.hm, au := t.au } ∧
    (∀ o, (∀ b, o ≠ .station b) → t.object o = s.object o) ∧
    ∀ a : Address,
      if (s.entry a).location.isSegment = false then
        t.entry a = s.entry a ∧ t.object (.station a) = s.object (.station a)
      else if (s.entry a).origin = .learned ∧ s.sd.ageLimit ≠ 0 ∧ s.sd.ageLimit ≤ min 255 ((s.entry a).age + 1) ∧
          (s.object (.station a)).state ≠ .isolated then
        t.entry a = { s.entry a with location := .none, origin := .static, age := 0 } ∧
        t.object (.station a) =
          { score := 0, state := .active, mayIsolate := (s.object (.station a)).mayIsolate, limitMark := false }
      else
        t.entry a = { s.entry a with age := min 255 ((s.entry a).age + 1) } ∧
        t.object (.station a) = s.object (.station a)

/-! ### The trunk -/

/-- SET_TRUNK_PROFILE writes the profile and the learned age limit, and a segment at a burst boundary takes the profile up at
once (R16, R39, R40). A change that meets a forwarded burst in flight is taken up by neither segment and is held back on both (R35);
that a change written later takes the place of one held back is log entry 28. -/
def Obligations.TrunkProfileIsTakenUpAtABoundary : Prop :=
  ∀ (cont : Bool) (rate sync count d f : Byte) (j : BitVec 16) (mode age : Byte) (p : TrunkProfile) (s : State),
    trunkProfileOf rate sync count d f j mode = some p →
    rateOf rate = some p.rate ∧ modeOf mode = some p.mode ∧
    p.sync = sync ∧ p.syncCount = count.toNat ∧ p.deadline = d.toNat ∧ p.fill = f.toNat ∧ p.jabber = j.toNat ∧
    Accepts (.setTrunkProfile cont rate sync count d f j mode age) s cont fun t =>
      t = { s with
        sd := { s.sd with ageLimit := age.toNat }
        ti := { s.ti with
          written := p
          segA := { s.ti.segA with
            changeHeld := !s.noCopy, profile := if s.atBoundary .a then p else s.ti.segA.profile }
          segB := { s.ti.segB with
            changeHeld := !s.noCopy, profile := if s.atBoundary .b then p else s.ti.segB.profile } }
        al := t.al }

/-- A receiver whose own transmitter is idle (R21, R24, R25): activity starts its measure; a sync match in HUNT leads to
SYNC1 or, with a sync count of 1, to IN_BURST; the next sync character leads from SYNC1 to IN_BURST and any other back to
HUNT; idle in HUNT or SYNC1 ends the activity, and then the segments at a burst boundary take up the profile last written
(R40), unless it met a forwarded burst and one of the segments has not reached a boundary since (R35; that they need not stand at it
in one moment is log entry 28). A receiver whose transmitter is sending takes none of these. A sync match on a line without recorded
activity starts the measure itself, log entry 14. -/
def Obligations.ReceiverFindsItsBurst : Prop :=
  ∀ (g : Seg) (s : State),
    ((s.seg g).tx ≠ .idle → ∀ c : Instr, c = .lineActivityStart g ∨ c = .syncMatch g ∨ c = .idleRecognized g ∨
      (∃ ch, c = .trunkCharacterTaken g ch) → exec c s = .next s) ∧
    ((s.seg g).tx = .idle →
      exec (.lineActivityStart g) s =
        .next (s.setSeg g { s.seg g with activity := some ((s.seg g).activity.getD 0) }) ∧
      ((s.seg g).rx.phase = .hunt → Leads (.syncMatch g) s fun t =>
        (t.seg g).rx.phase = (if (s.seg g).profile.syncCount = 1 then .inBurst else .sync1) ∧
        (t.seg g).rx.address = none ∧ (t.seg g).rx.body = [] ∧ (t.seg g).rx.malformed = false ∧
        t = s.setSeg g { s.seg g with
          rx := (t.seg g).rx, activity := some ((s.seg g).activity.getD 0) }) ∧
      ((s.seg g).rx.phase = .sync1 → ∀ ch : TrunkChar, Leads (.trunkCharacterTaken g ch) s fun t =>
        (t.seg g).rx.phase = (if ch = dataChar (s.seg g).profile.sync then .inBurst else .hunt) ∧
        t = s.setSeg g { s.seg g with rx := (t.seg g).rx }) ∧
      ((s.seg g).rx.phase ≠ .inBurst →
        let waits := (s.seg g.other).changeHeld && !s.atBoundary g.other
        Leads (.idleRecognized g) s fun t =>
        t.seg g = { s.seg g with
          rx := .hunting, activity := none, changeHeld := (s.seg g).changeHeld && !s.noCopy
          profile := if s.noCopy = true ∧ waits = false then s.ti.written else (s.seg g).profile } ∧
        t.seg g.other = { s.seg g.other with
          changeHeld := waits
          profile := if s.atBoundary g.other then s.ti.written else (s.seg g.other).profile } ∧
        t = { s with ti := { s.ti with segA := t.ti.segA, segB := t.ti.segB } }))

/-- What a receiver in IN_BURST takes from a character that is not the burst's address character (R22): further sync characters
and FILL are skipped, a data character joins the body, and anything else marks the burst malformed, whether or not the burst is
forwarded; while no copy of the burst is bound for the far segment, or the copy there is of an earlier burst, whose source has
ended, nothing else changes. A forwarded copy sends the far segment's sync characters and then, one character for each that
completes on the source, the source's characters in their order (R31). While a copy is held, nothing of it is sent, and the
source's characters wait in its buffer of 8 (R30, R31); what a full buffer then holds is a free value, log entry 6. The burst's
end on the source marks the copy's source as ended (R31), unless its error event isolates segment B, which stops the copy (R34).
-/
def Obligations.ReceiverGathersAndCopySends : Prop :=
  let gathers (g : Seg) (ch : TrunkChar) (s t : State) :=
    t.seg g = { s.seg g with rx := { (s.seg g).rx with
      endsInMark := marker ch, malformed := (t.seg g).rx.malformed, body := (t.seg g).rx.body } } ∧
    ((s.seg g).rx.malformed = true →
      (t.seg g).rx.malformed = true ∧ (t.seg g).rx.body = (s.seg g).rx.body) ∧
    ((s.seg g).rx.malformed = false → (s.seg g).rx.address = none →
      ((t.seg g).rx.malformed = true ↔ ch ≠ dataChar (s.seg g).profile.sync) ∧
      (t.seg g).rx.body = (s.seg g).rx.body) ∧
    ((s.seg g).rx.malformed = false → (s.seg g).rx.address ≠ none →
      ((t.seg g).rx.malformed = true ↔ marker ch = true ∧ ch ≠ 0x1FE) ∧
      (t.seg g).rx.body = if marker ch then (s.seg g).rx.body else (s.seg g).rx.body ++ [charValue ch])
  (∀ (g : Seg) (ch : TrunkChar) (s : State), (s.seg g).tx = .idle → (s.seg g).rx.phase = .inBurst →
     (∀ c, (s.seg g.other).copy = some c → c.sourceEnded = true ∨ (s.seg g).rx.address = none) →
     ((s.seg g).rx.awaitsAddress = true → isBurstAddress ch = false) →
     Leads (.trunkCharacterTaken g ch) s fun t => gathers g ch s t ∧ t = s.setSeg g (t.seg g)) ∧
  (∀ (g : Seg) (ch : TrunkChar) (c : Copy) (s : State), (s.seg g).tx = .idle → (s.seg g).rx.phase = .inBurst →
     (s.seg g).rx.address ≠ none → (s.seg g.other).copy = some c → c.started = true → c.sourceEnded = false →
     c.buffer ≠ [] → c.buffer.length + c.syncLeft ≤ 8 →
     Leads (.trunkCharacterTaken g ch) s fun t =>
       (0 < c.syncLeft →
         (t.seg g.other).line = (s.seg g.other).line ++ [dataChar (s.seg g.other).profile.sync] ∧
         (t.seg g.other).copy = some { c with syncLeft := c.syncLeft - 1, buffer := c.buffer ++ [ch] }) ∧
       (c.syncLeft = 0 →
         (t.seg g.other).line = (s.seg g.other).line ++ c.buffer.take 1 ∧
         (t.seg g.other).copy = some { c with buffer := c.buffer.drop 1 ++ [ch] }) ∧
       (t.seg g.other).tx = (s.seg g.other).tx ∧ gathers g ch s t ∧
       t = { s with ti := { s.ti with segA := t.ti.segA, segB := t.ti.segB }, draws := t.draws }) ∧
  (∀ (g : Seg) (ch : TrunkChar) (c : Copy) (s : State), (s.seg g).tx = .idle → (s.seg g).rx.phase = .inBurst →
     (s.seg g).rx.address ≠ none → (s.seg g.other).copy = some c → c.started = false → c.sourceEnded = false →
     Leads (.trunkCharacterTaken g ch) s fun t =>
       (∃ waiting, t.seg g.other = { s.seg g.other with copy := some { c with buffer := waiting } } ∧
         waiting.length ≤ 8 ∧ (c.buffer.length < 8 → waiting = c.buffer ++ [ch])) ∧
       gathers g ch s t ∧
       t = { s with ti := { s.ti with segA := t.ti.segA, segB := t.ti.segB }, draws := t.draws }) ∧
  (∀ (g : Seg) (inside : Bool) (c : Copy) (s : State), (s.seg g).tx = .idle → (s.seg g).rx.phase = .inBurst →
     (s.seg g.other).copy = some c →
     Leads (.burstEnd g inside) s fun t =>
       (t.seg g.other).line = (s.seg g.other).line ∧
       (s.segBIsolated = true ∨ t.segBIsolated = false →
         (t.seg g.other).copy = some { c with sourceEnded := true } ∧ (t.seg g.other).tx = (s.seg g.other).tx) ∧
       (s.segBIsolated = false → t.segBIsolated = true → (t.seg g.other).copy = none ∧ (t.seg g.other).tx ≠ .copy))

/-- A burst whose address character is taken on segment A (R22, R30, R32, R154): a poll or select, or a reply that finds no watch
armed there (WatchesAreResolved has the others). When R32 lets it pass, a reply in FLOOD mode and free of R12's conflict (log entry
27): with no probe on the line the copy begins at once, or, where transmitter B cannot take it, is dropped with a CONFLICT event
against segment A; behind a probe poll it is held; an awaited probe is abandoned for it; in a probe's reply it is dropped. That a
burst dropped after an awaited probe was abandoned for it, or behind another that is held, is a CONFLICT too is read from R29 and R30,
log entry 16. When R32 does not let it pass, the address is recorded and nothing else changes. -/
def Obligations.PollsAreForwardedToSegmentB : Prop :=
  ∀ (k : BurstKind) (a : Address) (quiet : Nat) (s : State), (k = .reply → s.ti.segA.watch = none) → (s.seg .a).tx = .idle →
    (s.seg .a).rx.awaitsAddress = true →
    let conflicts := (s.entry a).origin = .static ∧ (s.entry a).location ≠ .none ∧ (s.entry a).location ≠ .segA ∨
      (s.entry a).origin = .learned ∧ (s.entry a).location ≠ .segA ∧ (s.object (.station a)).state = .isolated
    let passes := s.segBIsolated = false ∧ s.ti.segA.profile = s.ti.segB.profile ∧ s.shownIsolated a = false ∧
      (k ≠ .reply →
        s.ti.segA.profile.mode = .flood ∨ (s.entry a).location = .segB ∨ (s.entry a).location = .none) ∧
      (k = .reply → s.ti.segA.profile.mode = .flood ∧ ¬ conflicts)
    let free := s.ti.segB.tx = .idle ∧ s.ti.segB.activity = none ∧ 1 ≤ quiet ∧ s.ti.segB.copy = none
    let begins (t : State) := t.ti.segB.tx = .copy ∧ t.ti.segB.line = [dataChar s.ti.segB.profile.sync] ∧
      t.ti.segB.copy = some { kind := k, station := a, started := true, syncLeft := s.ti.segB.profile.syncCount - 1
                              buffer := [addressChar k a], sourceEnded := false } ∧ t.au = s.au
    let dropped (t : State) := t.object (.segment .a) = s.charged (.segment .a) s.hm.weights.conflict ∧
      ObjectsKeptBut s t [.segment .a] ∧ t.ti.segB = s.ti.segB
    let probing (p : ProbePhase → Prop) := ∃ pr, s.hm.probe = some pr ∧ p pr.phase
    Leads (.addressCharacterTaken .a k a quiet) s fun t =>
      t.ti.segA = { s.ti.segA with rx := { s.ti.segA.rx with address := some (k, a), endsInMark := true } } ∧
      t = { s with ti := { s.ti with segA := t.ti.segA, segB := t.ti.segB }, hm := t.hm, au := t.au } ∧
      (¬ passes → t.ti.segB = s.ti.segB ∧ t.hm = s.hm ∧ t.au = s.au) ∧
      (passes → (s.hm.probe = none ∨ probing (· = .pending)) →
        t.hm.probe = s.hm.probe ∧ if free then begins t ∧ t.hm = s.hm else dropped t) ∧
      (passes → probing (· = .sending) →
        t.hm.probe = s.hm.probe ∧
        if s.ti.segB.copy = none then
          t.ti.segB = { s.ti.segB with copy := some { kind := k, station := a, started := false, syncLeft := 0
                                                      buffer := [addressChar k a], sourceEnded := false } } ∧
          t.hm = s.hm ∧ t.au = s.au
        else dropped t) ∧
      (passes → probing (fun p => ∃ w, p = .awaiting w) →
        t.hm.probe = none ∧ if free then begins t ∧ t.hm = { s.hm with probe := none } else dropped t) ∧
      (passes → probing (· = .replyIn) → t.hm.probe = s.hm.probe ∧ dropped t)

/-- A burst whose address character is taken on segment B (R26, R33): a poll or select, or a reply that finds no watch armed and no
probe in AWAITING, so also one taken while a probe is PENDING (ProbeExchangesRunAndFail and WatchesAreResolved have the others). It is
forwarded to segment A when R33's conditions hold and transmitter A takes it, dropped with a CONFLICT event against segment B when it
does not, and otherwise not forwarded; polls and selects pass in FLOOD mode alone. Not forwarded, it leaves segment A as it was (R29),
unless the CONFLICT isolates segment B, which stops what is being forwarded (R34). -/
def Obligations.RepliesAreForwardedToSegmentA : Prop :=
  ∀ (k : BurstKind) (a : Address) (quiet : Nat) (s : State), (s.seg .b).tx = .idle → (s.seg .b).rx.awaitsAddress = true →
    (k = .reply → s.ti.segB.watch = none ∧ ∀ w kind b, s.hm.probe ≠ some ⟨.awaiting w, kind, b⟩) →
    let conflicts := (s.entry a).origin = .static ∧ (s.entry a).location ≠ .none ∧ (s.entry a).location ≠ .segB ∨
      (s.entry a).origin = .learned ∧ (s.entry a).location ≠ .segB ∧ (s.object (.station a)).state = .isolated
    let passes := s.segBIsolated = false ∧ s.ti.segA.profile = s.ti.segB.profile ∧ s.shownIsolated a = false ∧
      (k = .reply → ¬ conflicts) ∧ (k ≠ .reply → s.ti.segB.profile.mode = .flood)
    let free := s.ti.segA.tx = .idle ∧ s.ti.segA.activity = none ∧ 1 ≤ quiet ∧ s.ti.segA.copy = none
    Leads (.addressCharacterTaken .b k a quiet) s fun t =>
      let taken : Segment := { s.ti.segB with rx := { s.ti.segB.rx with address := some (k, a), endsInMark := true } }
      (t.seg .b).rx.address = some (k, a) ∧
      (¬ passes → t.ti = { s.ti with segB := taken } ∧ t.hm = s.hm ∧ t.au = s.au) ∧
      (passes → free → t.ti = { s.ti with segA := t.ti.segA, segB := taken }) ∧
      (passes → free → t.ti.segA.tx = .copy ∧ t.ti.segA.line = [dataChar s.ti.segA.profile.sync] ∧
        t.ti.segA.copy = some { kind := k, station := a, started := true
                                syncLeft := s.ti.segA.profile.syncCount - 1, buffer := [addressChar k a]
                                sourceEnded := false } ∧ t.hm = s.hm ∧ t.au = s.au) ∧
      (passes → ¬ free → t.object (.segment .b) = s.charged (.segment .b) s.hm.weights.conflict ∧
        ObjectsKeptBut s t [.segment .b] ∧
        (t.segBIsolated = false → t.ti = { s.ti with segB := taken }) ∧
        (t.segBIsolated = true → t.ti.segA.copy = none ∧ t.ti.segA.tx ≠ .copy ∧ t.ti.segA.line = s.ti.segA.line)) ∧
      t = { s with ti := t.ti, hm := t.hm, au := t.au }

/-- An armed watch of either segment (R27, R37). A REPLY address character of the watched station answers it, and then goes on
as one that finds no watch armed; one of any other station is a miss, and goes on as it would after the watch's expiry:
PollsAreForwardedToSegmentB and RepliesAreForwardedToSegmentA say how. On segment A in FILTERED mode, which forwards no reply, the
outcome is given whole. That the watch is the first to see the address character is log entry 18. The expiry of the window is a
POLL_MISS for the watched station and for the segment, and the watch is disarmed. -/
def Obligations.WatchesAreResolved : Prop :=
  (∀ (a : Address) (w : Watch) (quiet : Nat) (s : State), (s.seg .a).tx = .idle → (s.seg .a).rx.awaitsAddress = true →
     s.ti.segA.watch = some w → s.ti.segA.profile.mode = .filtered →
     Leads (.addressCharacterTaken .a .reply a quiet) s fun t =>
       t.ti.segA.watch = none ∧ t.ti.segA.rx.address = some (.reply, a) ∧
       (w.station = a → t.hm = s.hm ∧ t.au = s.au ∧ t.ti.segB = s.ti.segB) ∧
       (w.station ≠ a →
         t.object (.station w.station) = s.chargedStation w.station s.hm.weights.stationPollMiss ∧
         t.object (.segment .a) = s.charged (.segment .a) s.hm.weights.segmentPollMiss ∧
         ObjectsKeptBut s t [.station w.station, .segment .a]) ∧
       t = { s with ti := t.ti, hm := t.hm, au := t.au }) ∧
  (∀ (g : Seg) (a : Address) (w : Watch) (quiet : Nat) (s : State), (s.seg g).tx = .idle →
     (s.seg g).rx.awaitsAddress = true → (s.seg g).watch = some w →
     (w.station = a → exec (.addressCharacterTaken g .reply a quiet) s =
       exec (.addressCharacterTaken g .reply a quiet) (s.setSeg g { s.seg g with watch := none })) ∧
     (w.station ≠ a → ∃ t, exec (.pollMissWindowExpiry g) s = .next t ∧
       exec (.addressCharacterTaken g .reply a quiet) s = exec (.addressCharacterTaken g .reply a quiet) t)) ∧
  (∀ (g : Seg) (w : Watch) (s : State), (s.seg g).watch = some w →
     Leads (.pollMissWindowExpiry g) s fun t =>
       (t.seg g).watch = none ∧
       t.object (.station w.station) = s.chargedStation w.station s.hm.weights.stationPollMiss ∧
       t.object (.segment g) = s.charged (.segment g) s.hm.weights.segmentPollMiss ∧
       ObjectsKeptBut s t [.station w.station, .segment g] ∧ HealthSettingsKept s t ∧
       t = { s with ti := t.ti, hm := t.hm, au := t.au })

/-- A burst with a failing verdict (R20, R22, R23, R27): TRUNCATED, MALFORMED and CHECK_ERROR charge the segment, and a
CHECK_ERROR on a reply from a station whose entry has the segment's location charges that station too. The receiver returns
to HUNT, and nothing is handed on: no reply, no watch (R26, R36); an armed one stays unless the charge isolates its station or segment B
(R34). The burst may end in any state of the probe scheduler but, on segment B, REPLY_IN
(ProbeExchangesRunAndFail has that one). That a burst whose last character ended with marker 1 is TRUNCATED is read from test 2 of R23,
log entry 13. -/
def Obligations.FailingBurstsAreCharged : Prop :=
  ∀ (g : Seg) (inside : Bool) (s : State), (s.seg g).tx = .idle → (s.seg g).rx.phase = .inBurst →
    (g = .b → ∀ pr, s.hm.probe = some pr → pr.phase ≠ .replyIn) →
    let r := (s.seg g).rx
    let ended (t : State) := (t.seg g).rx.phase = .hunt ∧ (t.seg g).activity = none ∧
      (t.seg g).line = (s.seg g).line ∧ (t.seg g.other).line = (s.seg g.other).line ∧ (t.seg g.other).rx = (s.seg g.other).rx ∧
      (s.segBIsolated = true ∨ t.segBIsolated = false → (t.seg g).copy = (s.seg g).copy ∧ (t.seg g).tx = (s.seg g).tx ∧
        (t.seg g.other).copy = (s.seg g.other).copy.map (fun c => { c with sourceEnded := true }) ∧
        (t.seg g.other).tx = (s.seg g.other).tx ∧ t.ti.gateB = s.ti.gateB) ∧
      t = { s with ti := t.ti, hm := t.hm, au := t.au }
    let watched (t : State) := t.ti.segA.watch = s.ti.segA.watch ∧
      (s.segBIsolated = true ∨ t.segBIsolated = false → t.ti.segB.watch = s.ti.segB.watch)
    (inside = true ∨ r.endsInMark = true → Leads (.burstEnd g inside) s fun t => ended t ∧ watched t ∧
      t.object (.segment g) = s.charged (.segment g) s.hm.weights.truncated ∧ ObjectsKeptBut s t [.segment g]) ∧
    (inside = false → r.endsInMark = false →
      (r.malformed = true ∨ r.address = none ∨ ∃ k a, r.address = some (k, a) ∧ countSuits k r.body.length = false) →
      Leads (.burstEnd g inside) s fun t => ended t ∧ watched t ∧
        t.object (.segment g) = s.charged (.segment g) s.hm.weights.malformed ∧ ObjectsKeptBut s t [.segment g]) ∧
    (inside = false → r.endsInMark = false → r.malformed = false →
      ∀ k a, r.address = some (k, a) → countSuits k r.body.length = true → byteSum r.body ≠ 0 →
      Leads (.burstEnd g inside) s fun t => ended t ∧
        ((t.object (.station a)).state ≠ .isolated ∨ (s.object (.station a)).state = .isolated → watched t) ∧
        ((s.object (.station a)).state ≠ .isolated → (t.object (.station a)).state = .isolated →
          t.ti.segA.watch = if s.ti.segA.watch.map Watch.station = some a then none else s.ti.segA.watch) ∧
        t.object (.segment g) = s.charged (.segment g) s.hm.weights.segmentCheckError ∧
        t.object (.station a) = (if k = .reply ∧ (s.entry a).location = segLocation g then
          s.charged (.station a) s.hm.weights.stationCheckError else s.object (.station a)) ∧
        ObjectsKeptBut s t [.segment g, .station a])

/-- The end of a valid reply teaches the directory by R13's table: a NONE entry is learned, one at the segment of reception
gets age 0, a LEARNED one at the other segment moves unless its station is ISOLATED (R14), and any other is a conflict
charged to the segment. The reply may end in any state of the probe scheduler but, on segment B, REPLY_IN (ProbeExchangesRunAndFail
has that one). -/
def Obligations.ValidRepliesTeachTheDirectory : Prop :=
  ∀ (g : Seg) (a : Address) (s : State), (s.seg g).tx = .idle → (s.seg g).rx.phase = .inBurst →
    (s.seg g).rx.address = some (.reply, a) → (s.seg g).rx.malformed = false → (s.seg g).rx.endsInMark = false →
    2 ≤ (s.seg g).rx.body.length → (s.seg g).rx.body.length ≤ 130 → byteSum (s.seg g).rx.body = 0 →
    (g = .b → ∀ pr, s.hm.probe = some pr → pr.phase ≠ .replyIn) →
    let e := s.entry a
    Leads (.burstEnd g false) s fun t =>
      EntriesKeptBut s t [a] ∧ t = { s with sd := t.sd, ti := t.ti, hm := t.hm, au := t.au } ∧
      (e.location = .none → t.entry a = { e with location := segLocation g, origin := .learned, age := 0 } ∧
        t.hm = s.hm ∧ t.au = s.au) ∧
      (e.location = segLocation g → t.entry a = { e with age := 0 } ∧ t.hm = s.hm ∧ t.au = s.au) ∧
      (e.location = segLocation g.other → e.origin = .learned → (s.object (.station a)).state ≠ .isolated →
        t.entry a = { e with location := segLocation g, age := 0 } ∧
        t.object (.station a) =
          (s.setEntry a { e with location := segLocation g }).judged (.station a) (s.object (.station a)).score ∧
        ObjectsKeptBut s t [.station a] ∧ t.au.flags &&& Cause.moved.bit ≠ 0) ∧
      (e.location ≠ .none → e.location ≠ segLocation g →
        (e.origin = .static ∨ (s.object (.station a)).state = .isolated) →
        t.entry a = e ∧ t.object (.segment g) = s.charged (.segment g) s.hm.weights.conflict ∧
        ObjectsKeptBut s t [.segment g] ∧ t.au.flags &&& Cause.conflict.bit ≠ 0)

/-- The end of a valid poll or select on segment A (R36, R42, R43, R47): the reply context by R42's table, the removal of a
SENT head by a NEXT, and the poll-miss watch for a SEG_A station; a watch that is armed already is first resolved as a POLL_MISS for
its station and segment A (R37). -/
def Obligations.ValidRequestsAreTaken : Prop :=
  ∀ (k : BurstKind) (a : Address) (s : State), k ≠ .reply → (s.seg .a).tx = .idle → (s.seg .a).rx.phase = .inBurst →
    (s.seg .a).rx.address = some (k, a) → (s.seg .a).rx.malformed = false → (s.seg .a).rx.endsInMark = false →
    countSuits k (s.seg .a).rx.body.length = true → byteSum (s.seg .a).rx.body = 0 →
    let body := (s.seg .a).rx.body
    let request : Request := if k = .poll then .poll (body.headD 0) else .select body.dropLast
    let waits (h : Handling) : ReplyContext := .waiting
      { station := a, request, handling := h, standIn := (s.entry a).standIn, deadline := s.ti.segA.profile.deadline }
    Leads (.burstEnd .a false) s fun t =>
      t = { s with ti := t.ti, pr := t.pr, ports := t.ports, hm := t.hm, au := t.au } ∧
      (∀ n, (s.entry a).location = .port n → t.pr = waits (.desk n) ∧ PortsKeptBut s t [n] ∧
        t.port n = if request = .poll 0 ∧ (s.port n).headSent = true then
          { s.port n with upstream := (s.port n).upstream.drop 1, headSent := false } else s.port n) ∧
      ((s.entry a).location.isPort = false → t.ports = s.ports) ∧
      ((s.entry a).location = .printer → t.pr = waits .printer) ∧
      ((s.entry a).location = .segB →
        (s.segBIsolated = true ∨ (s.object (.station a)).state = .isolated) →
        t.pr = if (s.entry a).standIn = .offline then waits .standIn else .idle) ∧
      ((s.entry a).location = .segB → s.segBIsolated = false → (s.object (.station a)).state ≠ .isolated →
        t.pr = .idle) ∧
      ((s.entry a).location = .none → t.pr = .idle) ∧
      ((s.entry a).location = .segA → t.pr = .idle ∧
        t.ti.segA.watch = some { station := a, window := s.ti.segA.profile.deadline + 2 } ∧
        (s.ti.segA.watch = none → t.hm = s.hm ∧ t.au = s.au) ∧
        ∀ w, s.ti.segA.watch = some w →
          t.object (.station w.station) = s.chargedStation w.station s.hm.weights.stationPollMiss ∧
          t.object (.segment .a) = s.charged (.segment .a) s.hm.weights.segmentPollMiss ∧
          ObjectsKeptBut s t [.station w.station, .segment .a] ∧ HealthSettingsKept s t) ∧
      ((s.entry a).location ≠ .segA → t.hm = s.hm ∧ t.au = s.au ∧ t.ti.segA.watch = s.ti.segA.watch)

/-- A jabber event (R24, R27, R35, R148): the receiver returns to HUNT while the activity goes on, the segment is charged,
on segment B the jabber mark is set, and a copy of the burst that is still being forwarded is cut, in any state of the probe scheduler
but, on segment B, REPLY_IN (ProbeExchangesRunAndFail has that one). On a line without recorded activity
the event starts the measure itself, log entry 14. -/
def Obligations.JabberCutsTheBurst : Prop :=
  ∀ (g : Seg) (s : State), (s.seg g).tx = .idle → (g = .b → ∀ pr, s.hm.probe = some pr → pr.phase ≠ .replyIn) →
    Leads (.jabber g) s fun t =>
      (t.seg g).rx.phase = .hunt ∧ (t.seg g).activity = some ((s.seg g).activity.getD 0 + 1) ∧
      t.object (.segment g) = s.charged (.segment g) s.hm.weights.jabber ∧
      (t.hm.jabberMark = if g = .b then true else s.hm.jabberMark) ∧
      (g = .b ∨ s.ti.segB.watch = none → ObjectsKeptBut s t [.segment g]) ∧
      (∀ c, (s.seg g).rx.phase = .inBurst → (s.seg g.other).copy = some c → c.sourceEnded = false →
        (t.seg g.other).copy = none ∧ (t.seg g.other).tx ≠ .copy) ∧
      t = { s with ti := t.ti, hm := t.hm, au := t.au }

/-- The segment transmitters (R28, R30, R31, R36, R43, R149, R151, R153): a held burst begins once line B is available; a
reply's end leaves the reply context IDLE; a copy ends with the characters still in its buffer and, for a poll or select to a
SEG_B station, arms the watch of segment B, one that is armed already being first resolved as a POLL_MISS for its station and segment
B (R37); a probe poll's end opens its reply window and closes the gate over an ISOLATED
segment B. A waiting reply is abandoned at its deadline with no effect (R44), and a fill whose budget is exhausted commits to NIL
with all its FILL characters sent (R52). That a copy's end arms its watch also where the earlier watch's miss isolates segment B in
the same event is read from R36, log entry 17. A change of profile that met the copy is taken up at its end only when both segments
are then at a boundary (R35). On TXA and TXB each character is nine bits, b0 to b7 and the marker, and a line whose
driver enable is inactive stands at mark (R28, R34, R182). What the part sends is written out in the numbers of R182 and R183: address
characters, the sync, code and check characters of a reply (R45) and of a probe poll. -/
def Obligations.TransmittersAndRepliesFinish : Prop :=
  (∀ s : State,
     (∀ (c : Copy) (quiet : Nat), s.ti.segB.copy = some c → c.started = false → s.ti.segB.tx = .idle →
       s.ti.segB.activity = none → 1 ≤ quiet →
       exec (.forwardHeldStart quiet) s = .next { s with ti := { s.ti with segB := { s.ti.segB with
         tx := .copy, line := [dataChar s.ti.segB.profile.sync]
         copy := some { c with started := true, syncLeft := s.ti.segB.profile.syncCount - 1 } } } }) ∧
     (∀ (k : Taking) (code : ReplyCode) (m : List Byte), s.ti.segA.tx = .reply → s.pr = .sending k code m →
       Leads (.transmitterBurstEnd .a) s fun t => t.ti.segA.tx = .idle ∧ t.pr = .idle ∧
         t.ti.segA.line = s.ti.segA.line ∧
         t = { s with pr := .idle, ti := { s.ti with segA := t.ti.segA, segB := t.ti.segB } }) ∧
     (∀ (g : Seg) (c : Copy), (s.seg g).tx = .copy → (s.seg g).copy = some c → c.sourceEnded = true →
       Leads (.transmitterBurstEnd g) s fun t => (t.seg g).tx = .idle ∧ (t.seg g).copy = none ∧
         (t.seg g).line = (s.seg g).line ++
           List.replicate c.syncLeft (dataChar (s.seg g).profile.sync) ++ c.buffer ∧
         (t.seg g).watch = (if g = .b ∧ c.kind ≠ .reply ∧ (s.entry c.station).location = .segB then
           some { station := c.station, window := (s.seg g).profile.deadline + 2 } else (s.seg g).watch) ∧
         ((s.seg g).watch = none ∨ ¬ (g = .b ∧ c.kind ≠ .reply ∧ (s.entry c.station).location = .segB) →
           t.hm = s.hm ∧ t.au = s.au) ∧
         (∀ w, (s.seg g).watch = some w → g = .b → c.kind ≠ .reply → (s.entry c.station).location = .segB →
           t.object (.station w.station) = s.chargedStation w.station s.hm.weights.stationPollMiss ∧
           t.object (.segment .b) = s.charged (.segment .b) s.hm.weights.segmentPollMiss ∧
           ObjectsKeptBut s t [.station w.station, .segment .b] ∧ HealthSettingsKept s t) ∧
         ((s.seg g).watch = none → (s.seg g.other).copy = none →
           (∀ x, (s.seg x).changeHeld = true) →
           ∀ x, (t.seg x).profile =
             if (s.seg g).activity = none ∧ (s.seg g.other).activity = none ∧ (s.seg g.other).tx = .idle then s.ti.written
             else (s.seg x).profile) ∧
         t = { s with ti := t.ti, hm := t.hm, au := t.au }) ∧
     (∀ (k : ProbeKind) (target : Address), s.ti.segB.tx = .probe → s.hm.probe = some ⟨.sending, k, target⟩ →
       Leads (.transmitterBurstEnd .b) s fun t => t.ti.segB.tx = .idle ∧
         t.hm = { s.hm with probe := some ⟨.awaiting (s.ti.segB.profile.deadline + 2), k, target⟩ } ∧
         t.ti.gateB = (s.segBIsolated || s.ti.gateB) ∧ t = { s with ti := t.ti, hm := t.hm })) ∧
  (∀ (k : Taking) (s : State),
     (s.pr = .waiting k → exec .replyDeadlineExpiry s = .next { s with pr := .idle }) ∧
     (∀ sent, s.pr = .filling k sent → exec .fillBudgetExhausted s = .next { s with
       pr := .sending k .nil []
       ti := { s.ti with segA := { s.ti.segA with
         line := s.ti.segA.line ++ List.replicate (s.ti.segA.profile.fill - sent) 0x1FE ++ burstBody [0x02] } } })) ∧
  (∀ (g : Seg) (s : State),
     ((s.seg g).tx = .idle ∨ g = .b ∧ s.ti.gateB = true → s.drives g = false ∧ s.trunkLine g = [true]) ∧
     ((s.seg g).tx ≠ .idle → (g = .b → s.ti.gateB = false) →
       s.drives g = true ∧
       s.trunkLine g = (s.seg g).line.flatMap fun ch => List.ofFn fun i : Fin 9 => ch.getLsbD i.val)) ∧
  (∀ ch : TrunkChar, trunkCharOf (List.ofFn fun i : Fin 9 => ch.getLsbD i.val) = ch) ∧
  (∀ a : Address, addressChar .poll a = BitVec.ofNat 9 (0x100 + a.val) ∧
     addressChar .select a = BitVec.ofNat 9 (0x140 + a.val) ∧ addressChar .reply a = BitVec.ofNat 9 (0x180 + a.val)) ∧
  (∀ (p : TrunkProfile) (a : Address),
     replyHead p a = List.replicate p.syncCount (p.sync.setWidth 9) ++ [BitVec.ofNat 9 (0x180 + a.val)] ∧
     probeBurst p a = List.replicate p.syncCount (p.sync.setWidth 9) ++ [BitVec.ofNat 9 (0x100 + a.val), 0x001, 0x0FF]) ∧
  (∀ data : List Byte, burstBody data = (data ++ [-(data.foldr (· + ·) 0)]).map fun b : Byte => b.setWidth 9) ∧
  [ReplyCode.data, .nil, .offline, .accept, .refuse].map ReplyCode.code = [0x01, 0x02, 0x03, 0x04, 0x05] ∧
  burstBody [0x02] = [0x002, 0x0FE] ∧ (∀ b : Byte, dataChar b = b.setWidth 9)

/-! ### The reply context -/

/-- The start point of a reply to a poll (R44, R45, R48 to R51, R57, R58): by the state of the port, or of the engine, the
reply is DATA with the upstream head, which becomes SENT, or a fill begins, or NIL or OFFLINE is sent, or nothing. -/
def Obligations.PollsAreAnsweredAtTheStartPoint : Prop :=
  ∀ (k : Taking) (code : Byte) (quiet : Nat) (s : State), s.pr = .waiting k → k.request = .poll code →
    s.ti.segA.tx = .idle → s.ti.segA.activity = none → 1 ≤ quiet →
    let sends (c : ReplyCode) (m : List Byte) (t : State) := t.pr = .sending k c m ∧ t.ti.segA.tx = .reply ∧
      t.ti.segA.line = replyHead s.ti.segA.profile k.station ++ burstBody (c.code :: m)
    let standsIn (t : State) := if k.standIn = .offline then sends .offline [] t else t.pr = .idle ∧ t.ti = s.ti
    let next := code = 0 ∨ code = 2
    Leads (.replyStartPoint quiet) s fun t =>
      t = { s with pr := t.pr, ports := t.ports, ti := { s.ti with segA := t.ti.segA } } ∧
      (k.handling = .standIn → sends .offline [] t ∧ t.ports = s.ports) ∧
      (k.handling = .printer → sends (if s.pe.state.answersOffline then .offline else .nil) [] t ∧ t.ports = s.ports) ∧
      (∀ n, k.handling = .desk n → PortsKeptBut s t [n] ∧
        ((s.port n).state = .stopping ∨ (s.port n).state = .standby → sends .offline [] t ∧ t.ports = s.ports) ∧
        ((s.port n).state = .isolated → standsIn t ∧ t.ports = s.ports) ∧
        ((s.port n).state = .online ∨ (s.port n).state = .detached →
          (next → ∀ m rest, (s.port n).upstream = m :: rest →
            sends .data m t ∧ t.port n = { s.port n with headSent := true }) ∧
          (next → (s.port n).upstream = [] → (s.port n).state = .detached →
            sends .offline [] t ∧ t.ports = s.ports) ∧
          (next → (s.port n).upstream = [] → (s.port n).state = .online → t.ports = s.ports ∧
            if (s.port n).receivingMsg = true ∧ 1 ≤ s.ti.segA.profile.fill then
              t.pr = .filling k 0 ∧ t.ti.segA.tx = .reply ∧
              t.ti.segA.line = replyHead s.ti.segA.profile k.station
            else sends .nil [] t) ∧
          (¬ next → t.ports = s.ports ∧
            sends (if (s.port n).state = .detached ∧ (s.port n).upstream = [] then .offline else .nil) [] t)))

/-- The start point of a reply to a select (R44, R54, R57, R59): a desk's message is appended downstream and ACCEPTed while its
port is ONLINE with room, REFUSEd while there is none or the port is DETACHED; out of service the reply is OFFLINE and over an
isolated port the stand-in; a stand-in or a DISABLED printer answers OFFLINE. At the printer (R97) ABORT discards the primary's
OPEN job; a text is admitted to it, or to a new job when the table has room, and REFUSEd whole when R91's tests fail or there is
no room; LAST closes the job after its text, if any; an empty LAST closes it as it stands. An IDLE engine selects the closed job
in the same event (R113 to R115). -/
def Obligations.SelectsAreAnsweredAtTheStartPoint : Prop :=
  ∀ (k : Taking) (m : List Byte) (quiet : Nat) (s : State), s.pr = .waiting k → k.request = .select m →
    s.ti.segA.tx = .idle → s.ti.segA.activity = none → 1 ≤ quiet →
    let sends (c : ReplyCode) (t : State) := t.pr = .sending k c [] ∧ t.ti.segA.tx = .reply ∧
      t.ti.segA.line = replyHead s.ti.segA.profile k.station ++ burstBody [c.code]
    let only (t : State) := t = { s with pr := t.pr, ti := { s.ti with segA := t.ti.segA } }
    Leads (.replyStartPoint quiet) s fun t =>
      (k.handling = .standIn → sends .offline t ∧ only t) ∧
      (k.handling = .printer → s.pe.state = .disabled → sends .offline t ∧ only t) ∧
      (k.handling = .printer → s.pe.state ≠ .disabled →
        sends (if (s.submitPrimary m).1 then .accept else .refuse) t ∧
        ((s.submitPrimary m).1 = false → only t)) ∧
      (k.handling = .printer → s.pe.state ≠ .disabled →
        let own := s.openJob? .primary
        let last := m.head? = some 0x10
        let text := if m.head? = some 0x10 then m.drop 1 else m
        let accounts (t : State) := t = { s with
          pr := t.pr, ti := { s.ti with segA := t.ti.segA }, sd := t.sd, sm := t.sm, au := t.au }
        let selected (id : Nat) (t : State) := SpoolLaw s → s.pe.state = .idle →
          (∀ i ∈ s.sm.jobs, i.state ≠ .queued) → t.pe.job = some id
        let prints (k : Job) (t : State) := Selected s t { k with state := .queued, idleTimer := none } ∧
          t = { s with
            pr := t.pr, ti := { s.ti with segA := t.ti.segA }, sd := t.sd, sm := t.sm, pe := t.pe, au := t.au }
        let idles := SpoolLaw s ∧ s.pe.state = .idle ∧ s.pe.ready = true ∧ ∀ i ∈ s.sm.jobs, i.state ≠ .queued
        (m.head? = some 0x18 → sends .accept t ∧ (own = none → only t) ∧
          (∀ j, own = some j → Removed s t j .discarded ∧ AccountsAlone s t ∧ accounts t)) ∧
        (m.head? ≠ some 0x18 → text = [] → sends .accept t ∧ (own = none ∨ ¬ last → only t) ∧
          (∀ j, own = some j → last → j.count = 0 → Removed s t j .empty ∧ AccountsAlone s t ∧ accounts t) ∧
          (∀ j, own = some j → last → j.count ≠ 0 → s.job? j.id = some j →
            selected j.id t ∧ (s.pe.state ≠ .idle →
              t.job? j.id = some { j with state := .queued, idleTimer := none } ∧ (∀ i, i ≠ j.id → t.job? i = s.job? i) ∧
              JoinsQueue s t j ∧ accounts t ∧ t.au = s.au ∧ t.sd = s.sd) ∧
            (idles → prints j t ∧ JoinsQueue s t j ∧ t.sm.free = s.sm.free ∧ t.sm.memory = s.sm.memory ∧ t.au = s.au ∧
              t.sd = s.sd))) ∧
        (m.head? ≠ some 0x18 → text ≠ [] →
          (own = none → ¬ RoomFor s .primary → sends .refuse t ∧ only t) ∧
          (own = none → ¬ Fits s .primary 0 text.length → sends .refuse t ∧ only t) ∧
          (∀ j, own = some j → ¬ Fits s .primary j.count text.length → sends .refuse t ∧ only t) ∧
          (∀ j, own = some j → Fits s .primary j.count text.length → s.job? j.id = some j → sends .accept t ∧
            (last → selected j.id t) ∧
            (last → s.pe.state ≠ .idle →
              t.job? j.id = some { j.admitted s text with state := .queued, idleTimer := none } ∧
              (∀ i, i ≠ j.id → t.job? i = s.job? i) ∧ JoinsQueue s t j ∧ TextTaken s t j text ∧ accounts t) ∧
            (last → idles → prints (j.admitted s text) t ∧ JoinsQueue s t j ∧ TextTaken s t j text) ∧
            (¬ last → t.job? j.id = some (j.admitted s text) ∧ (∀ i, i ≠ j.id → t.job? i = s.job? i) ∧
              t.sm.queue = s.sm.queue ∧ TextTaken s t j text ∧ accounts t)) ∧
          (own = none → RoomFor s .primary → Fits s .primary 0 text.length → sends .accept t ∧
            ∃ id, FreshId s id ∧
              (last → selected id t) ∧
              (last → s.pe.state ≠ .idle →
                t.sm.jobs = s.sm.jobs ++ [{ (newJob s id .primary 1 .normal).admitted s text with
                  state := .queued, idleTimer := none }] ∧ t.sm.lastId = id ∧
                t.sm.queue = s.sm.queue ++ [id] ∧ TextTaken s t (newJob s id .primary 1 .normal) text ∧ accounts t) ∧
              (last → idles → prints ((newJob s id .primary 1 .normal).admitted s text) t ∧ t.sm.lastId = id ∧
                t.sm.queue = s.sm.queue ++ [id] ∧ TextTaken s t (newJob s id .primary 1 .normal) text) ∧
              (¬ last → t.sm.jobs = s.sm.jobs ++ [(newJob s id .primary 1 .normal).admitted s text] ∧
                t.sm.lastId = id ∧ t.sm.queue = s.sm.queue ∧
                TextTaken s t (newJob s id .primary 1 .normal) text ∧ accounts t)))) ∧
      (∀ n, k.handling = .desk n →
        ((s.port n).state = .online → (s.port n).downstream.length < 4 → sends .accept t ∧
          t.port n = { s.port n with downstream := (s.port n).downstream ++ [m] }.chooseFrame ∧ PortsKeptBut s t [n] ∧
          t = { s with pr := t.pr, ports := t.ports, ti := { s.ti with segA := t.ti.segA } }) ∧
        ((s.port n).state = .online → 4 ≤ (s.port n).downstream.length → sends .refuse t ∧ only t) ∧
        ((s.port n).state = .detached → sends .refuse t ∧ only t) ∧
        ((s.port n).state = .stopping ∨ (s.port n).state = .standby → sends .offline t ∧ only t) ∧
        ((s.port n).state = .isolated →
          (if k.standIn = .offline then sends .offline t else t.pr = .idle ∧ t.ti = s.ti) ∧ only t))

/-! ### The star ports -/

/-- PORT_ENABLE puts a STANDBY port into service by its health object and its peer-ready, and is refused in any other state
(R65, R156, R157). A port that becomes ONLINE queues a LINK_STATE notice (R80). R65 has the transmitter of an ISOLATED port start IDLE;
log entry 30 sets R78 beside it. -/
def Obligations.PortEnableChoosesTheState : Prop :=
  ∀ (cont : Bool) (n : PortNo) (s : State),
    ((s.port n).state ≠ .standby → Refuses (.portEnable cont (byteOf n.val)) s .inUse) ∧
    ((s.port n).state = .standby → Accepts (.portEnable cont (byteOf n.val)) s cont fun t =>
      PortsKeptBut s t [n] ∧ t = { s with ports := t.ports, au := t.au, al := t.al } ∧
      t.au = s.au.take .portState n.val (.port (t.port n).state none) ∧
      t.port n =
        if (s.object (.port n)).state = .isolated then
          { s.port n with state := .isolated, rx := .hunting, tx := .idle, creditMark := false
                          breakMark := (s.port n).inBreak }
        else if (s.port n).profile.peerUsed = true ∧ (s.port n).srdy = false then
          { s.port n with state := .detached, rx := .hunting, tx := .held }
        else
          { s.port n with state := .online, rx := .hunting, tx := .idle }.queueNotice
            (.linkState .online (s.mappedAddress n) s.pe.state s.sm.free.length
              (match s.mappedAddress n with | some a => min 255 (s.entry a).held | none => 0)))

/-- PORT_STANDBY (R67, R81): a port in service with a frame under way becomes STOPPING; one without enters STANDBY in the same event,
with empty lists and its health object at score 0 and ACTIVE; a fill for it commits to OFFLINE (R52). The OPEN job of its mapped
address is removed with ending DISCARDED, and every other job, block and charge stays (R101). The reports reach the Alert Unit in R81's
order: STANDBY, that of the health object unless it was already at 0 and ACTIVE, JOB_END; the one of STOPPING stands before them. In
STOPPING and STANDBY nothing changes. -/
def Obligations.PortStandbyTakesAPortOutOfService : Prop :=
  ∀ (cont : Bool) (n : PortNo) (s : State),
    let p := s.port n
    (p.state = .standby ∨ p.state = .stopping →
      Accepts (.portStandby cont (byteOf n.val)) s cont fun t => SameBlocks s t) ∧
    (p.state ≠ .standby → p.state ≠ .stopping →
      Accepts (.portStandby cont (byteOf n.val)) s cont fun t =>
        PortsKeptBut s t [n] ∧ FillCommits s t n .offline [] ∧
        t = { s with
          ports := t.ports, hm := t.hm, sm := t.sm, sd := t.sd, au := t.au, al := t.al, pr := t.pr, ti := t.ti, draws := t.draws } ∧
        let stopping := s.au.take .portState n.val (.port .stopping none)
        if p.receiving = true ∨ p.tx.busy = true then
          t.port n = { p with state := .stopping, detachTimer := none } ∧ t.hm = s.hm ∧ t.sm = s.sm ∧ t.sd = s.sd ∧
          t.au = stopping
        else
          let object := s.object (.port n)
          let standby := stopping.take .portState n.val (.port .standby none)
          let told := if object.score = 0 ∧ object.state = .active then standby
            else standby.take .portState n.val (.port .standby (some (.state .active)))
          let own := (s.mappedAddress n).bind fun a => s.openJob? (.desk a)
          (t.port n).state = .standby ∧ (t.port n).listsEmpty ∧ (t.port n).tx = .idle ∧
          (t.port n).rx.phase = .leadHunt ∧ (t.port n).profile = p.profile ∧ ObjectsKeptBut s t [.port n] ∧
          t.hm = { s.hm with ports := t.hm.ports } ∧
          t.object (.port n) = { score := 0, state := .active, mayIsolate := object.mayIsolate, limitMark := false } ∧
          (own = none → t.sm = s.sm ∧ t.sd = s.sd ∧ t.au = told) ∧
          (∀ j, own = some j → Removed { s with au := told } t j .discarded ∧ AccountsAlone s t) ∧
          (SpoolLaw s → ∀ a, s.mappedAddress n = some a →
            ∀ j ∈ t.sm.jobs, j.state = .opened → j.source ≠ .desk a))

/-- A character taken without error by a receiver that is on (R64, R69): the receive context by R69's table, the gap timer
restarted within a frame (R71). A character with an error in a frame is taken the same way with the error mark set, and charges
CHAR_ERROR (R64, R75); in LEAD_HUNT it is charged and discarded, even when its value is LEAD. A STOPPING port follows its frame
with no charge; at the frame's end it discards it, and enters STANDBY unless a frame is being sent (R67). FRAME_COMPLETE takes
nothing but the character that completes a frame, and takes that one as PORT_CHARACTER_TAKEN does: the model's reading of the two
rows, log entry 15. What KIND, LEN and the payload hold outside a frame is log entry 36. In STANDBY, in STOPPING without a frame
and while its line is in break the receiver takes nothing (R64, R67, R69). The first clauses say which character the levels on
SRXn are (R62, R184): a start bit, eight data bits from the least significant, a parity bit under ODD or EVEN, and the first stop
bit, whatever follows it; what a transmitter of the same profile sends is taken without error. -/
def Obligations.PortReceiverAssemblesFrames : Prop :=
  (∀ (n : PortNo) (v : Byte) (pb sb : Bool) (after : List Bool) (s : State),
    let profile := (s.port n).profile
    let levels := false :: List.ofFn (fun i : Fin 8 => v.getLsbD i.val) ++ (if profile.parity = .none then [] else [pb]) ++ sb :: after
    exec ((profile.charOf levels).command n) s = exec (.portCharacterTaken n v pb sb) s) ∧
  (∀ (p : PortProfile) (v : Byte), 1 ≤ p.stopBits →
    let c := p.charOf (p.charBits v)
    c.value = v ∧ c.stopBit = true ∧ characterError p.parity c.value c.parityBit c.stopBit = false) ∧
  ∀ (n : PortNo) (v : Byte) (pb sb : Bool) (s : State),
    let p := s.port n
    let error := characterError p.profile.parity v pb sb
    let goesOn (r : PortRx) : State := s.setPort n { p with rx := r, gapTimer := some p.profile.gap, gapHeld := false }
    let marked : PortRx := { p.rx with errorMark := p.rx.errorMark || error }
    let taken (r : PortRx) := Leads (.portCharacterTaken n v pb sb) s fun t =>
      (error = false → t = goesOn r) ∧
      (error = true → p.state ≠ .stopping →
        t.object (.port n) = s.charged (.port n) s.hm.weights.charError ∧ ObjectsKeptBut s t [.port n] ∧
        (t.port n).rx = r ∧ (t.port n).gapTimer = some p.profile.gap) ∧
      (error = true → p.state = .stopping → t = goesOn r)
    (p.inBreak = true ∨ p.state = .standby ∨ p.state = .stopping ∧ p.rx.phase = .leadHunt →
      exec (.portCharacterTaken n v pb sb) s = .next s ∧ exec (.frameComplete n v pb sb) s = .next s) ∧
    (p.inBreak = false → (p.state = .online ∨ p.state = .detached ∨ p.state = .isolated ∨
      p.state = .stopping ∧ p.rx.phase ≠ .leadHunt) →
    (p.rx.phase = .leadHunt → v = 0xA5 → error = false →
      exec (.portCharacterTaken n v pb sb) s = .next (goesOn { PortRx.hunting with phase := .kind })) ∧
    (p.rx.phase = .leadHunt → v ≠ 0xA5 → error = false → exec (.portCharacterTaken n v pb sb) s = .next s) ∧
    (p.rx.phase = .leadHunt → error = true → Leads (.portCharacterTaken n v pb sb) s fun t =>
      t.object (.port n) = s.charged (.port n) s.hm.weights.charError ∧ ObjectsKeptBut s t [.port n] ∧
      PortsKeptBut s t [n] ∧ (t.port n).rx = p.rx ∧ (t.port n).gapTimer = p.gapTimer ∧ t.pe = s.pe ∧
      ((s.object (.port n)).state ≠ .isolated → (s.charged (.port n) s.hm.weights.charError).state ≠ .isolated →
        t = { s with hm := t.hm, au := t.au })) ∧
    (p.state = .stopping → p.rx.phase = .check ∨ p.rx.phase = .len ∧ 128 < v.toNat →
      Leads (.portCharacterTaken n v pb sb) s fun t =>
        PortsKeptBut s t [n] ∧ ObjectsKeptBut s t [.port n] ∧ t.pe = s.pe ∧ t.ti = s.ti ∧ t.pr = s.pr ∧
        (p.tx.busy = true → t = s.setPort n { p with rx := .hunting, gapTimer := none, gapHeld := false }) ∧
        (p.tx.busy = false → (t.port n).state = .standby ∧ (t.port n).listsEmpty ∧ (t.port n).rx = .hunting ∧
          t.object (.port n) =
            { score := 0, state := .active, mayIsolate := (s.object (.port n)).mayIsolate, limitMark := false })) ∧
    (p.rx.phase = .kind → taken { marked with kind := v, phase := .len }) ∧
    (p.rx.phase = .len → v = 0 → taken { marked with len := v, phase := .check }) ∧
    (p.rx.phase = .len → 1 ≤ v.toNat → v.toNat ≤ 128 → taken { marked with len := v, phase := .payload }) ∧
    (p.rx.phase = .payload → taken { marked with
      payload := p.rx.payload ++ [v]
      phase := if p.rx.payload.length + 1 < p.rx.len.toNat then .payload else .check }) ∧
    (p.rx.phase ≠ .check → (p.rx.phase = .len → v.toNat ≤ 128) →
      exec (.frameComplete n v pb sb) s = .next s) ∧
    (p.rx.phase = .check ∨ p.rx.phase = .len ∧ 128 < v.toNat →
      exec (.frameComplete n v pb sb) s = exec (.portCharacterTaken n v pb sb) s))

/-- The verdict on a frame that completes at a port that is ONLINE or DETACHED (R70, R75, R77): overrun, character fault, check
fault, kind fault and length fault, each with its response and its charge; the response is sent or waits unless the charge
isolates the port. A frame that ends at a LEN above 128 is an overrun or a length fault. A fill under way for the port commits to
NIL, since the frame ends without being appended (R52); how many FILL characters it has sent is a free value, log entry 5. At an
ISOLATED port a faulty frame has its charge and no response. With an error in the character that ends it, a frame is a character
fault but for the tests before that one, and CHAR_ERROR is charged before the verdict's own event (R69; the order is log entry
18). -/
def Obligations.FaultyFramesAreAnswered : Prop :=
  ∀ (n : PortNo) (v : Byte) (pb sb : Bool) (s : State),
    let p := s.port n
    let r := p.rx
    let sum := byteSum (r.kind :: r.len :: r.payload) + v
    let quiet := p.endFrame
    let answers (q : Port) (w : Byte) (t : State) :=
      t.object (.port n) = s.charged (.port n) w ∧ ObjectsKeptBut s t [.port n] ∧ PortsKeptBut s t [n] ∧
      t.pe = s.pe ∧ FillCommits s t n .nil [] ∧
      ((s.charged (.port n) w).state ≠ .isolated → t.port n = q ∧ t.sm = s.sm ∧ t.sd = s.sd)
    let naks (reason : NakReason) : Port := { quiet with responses := p.responses ++ [Response.nak r.kind reason] }.chooseFrame
    let scores (w : Byte) (t : State) :=
      t.object (.port n) = s.charged (.port n) w ∧ ObjectsKeptBut s t [.port n] ∧ PortsKeptBut s t [n] ∧ t.pe = s.pe ∧
      ((s.charged (.port n) w).state = .isolated → t.port n = quiet)
    let error := characterError p.profile.parity v pb sb
    (error = true → p.inBreak = false →
      let erred := s.charged (.port n) s.hm.weights.charError
      let twice (w : Byte) := (s.setObject (.port n) erred).charged (.port n) w
      let errs (q : Port) (after : HealthObject) (t : State) :=
        t.object (.port n) = after ∧ ObjectsKeptBut s t [.port n] ∧ PortsKeptBut s t [n] ∧ t.pe = s.pe ∧
        FillCommits s t n .nil [] ∧
        (erred.state ≠ .isolated → after.state ≠ .isolated → t.port n = q ∧
          t = { s with ports := t.ports, hm := t.hm, au := t.au, pr := t.pr, ti := t.ti, draws := t.draws })
      ((p.state = .online ∨ p.state = .detached) → (s.object (.port n)).state ≠ .isolated →
        (r.phase = .check ∨ r.phase = .len ∧ 128 < v.toNat → 4 ≤ p.responses.length →
          Leads (.frameComplete n v pb sb) s (errs quiet (twice s.hm.weights.overrun))) ∧
        (r.phase = .check → p.responses.length < 4 → Leads (.frameComplete n v pb sb) s (errs (naks .check) erred)) ∧
        (r.phase = .len → 128 < v.toNat → p.responses.length < 4 →
          Leads (.frameComplete n v pb sb) s (errs (naks .length) (twice s.hm.weights.protocol)))) ∧
      (p.state = .isolated → p.responses.length < 4 →
        (r.phase = .check → Leads (.frameComplete n v pb sb) s (scores s.hm.weights.charError)))) ∧
    (error = false → p.inBreak = false →
    (r.phase = .len → 128 < v.toNat →
      ((p.state = .online ∨ p.state = .detached) → (s.object (.port n)).state ≠ .isolated →
        (4 ≤ p.responses.length → Leads (.frameComplete n v pb sb) s (answers quiet s.hm.weights.overrun)) ∧
        (p.responses.length < 4 → Leads (.frameComplete n v pb sb) s (answers (naks .length) s.hm.weights.protocol))) ∧
      (p.state = .isolated → p.responses.length < 4 →
        Leads (.frameComplete n v pb sb) s (scores s.hm.weights.protocol))) ∧
    (r.phase = .check → p.state = .isolated → p.responses.length < 4 →
      (r.errorMark = true → exec (.frameComplete n v pb sb) s = .next (s.setPort n quiet)) ∧
      (r.errorMark = false → sum ≠ 0 →
        Leads (.frameComplete n v pb sb) s (scores s.hm.weights.frameCheck)) ∧
      (r.errorMark = false → sum = 0 → deskKind r.kind = false ∨ lenSuits r.kind r.len.toNat = false →
        Leads (.frameComplete n v pb sb) s (scores s.hm.weights.protocol))) ∧
    (r.phase = .check →
    (p.state = .online ∨ p.state = .detached) → (s.object (.port n)).state ≠ .isolated →
    (4 ≤ p.responses.length → Leads (.frameComplete n v pb sb) s (answers quiet s.hm.weights.overrun)) ∧
    (p.responses.length < 4 → r.errorMark = true → Leads (.frameComplete n v pb sb) s fun t =>
      FillCommits s t n .nil [] ∧ t.port n = naks .check ∧ PortsKeptBut s t [n] ∧
      t = { s with ports := t.ports, pr := t.pr, ti := t.ti, draws := t.draws }) ∧
    (p.responses.length < 4 → r.errorMark = false → sum ≠ 0 →
      Leads (.frameComplete n v pb sb) s (answers (naks .check) s.hm.weights.frameCheck)) ∧
    (p.responses.length < 4 → r.errorMark = false → sum = 0 → deskKind r.kind = false →
      Leads (.frameComplete n v pb sb) s (answers (naks .kind) s.hm.weights.protocol)) ∧
    (p.responses.length < 4 → r.errorMark = false → sum = 0 → deskKind r.kind = true →
      lenSuits r.kind r.len.toNat = false →
      Leads (.frameComplete n v pb sb) s (answers (naks .length) s.hm.weights.protocol))))

/-- A good MSG frame at a port that is ONLINE or DETACHED (R52, R72): NAK without a mapped address or with a full upstream queue,
and a fill for the port commits to NIL; otherwise the payload joins the queue, the desk gets its ACK, and a fill for the port
commits to DATA with that message as the SENT head; how many FILL characters it has sent by then is a free value of at most the
budget, log entry 5. -/
def Obligations.GoodMessagesJoinTheQueue : Prop :=
  ∀ (n : PortNo) (v : Byte) (pb sb : Bool) (s : State),
    let p := s.port n
    let r := p.rx
    let responds (q : Port) (x : Response) : Port := { q with responses := q.responses ++ [x] }.chooseFrame
    let appended : Port := responds { p.endFrame with upstream := p.upstream ++ [r.payload] } (.ack kindMsg)
    characterError p.profile.parity v pb sb = false → p.inBreak = false → r.phase = .check →
    (p.state = .online ∨ p.state = .detached) → p.responses.length < 4 → r.errorMark = false →
    byteSum (r.kind :: r.len :: r.payload) + v = 0 → r.kind = kindMsg → 1 ≤ r.len.toNat → r.len.toNat ≤ 128 →
    let naks (reason : NakReason) (t : State) :=
      FillCommits s t n .nil [] ∧ t.port n = responds p.endFrame (.nak kindMsg reason) ∧ PortsKeptBut s t [n] ∧
      t = { s with ports := t.ports, pr := t.pr, ti := t.ti, draws := t.draws }
    (s.mappedAddress n = none → Leads (.frameComplete n v pb sb) s (naks .noAddress)) ∧
    (s.mappedAddress n ≠ none → 4 ≤ p.upstream.length → Leads (.frameComplete n v pb sb) s (naks .queueFull)) ∧
    (s.mappedAddress n ≠ none → p.upstream.length < 4 → s.fillingFor n = none →
      exec (.frameComplete n v pb sb) s = .next (s.setPort n appended)) ∧
    (∀ k, s.mappedAddress n ≠ none → p.upstream.length < 4 → s.fillingFor n = some k →
      Leads (.frameComplete n v pb sb) s fun t =>
        t.port n = { appended with headSent := true } ∧ PortsKeptBut s t [n] ∧
        t.pr = .sending k .data r.payload ∧
        (∃ fills, fills ≤ s.ti.segA.profile.fill ∧
          t.ti.segA = { s.ti.segA with line :=
            s.ti.segA.line ++ List.replicate fills 0x1FE ++ burstBody (0x01 :: r.payload) }) ∧
        t = { s with ports := t.ports, pr := t.pr, ti := { s.ti with segA := t.ti.segA }, draws := s.draws + 1 })

/-- A good PRINT_DATA frame of a mapped desk with an OPEN job (R73, R91, R92, R94, R98, R106): NAK QUOTA or SPOOL_FULL with
nothing else changed, or ACK and the text stored behind the job's text in blocks from the head of the free list, where it reads
back character by character, every other character of the memory kept. The other good frames of section 4.4: a print frame without
a mapped address is NAK NO_ADDRESS (R73), one without its job NAK NO_JOB; PRINT_OPEN opens a record or is refused by R93's order;
PRINT_CLOSE queues the job, which an IDLE engine selects at once (R113 to R115), or removes an empty one (R95); PRINT_CANCEL
removes the desk's own job, or stops the PRINTING one (R96), which ends at once as CANCELLED unless a strobed character is
unacknowledged (R99, R123; JOB_END before the engine's report: log entry 11); each answers ACK and raises its notice (R100); QUERY
queues a LINK_STATE notice while the port is ONLINE (R74). -/
def Obligations.PrintDataIsAdmittedWhole : Prop :=
  (∀ (n : PortNo) (v : Byte) (pb sb : Bool) (a : Address) (j : Job) (s : State),
    let p := s.port n
    let r := p.rx
    let need := (r.payload.length - (64 - j.count % 64) % 64 + 63) / 64
    let responds (x : Response) : Port := { p.endFrame with responses := p.responses ++ [x] }.chooseFrame
    SpoolLaw s → characterError p.profile.parity v pb sb = false → p.inBreak = false → r.phase = .check →
    (p.state = .online ∨ p.state = .detached) → p.responses.length < 4 → r.errorMark = false →
    byteSum (r.kind :: r.len :: r.payload) + v = 0 → r.kind = kindPrintData → 1 ≤ r.len.toNat → r.len.toNat ≤ 128 →
    s.mappedAddress n = some a → s.openJob? (.desk a) = some j → s.fillingFor n = none →
    ((s.entry a).quota < (s.entry a).held + need → exec (.frameComplete n v pb sb) s =
      .next (s.setPort n (responds (.nak kindPrintData .quota)))) ∧
    ((s.entry a).held + need ≤ (s.entry a).quota → s.sm.free.length < need → exec (.frameComplete n v pb sb) s =
      .next (s.setPort n (responds (.nak kindPrintData .spoolFull)))) ∧
    ((s.entry a).held + need ≤ (s.entry a).quota → need ≤ s.sm.free.length →
      Leads (.frameComplete n v pb sb) s fun t =>
        t = { s with ports := t.ports, sm := t.sm, sd := t.sd, au := t.au } ∧
        t.port n = responds (.ack kindPrintData) ∧ PortsKeptBut s t [n] ∧
        t.entry a = { s.entry a with held := (s.entry a).held + need } ∧ EntriesKeptBut s t [a] ∧
        t.sm.free = s.sm.free.drop need ∧ t.sm.queue = s.sm.queue ∧
        t.job? j.id = some { j with
          chain := j.chain ++ s.sm.free.take need, count := j.count + r.payload.length
          idleTimer := some (1000 * s.sm.idleTimeout) } ∧
        (∀ id, id ≠ j.id → t.job? id = s.job? id) ∧
        (MemoryLaw s → ∀ i c, r.payload[i]? = some c →
          t.sm.memory.read (chainAddress (j.chain ++ s.sm.free.take need) (j.count + i)) = c) ∧
        TextAlone s t (j.chain ++ s.sm.free.take need) j.count r.payload.length ∧
        (s.sm.lowMark ≤ s.sm.free.length ∧ (t.sm.free.length < s.sm.lowMark) →
          t.au = s.au.take .spoolLow 0 (.free t.sm.free.length)) ∧
        (s.sm.free.length < s.sm.lowMark ∨ s.sm.lowMark ≤ t.sm.free.length → t.au = s.au))) ∧
  (∀ (n : PortNo) (v : Byte) (pb sb : Bool) (s : State), (s.port n).state = .online ∨ (s.port n).state = .detached →
    s.fillingFor n = none →
    let p := s.port n
    let good (kind : Byte) (payload : List Byte) := CompletesGood s n v pb sb kind payload
    let done (x : Response) : State := s.setPort n (p.answered x)
    let naks (kind : Byte) (reason : NakReason) :=
      exec (.frameComplete n v pb sb) s = .next (done (.nak kind reason))
    (good kindQuery [] → exec (.frameComplete n v pb sb) s = .next (s.setPort n
      (if p.state = .online then p.endFrame.queueNotice
        (.linkState .online (s.mappedAddress n) s.pe.state s.sm.free.length
          (match s.mappedAddress n with | some a => min 255 (s.entry a).held | none => 0)) else p.endFrame))) ∧
    (∀ kind payload, kind = kindPrintOpen ∨ kind = kindPrintData ∨ kind = kindPrintClose ∨ kind = kindPrintCancel →
      good kind payload → s.mappedAddress n = none → naks kind .noAddress) ∧
    (∀ a, s.mappedAddress n = some a →
      let own := s.openJob? (.desk a)
      (∀ payload, good kindPrintData payload → own = none → naks kindPrintData .noJob) ∧
      (∀ c, good kindPrintOpen [c] →
        (s.pe.state = .disabled → naks kindPrintOpen .printerOff) ∧
        (s.pe.state ≠ .disabled → own ≠ none → naks kindPrintOpen .jobOpen) ∧
        (s.pe.state ≠ .disabled → own = none → ¬ RoomFor s (.desk a) → naks kindPrintOpen .tableFull) ∧
        (s.pe.state ≠ .disabled → own = none → RoomFor s (.desk a) →
          Leads (.frameComplete n v pb sb) s fun t => ∃ id, FreshId s id ∧
            t.sm = { s.sm with
              jobs := s.sm.jobs ++ [newJob s id (.desk a) (min 9 (max 1 (c.toNat % 16)))
                (if c.getLsbD 7 then .urgent else .normal)]
              lastId := id } ∧
            Notified (done (.ack kindPrintOpen)) t (.desk a) (.printState id .opened 0) ∧
            t = { s with sm := t.sm, ports := t.ports })) ∧
      (good kindPrintClose [] →
        (own = none → naks kindPrintClose .noJob) ∧
        (∀ j, own = some j → Leads (.frameComplete n v pb sb) s fun t =>
          (j.count = 0 → Removed s t j .empty ∧ AccountsAlone s t ∧
            Notified (done (.ack kindPrintClose)) t (.desk a) (.printState j.id .discarded 0) ∧
            t = { s with sd := t.sd, sm := t.sm, ports := t.ports, au := t.au }) ∧
          (j.count ≠ 0 → SpoolLaw s →
            (s.pe.state = .idle → (∀ i ∈ s.sm.jobs, i.state ≠ .queued) → t.pe.job = some j.id) ∧
            (s.pe.state = .idle → s.pe.ready = true → (∀ i ∈ s.sm.jobs, i.state ≠ .queued) →
              Selected s t { j with state := .queued, idleTimer := none } ∧ JoinsQueue s t j ∧
              NotifiedSelected (done (.ack kindPrintClose)) t j ∧
              t = { s with sm := { s.sm with jobs := t.sm.jobs, queue := t.sm.queue }, pe := t.pe, ports := t.ports }) ∧
            (s.pe.state ≠ .idle →
              t.job? j.id = some { j with state := .queued, idleTimer := none } ∧ (∀ i, i ≠ j.id → t.job? i = s.job? i) ∧
              JoinsQueue s t j ∧
              Notified (done (.ack kindPrintClose)) t (.desk a) (.printState j.id .queued (t.queuePosition j.id)) ∧
              t = { s with sm := { s.sm with jobs := t.sm.jobs, queue := t.sm.queue }, ports := t.ports })))) ∧
      (∀ c, good kindPrintCancel [c] →
        let names (j : Job) := if c = 0 then own = some j else s.job? c.toNat = some j ∧ j.source = .desk a
        ((∀ j, ¬ names j) → naks kindPrintCancel .noJob) ∧
        (∀ j, names j → Leads (.frameComplete n v pb sb) s fun t =>
          (j.state ≠ .printing → Removed s t j .cancelled ∧ AccountsAlone s t ∧
            Notified (done (.ack kindPrintCancel)) t (.desk a) (.printState j.id .cancelled 0) ∧
            t = { s with sd := t.sd, sm := t.sm, ports := t.ports, au := t.au }) ∧
          (j.state = .printing → s.pe.state = .running → s.pe.handshake = .ack →
            t = { done (.ack kindPrintCancel) with pe := { s.pe with stopPending := true } }) ∧
          (j.state = .printing → SpoolLaw s → PrintingLaw s → ¬ (s.pe.state = .running ∧ s.pe.handshake = .ack) →
            t.job? j.id = none ∧ t.heldOf (.desk a) = s.heldOf (.desk a) - j.chain.length ∧
            JobEnded (done (.ack kindPrintCancel)) t j .cancelled)))))

/-- Start bits, silences and breaks on a port's line (R64, R71, R75, R157): a start bit holds the gap timer of a frame; the gap
limit abandons the frame with a TRUNCATED event; a break ends the frame and raises one BREAK event; its end re-arms it. A fill under
way for the port commits to NIL when its frame is abandoned or ended so (R52). -/
def Obligations.GapsAndBreaksEndFrames : Prop :=
  ∀ (n : PortNo) (s : State),
    let p := s.port n
    (p.rx.phase ≠ .leadHunt → p.inBreak = false → p.state ≠ .standby →
      exec (.portStartBit n) s = .next (s.setPort n { p with gapHeld := true })) ∧
    (p.rx.phase ≠ .leadHunt → p.gapHeld = false → p.state = .online ∨ p.state = .detached ∨ p.state = .isolated →
      Leads (.frameGapExpiry n) s fun t =>
        (t.port n).rx.phase = .leadHunt ∧ (t.port n).gapTimer = none ∧
        t.object (.port n) = s.charged (.port n) s.hm.weights.frameTruncated ∧ ObjectsKeptBut s t [.port n] ∧
        PortsKeptBut s t [n] ∧ t.pe = s.pe ∧ FillCommits s t n .nil []) ∧
    (p.rx.phase ≠ .leadHunt → p.gapHeld = false → p.state = .stopping →
      Leads (.frameGapExpiry n) s fun t =>
        FillCommits s t n .nil [] ∧
        (p.tx.busy = true → t = { s.setPort n p.endFrame with pr := t.pr, ti := t.ti, draws := t.draws }) ∧
        (p.tx.busy = false → (t.port n).state = .standby ∧ (t.port n).listsEmpty) ∧
        ObjectsKeptBut s t [.port n] ∧ PortsKeptBut s t [n]) ∧
    (p.inBreak = false → p.state = .online ∨ p.state = .detached ∨ p.state = .isolated →
      Leads (.breakRecognized n) s fun t =>
        (t.port n).inBreak = true ∧ (t.port n).rx.phase = .leadHunt ∧ (t.port n).gapTimer = none ∧
        (p.state = .isolated → (t.port n).state = .isolated → (t.port n).breakMark = true) ∧
        t.object (.port n) = s.charged (.port n) s.hm.weights.breakWeight ∧ ObjectsKeptBut s t [.port n] ∧
        PortsKeptBut s t [n] ∧ t.pe = s.pe ∧ (p.rx.phase ≠ .leadHunt → FillCommits s t n .nil [])) ∧
    (p.inBreak = false → p.state = .stopping → p.rx.phase ≠ .leadHunt → p.tx.busy = true →
      Leads (.breakRecognized n) s fun t => FillCommits s t n .nil [] ∧
        t = { s.setPort n { p.endFrame with inBreak := true } with pr := t.pr, ti := t.ti, draws := t.draws }) ∧
    (p.inBreak = true → exec (.breakRecognized n) s = .next s) ∧
    exec (.breakEnd n) s = .next (s.setPort n { p with inBreak := false })

/-- Peer-ready while it is USED (R66, R78, R80): deasserted, the detach timer starts and an idle transmitter holds; asserted,
an ONLINE port's timer stops and a DETACHED port returns to ONLINE with a LINK_STATE notice, its transmitter resuming; at the
timer's expiry the port becomes DETACHED with empty response and notice lists. In STANDBY, STOPPING and ISOLATED, or while
peer-ready is IGNORED, the level alone is recorded; that in STOPPING and ISOLATED the transmitter too stays as it was is read from R66's
table beside R78's HELD, log entry 30. That a port returning from DETACHED queues its notice before its transmitter chooses a frame is
log entry 18. -/
def Obligations.PeerReadyDetachesAndReturnsAPort : Prop :=
  ∀ (n : PortNo) (s : State),
    let p := s.port n
    let resumed (q : Port) : Port := { q with tx := if q.tx = PortTx.held then PortTx.idle else q.tx }.chooseFrame
    (p.profile.peerUsed = false ∨ p.state = .standby ∨ p.state = .stopping ∨ p.state = .isolated →
      exec (.peerReadyAsserted n) s = .next (s.setPort n { p with srdy := true }) ∧
      exec (.peerReadyDeasserted n) s = .next (s.setPort n { p with srdy := false })) ∧
    (p.profile.peerUsed = true → p.srdy = true → p.state = .online →
      exec (.peerReadyDeasserted n) s = .next (s.setPort n
        { p with srdy := false, detachTimer := some 2000, tx := if p.tx = .idle then .held else p.tx })) ∧
    (p.profile.peerUsed = true → p.srdy = true → p.state = .detached →
      exec (.peerReadyDeasserted n) s = .next (s.setPort n { p with srdy := false })) ∧
    (p.profile.peerUsed = true → p.srdy = false → p.state = .online →
      exec (.peerReadyAsserted n) s = .next (s.setPort n (resumed { p with srdy := true, detachTimer := none }))) ∧
    (p.profile.peerUsed = true → p.srdy = false → p.state = .detached →
      Leads (.peerReadyAsserted n) s fun t => PortsKeptBut s t [n] ∧ t = { s with ports := t.ports, au := t.au } ∧
        t.au = s.au.take .portState n.val (.port .online none) ∧
        t.port n = resumed ({ p with srdy := true, state := .online }.queueNotice
          (.linkState .online (s.mappedAddress n) s.pe.state s.sm.free.length
            (match s.mappedAddress n with | some a => min 255 (s.entry a).held | none => 0)))) ∧
    (p.state = .online → p.detachTimer.isSome = true →
      Leads (.detachTimerExpiry n) s fun t => PortsKeptBut s t [n] ∧
        t.port n = { p with state := .detached, detachTimer := none, responses := [], notices := []
                            tx := if p.tx = .idle then .held else p.tx } ∧
        t.au = s.au.take .portState n.val (.port .detached none) ∧
        (∀ k, s.fillingFor n = some k → t.pr = .sending k .offline []) ∧
        (s.fillingFor n = none → t = { s with ports := t.ports, au := t.au }))

/-- The last character of a frame leaves the port (R67, R78, R79): a DELIVER's message leaves the downstream queue, and the
transmitter rests or begins the next frame, a response before a notice before a message; a STOPPING port with no frame in
reception enters STANDBY. While the frame is sent, STXn carries its characters back to back (R62, R184): a start bit at space, eight
data bits from the least significant, the parity bit that makes the number of 1s odd or even, and the stop bits at mark, of 10 to 12
bits; a transmitter that is not sending leaves STXn at mark. The characters of every frame that the part sends are written out (R79,
R80, R184): LEAD, kind, length, payload and a check with which kind, length and payload sum to 0; and so are the codes within. -/
def Obligations.SentFramesMakeRoom : Prop :=
  (let frame (kind : Byte) (payload : List Byte) : List Byte :=
     let body := kind :: BitVec.ofNat 8 payload.length :: payload
     0xA5 :: body ++ [-(body.foldr (· + ·) 0)]
   let number (n : Nat) : Byte := BitVec.ofNat 8 n
   (∀ kind : Byte, (SentFrame.response (.ack kind)).bytes = frame 0x81 [kind]) ∧
   (∀ (kind : Byte) (r : NakReason), (SentFrame.response (.nak kind r)).bytes = frame 0x82 [kind, r.code]) ∧
   (∀ m : List Byte, (SentFrame.deliver m).bytes = frame 0x83 m) ∧
   (∀ (id : Nat) (st : NoticeState) (place : Nat), (SentFrame.notice (.printState id st place)).bytes =
     frame 0x84 [number id, st.code, number place]) ∧
   (∀ (st : PortState) (a : Option Address) (e : EngineState) (free held : Nat),
     (SentFrame.notice (.linkState st a e free held)).bytes =
       frame 0x85 [st.code, match a with | some a => number a.val | none => 0xFF, e.code, number (free / 256), number free,
         number held]) ∧
   [NakReason.check, .length, .kind, .noAddress, .queueFull, .printerOff, .jobOpen, .noJob, .tableFull, .spoolFull,
     .quota].map NakReason.code = [0x01, 0x02, 0x03, 0x04, 0x05, 0x06, 0x07, 0x08, 0x09, 0x0A, 0x0B] ∧
   [NoticeState.opened, .queued, .held, .printing, .done, .cancelled, .discarded].map NoticeState.code = [0, 1, 2, 3, 4, 5, 6] ∧
   [PortState.standby, .online, .detached, .stopping, .isolated].map PortState.code = [0, 1, 2, 3, 4] ∧
   [EngineState.disabled, .idle, .notReady, .claiming, .running, .stalled .paper, .gap].map EngineState.code =
     [0, 1, 2, 3, 4, 5, 6] ∧
   [kindMsg, kindPrintOpen, kindPrintData, kindPrintClose, kindPrintCancel, kindQuery] =
     [0x01, 0x02, 0x03, 0x04, 0x05, 0x06]) ∧
  (∀ p : Port, (p.tx.busy = false → p.deskLine = [true]) ∧
    (∀ f, p.tx = .sending f → p.deskLine = f.bytes.flatMap p.profile.charBits) ∧
    ∀ c : Byte, ∃ parity, let data := List.ofFn fun i : Fin 8 => c.getLsbD i.val
      p.profile.charBits c = false :: data ++ parity ++ List.replicate p.profile.stopBits true ∧
      (p.profile.charBits c).length = 9 + (if p.profile.parity = .none then 0 else 1) + p.profile.stopBits ∧
      (p.profile.parity = .none → parity = []) ∧
      (p.profile.parity = .odd → (data ++ parity).count true % 2 = 1) ∧
      (p.profile.parity = .even → (data ++ parity).count true % 2 = 0) ∧
      characterError p.profile.parity c (parity.headD true) true = false) ∧
  ∀ (n : PortNo) (f : SentFrame) (s : State), (s.port n).tx = .sending f →
    let p := s.port n
    let rest : PortTx := if p.profile.peerUsed = true ∧ p.srdy = false then .held else .idle
    let left : List (List Byte) := match f with | .deliver _ => p.downstream.drop 1 | _ => p.downstream
    (p.state ≠ .stopping → exec (.portFrameSent n) s =
      .next (s.setPort n { p with tx := rest, downstream := left }.chooseFrame)) ∧
    (p.state = .stopping → p.rx.phase ≠ .leadHunt → exec (.portFrameSent n) s =
      .next (s.setPort n { p with tx := rest, downstream := left })) ∧
    (p.state = .stopping → p.rx.phase = .leadHunt → Leads (.portFrameSent n) s fun t =>
      (t.port n).state = .standby ∧ (t.port n).listsEmpty ∧ (t.port n).tx = .idle ∧ PortsKeptBut s t [n] ∧
      t.pe = s.pe ∧ ObjectsKeptBut s t [.port n])

/-! ### Health and probes -/

/-- SET_HEALTH_LIMITS writes the thresholds, the decay shift and the intervals, restarts both timers, and evaluates every
object against the new thresholds (R145, R148). SET_MAY_ISOLATE (R144): segment A's flag may only be written false; another object
takes the flag and is evaluated; an ISOLATED one whose flag is written false is readmitted with its score, into ACTIVE or SUSPECT
by it. -/
def Obligations.LimitsAndFlagsAreWrittenAndJudged : Prop :=
  (∀ (cont : Bool) (ts ti tr : BitVec 16) (k decay probe : Byte) (s : State), tr.toNat < ts.toNat → ts.toNat < ti.toNat →
     ti.toNat ≤ 1023 → 1 ≤ k.toNat → k.toNat ≤ 7 → 1 ≤ decay.toNat → 1 ≤ probe.toNat → probe.toNat ≤ 60 →
     let limits : HealthMonitor := { s.hm with
       suspect := ts.toNat, isolate := ti.toNat, readmit := tr.toNat, shift := k.toNat, decayInterval := decay.toNat
       probeInterval := probe.toNat, decayTimer := 10 * decay.toNat, probeTimer := 1000 * probe.toNat }
     Accepts (.setHealthLimits cont ts ti tr k decay probe) s cont fun t =>
       (∀ o, t.object o = { s with hm := limits }.judged o (s.object o).score) ∧
       t.hm = { limits with
         segA := t.hm.segA, segB := t.hm.segB, ports := t.hm.ports, stations := t.hm.stations, probe := t.hm.probe } ∧
       t.pe = s.pe) ∧
  (∀ (cont flag : Bool) (o : ObjectId) (s : State),
     (o = .segment .a → flag = true → Refuses (.setMayIsolate cont o.code (boolCode flag)) s .badValue) ∧
     (o = .segment .a → flag = false →
       Accepts (.setMayIsolate cont o.code (boolCode flag)) s cont fun t => SameBlocks s t) ∧
     (o ≠ .segment .a → Accepts (.setMayIsolate cont o.code (boolCode flag)) s cont fun t =>
       ObjectsKeptBut s t [o] ∧ HealthSettingsKept s t ∧ t.pe = s.pe ∧
       t.object o =
         if (s.object o).state = .isolated ∧ flag = false then
           { score := (s.object o).score, mayIsolate := false
             state := if s.hm.suspect ≤ (s.object o).score then .suspect else .active
             limitMark := decide (s.hm.isolate ≤ (s.object o).score) }
         else (s.setObject o { s.object o with mayIsolate := flag }).judged o (s.object o).score))

/-- FORCE_ISOLATE refuses segment A, a station that is not on segment B and an object that may not be isolated; otherwise the
object is ISOLATED at score 1023, a port in service is cut off with empty lists, and segment B is gated, but for a segment probe
poll that is being sent (R143, R138, R139). That the gated transmitter of a port cut off reads IDLE, whatever its peer-ready, is
log entry 30. FORCE_READMIT sets any object to score 0 and ACTIVE with its flag kept, and an isolated port returns to service
(R144, R141). -/
def Obligations.ObjectsAreForcedOutAndIn : Prop :=
  ∀ (cont : Bool) (o : ObjectId) (s : State),
    (o = .segment .a ∨ (∃ a, o = .station a ∧ (s.entry a).location ≠ .segB) ∨ s.effectiveMayIsolate o = false →
      Refuses (.forceIsolate cont o.code) s .badValue) ∧
    (o ≠ .segment .a → (∀ a, o = .station a → (s.entry a).location = .segB) → s.effectiveMayIsolate o = true →
      Accepts (.forceIsolate cont o.code) s cont fun t =>
        t.object o = { score := 1023, state := .isolated, mayIsolate := (s.object o).mayIsolate, limitMark := false } ∧
        ObjectsKeptBut s t [o] ∧ HealthSettingsKept s t ∧ t.pe = s.pe ∧
        ((s.object o).state = .isolated → t.ti = s.ti ∧ t.ports = s.ports ∧ t.au = s.au) ∧
        (∀ n, o = .port n → (s.object o).state ≠ .isolated →
          (s.port n).state = .online ∨ (s.port n).state = .detached →
          (t.port n).state = .isolated ∧ (t.port n).listsEmpty ∧ (t.port n).tx = .idle ∧ PortsKeptBut s t [n]) ∧
        (o = .segment .b → (s.object o).state ≠ .isolated →
          t.ti.segA.copy = none ∧ t.ti.segB.copy = none ∧ t.ti.segB.watch = none ∧ t.ti.segB.tx ≠ .copy ∧
          t.stationProbe = false ∧ t.ti.gateB = !t.probeSending)) ∧
    Accepts (.forceReadmit cont o.code) s cont (fun t =>
      t.object o = { score := 0, state := .active, mayIsolate := (s.object o).mayIsolate, limitMark := false } ∧
      ObjectsKeptBut s t [o] ∧ HealthSettingsKept s t ∧
      t = { s with ti := t.ti, ports := t.ports, hm := t.hm, au := t.au, al := t.al } ∧
      ((s.object o).state ≠ .isolated → t.ti = s.ti ∧ t.ports = s.ports) ∧
      ((s.object o).state = .isolated → o = .segment .b → t.ti.gateB = false) ∧
      (∀ n, (s.object o).state = .isolated → o = .port n → (s.port n).state = .isolated →
        (t.port n).state =
          (if (s.port n).profile.peerUsed = true ∧ (s.port n).srdy = false then .detached else .online) ∧
        PortsKeptBut s t [n]))

/-- At an expiry of the decay timer (R132) every object that is not ISOLATED and whose score S is above 0 falls to
S − ceil(S / 2^k) and is evaluated; no other object changes, and the timer restarts. -/
def Obligations.DecayLowersTheScores : Prop :=
  ∀ s : State, Leads .decayTimerExpiry s fun t =>
    (∀ o, t.object o =
      if (s.object o).state ≠ .isolated ∧ 0 < (s.object o).score then
        s.judged o ((s.object o).score - ((s.object o).score + 2 ^ s.hm.shift - 1) / 2 ^ s.hm.shift)
      else s.object o) ∧
    HealthSettingsKept s t ∧ t.hm.decayTimer = 10 * s.hm.decayInterval ∧ t.hm.probeTimer = s.hm.probeTimer ∧
    t.pe = s.pe

/-- At an expiry of the probe timer (R148, R150, R152, R155 to R157): an ISOLATED segment B with its jabber mark set fails the
interval, one without a SEG_B entry is credited, and otherwise its next target is chosen; while segment B is not ISOLATED an
ISOLATED SEG_B station is chosen, also in place of one whose probe is still PENDING, which lapses with no outcome, the pointer as it
was; an ISOLATED port whose break mark is set fails the interval; and the marks start afresh, the
credit mark of every port among them (log entry 33). In the interval the first good frame on an ISOLATED port credits its object and
sets its mark, and a further one has no effect (R156). -/
def Obligations.ProbeTimerAssessesTheInterval : Prop :=
  (∀ (n : PortNo) (v : Byte) (pb sb : Bool) (kind : Byte) (payload : List Byte) (s : State),
    let p := s.port n
    p.state = .isolated → CompletesGood s n v pb sb kind payload →
    (p.creditMark = true → exec (.frameComplete n v pb sb) s = .next (s.setPort n p.endFrame)) ∧
    (p.creditMark = false → Leads (.frameComplete n v pb sb) s fun t =>
      t.object (.port n) = s.credited (.port n) ∧ ObjectsKeptBut s t [.port n] ∧ PortsKeptBut s t [n] ∧
      HealthSettingsKept s t ∧ t = { s with ports := t.ports, hm := t.hm, au := t.au } ∧
      ((s.credited (.port n)).state = .isolated → t.port n = { p.endFrame with creditMark := true }) ∧
      ((s.object (.port n)).state = .isolated → (s.credited (.port n)).state ≠ .isolated →
        (t.port n).state = (if p.profile.peerUsed = true ∧ p.srdy = false then .detached else .online) ∧
        (t.port n).creditMark = true))) ∧
  ∀ s : State,
    let isB (a : Address) : Bool := (s.entry a).location == .segB
    let out (a : Address) : Bool := isB a && (s.object (.station a)).state == .isolated
    Leads .probeTimerExpiry s fun t =>
      t.hm.jabberMark = false ∧ t.hm.probeTimer = 1000 * s.hm.probeInterval ∧ HealthSettingsKept s t ∧ t.pe = s.pe ∧
      t.sd = s.sd ∧ t.sm = s.sm ∧
      (∀ a, t.object (.station a) = s.object (.station a)) ∧ t.object (.segment .a) = s.object (.segment .a) ∧
      t.object (.segment .b) =
        (if s.segBIsolated = false then s.object (.segment .b)
        else if s.hm.jabberMark = true then s.penalized (.segment .b)
        else if ∀ a, isB a = false then s.credited (.segment .b)
        else s.object (.segment .b)) ∧
      (∀ n, (s.port n).state = .isolated →
        t.object (.port n) =
          if (s.port n).breakMark = true then s.penalized (.port n) else s.object (.port n)) ∧
      (∀ n, (s.port n).state ≠ .isolated → t.object (.port n) = s.object (.port n)) ∧
      (∀ n, (t.port n).creditMark = false) ∧
      (∀ n, (t.port n).state = .isolated → (t.port n).breakMark = (s.port n).inBreak ∨ (s.port n).state ≠ .isolated) ∧
      (s.hm.probe = none → s.segBIsolated = true → s.hm.jabberMark = false →
        ∀ a, firstFrom s.hm.segmentPointer isB = some a →
          t.hm.probe = some ⟨.pending, .segment, a⟩ ∧ t.hm.segmentPointer = a + 1) ∧
      (s.hm.probe = none ∨ (∃ a, s.hm.probe = some ⟨.pending, .station, a⟩) → s.segBIsolated = false →
        t.hm.probe = (firstFrom s.hm.stationPointer out).map fun a => ⟨.pending, .station, a⟩) ∧
      (∀ ph k a, s.hm.probe = some ⟨ph, k, a⟩ → ¬ (ph = .pending ∧ k = .station) → s.segBIsolated = false →
        t.hm.probe = s.hm.probe) ∧
      (s.segBIsolated = false → t.hm.stationPointer = s.hm.stationPointer ∧ t.hm.segmentPointer = s.hm.segmentPointer)

/-- A probe exchange (R149, R151 to R153, R155): a PENDING poll begins once line B is available and quiet for 2 character times, a
station's also only with no forwarded burst and no watch; a segment poll still PENDING at its deadline fails; and an exchange
whose reply window expires fails. The target's REPLY takes AWAITING to REPLY_IN and is not forwarded; another station's fails the
exchange and is then a reply like any. In REPLY_IN the burst's end with verdict valid credits the probed object (stated where the
target's entry is SEG_B still; a valid reply whose entry has changed since is not stated here), and a failing verdict or the
jabber limit is a failure beside its own event, unless that event isolates segment B under a station probe, which is then
abandoned (R34). The event comes before the outcome, log entry 18. That a reply whose last character ended with marker 1 is
TRUNCATED, and charged as such, is read from test 2 of R23, log entry 13. -/
def Obligations.ProbeExchangesRunAndFail : Prop :=
  ∀ (k : ProbeKind) (a : Address) (s : State),
    let target : ObjectId := if k = .segment then .segment .b else .station a
    let fails (t : State) := t.object target = s.penalized target ∧ ObjectsKeptBut s t [target] ∧
      HealthSettingsKept s t ∧ t = { s with ti := t.ti, hm := t.hm, au := t.au } ∧ t.hm.probe = none
    (∀ quiet, s.hm.probe = some ⟨.pending, k, a⟩ → s.ti.segB.tx = .idle → s.ti.segB.activity = none → 2 ≤ quiet →
      (k = .station → s.ti.segA.copy = none ∧ s.ti.segB.copy = none ∧ s.ti.segB.watch = none) →
      exec (.probePollStart quiet) s = .next { s with
        ti := { s.ti with
          segB := { s.ti.segB with
            tx := .probe
            line := List.replicate s.ti.segB.profile.syncCount (dataChar s.ti.segB.profile.sync) ++
              addressChar .poll a :: burstBody [0x01] }
          gateB := if k = .segment then false else s.ti.gateB }
        hm := { s.hm with
          probe := some ⟨.sending, k, a⟩
          stationPointer := if k = .station then a + 1 else s.hm.stationPointer } }) ∧
    (s.hm.probe = some ⟨.pending, .segment, a⟩ → k = .segment → Leads .probePollDeadline s fails) ∧
    (∀ w, s.hm.probe = some ⟨.awaiting w, k, a⟩ → Leads .probeWindowExpiry s fails) ∧
    (∀ w quiet, s.hm.probe = some ⟨.awaiting w, k, a⟩ → s.ti.segB.tx = .idle → s.ti.segB.rx.awaitsAddress = true →
      s.ti.segB.watch = none →
      exec (.addressCharacterTaken .b .reply a quiet) s = .next { s with
        ti := { s.ti with segB := { s.ti.segB with
          rx := { s.ti.segB.rx with address := some (.reply, a), endsInMark := true } } }
        hm := { s.hm with probe := some ⟨.replyIn, k, a⟩ } } ∧
      ∀ b, b ≠ a → ∃ t, exec .probeWindowExpiry s = .next t ∧
        exec (.addressCharacterTaken .b .reply b quiet) s = exec (.addressCharacterTaken .b .reply b quiet) t) ∧
    (s.hm.probe = some ⟨.replyIn, k, a⟩ → s.ti.segB.tx = .idle →
      let r := s.ti.segB.rx
      let alone (t : State) := t = { s with sd := t.sd, ti := t.ti, hm := t.hm, au := t.au } ∧ t.hm.probe = none
      let lost (w : Byte) (station : HealthObject) (t : State) :=
        let segment := s.charged (.segment .b) w
        alone t ∧ t.sd = s.sd ∧ ObjectsKeptBut s t [.segment .b, .station a] ∧
        t.object (.segment .b) =
          (if k = .segment then (s.setObject (.segment .b) segment).penalized (.segment .b) else segment) ∧
        t.object (.station a) =
          (if k = .segment ∨ s.segBIsolated = false ∧ segment.state = .isolated then station
          else (s.setObject (.station a) station).penalized (.station a))
      (r.phase = .inBurst → r.address = some (.reply, a) → r.endsInMark = false → r.malformed = false →
        countSuits .reply r.body.length = true → byteSum r.body = 0 → (s.entry a).location = .segB →
        Leads (.burstEnd .b false) s fun t => alone t ∧ t.object target = s.credited target ∧
          ObjectsKeptBut s t [target] ∧ t.entry a = { s.entry a with age := 0 } ∧ EntriesKeptBut s t [a]) ∧
      (r.phase = .inBurst → r.address = some (.reply, a) → r.endsInMark = false → r.malformed = false →
        countSuits .reply r.body.length = true → byteSum r.body ≠ 0 →
        Leads (.burstEnd .b false) s (lost s.hm.weights.segmentCheckError
          (if (s.entry a).location = .segB then s.charged (.station a) s.hm.weights.stationCheckError
          else s.object (.station a)))) ∧
      (r.phase = .inBurst → r.address = some (.reply, a) → r.endsInMark = false →
        r.malformed = true ∨ countSuits .reply r.body.length = false →
        Leads (.burstEnd .b false) s (lost s.hm.weights.malformed (s.object (.station a)))) ∧
      (∀ inside, r.phase = .inBurst → inside = true ∨ r.endsInMark = true →
        Leads (.burstEnd .b inside) s (lost s.hm.weights.truncated (s.object (.station a)))) ∧
      Leads (.jabber .b) s fun t => lost s.hm.weights.jabber (s.object (.station a)) t ∧ t.hm.jabberMark = true)

/-! ### The print engine and the jobs -/

/-- PRINTER_ENABLE leaves DISABLED for GAP while the release timer runs, and otherwise for IDLE or NOT_READY by the printer's
readiness, staying there with no QUEUED job; an expiry of the release timer leaves GAP in the same way (R112, R114); in any
other state PRINTER_ENABLE changes nothing. PRINTER_DISABLE (R112, R124): at once without a job; with one, the job returns to the
head of the queue as QUEUED with its page mark and copies-done, the cable given up, unless a strobed character is still
unacknowledged, when the disable waits. That a job returned once before and now returned from CLAIMING keeps its page mark is the
model's reading of R124, log entry 31. -/
def Obligations.EnableAndDisableTheEngine : Prop :=
  (∀ (cont : Bool) (s : State),
     (s.pe.state ≠ .disabled → Accepts (.printerEnable cont) s cont fun t => SameBlocks s t) ∧
     (s.pe.state = .disabled → s.pe.releaseTimer.isSome = true → Accepts (.printerEnable cont) s cont fun t =>
       t.pe = { s.pe with state := .gap } ∧ t = { s with pe := t.pe, au := t.au, al := t.al }) ∧
     (s.pe.state = .disabled → s.pe.releaseTimer = none → s.pe.ready = false ∨ s.nextQueued = none →
       Accepts (.printerEnable cont) s cont fun t =>
         t.pe = { s.pe with state := s.pe.idleState } ∧ t.au = s.au.take .printer 0 (.engine s.pe.idleState) ∧
         t = { s with pe := t.pe, au := t.au, al := t.al }) ∧
     (s.pe.releaseTimer.isSome = true → s.pe.state = .gap → s.pe.ready = false ∨ s.nextQueued = none →
       Leads .releaseTimerExpiry s fun t =>
         t.pe = { s.pe with state := s.pe.idleState, releaseTimer := none } ∧ t = { s with pe := t.pe, au := t.au }) ∧
     (s.pe.releaseTimer.isSome = true → s.pe.state ≠ .gap → exec .releaseTimerExpiry s =
       .next { s with pe := { s.pe with releaseTimer := none } })) ∧
  (∀ (cont : Bool) (s : State),
     (s.pe.state = .disabled → Accepts (.printerDisable cont) s cont fun t => SameBlocks s t) ∧
     (s.pe.state = .idle ∨ s.pe.state = .notReady ∨ s.pe.state = .gap → Accepts (.printerDisable cont) s cont fun t =>
       t.pe = { s.pe with state := .disabled } ∧ t = { s with pe := t.pe, au := t.au, al := t.al }) ∧
     (s.pe.state = .running → s.pe.handshake = .ack → Accepts (.printerDisable cont) s cont fun t =>
       t = { s with pe := { s.pe with disablePending := true }, al := t.al }) ∧
     (∀ j, s.pe.state.hasJob = true → ¬ (s.pe.state = .running ∧ s.pe.handshake = .ack) → s.pe.job = some j.id →
       s.job? j.id = some j → Accepts (.printerDisable cont) s cont fun t =>
         t.pe.state = .disabled ∧ t.pe.job = none ∧ t.pe.handshake = .none ∧ t.pe.ackTimer = none ∧
         (s.pe.shared = true → t.pe.preq = false ∧ t.pe.releaseTimer = some (100 * s.pe.profile.releaseGap)) ∧
         t.sm.queue = j.id :: s.sm.queue.filter (· != j.id) ∧ t.job? j.id = some { j with state := .queued } ∧
         (∀ id, id ≠ j.id → t.job? id = s.job? id) ∧
         t = { s with
           pe := t.pe, sm := { s.sm with jobs := t.sm.jobs, queue := t.sm.queue }, ports := t.ports, au := t.au, al := t.al }))

/-- An engine that enters IDLE selects the first QUEUED job from the head of the queue, which becomes PRINTING (R113 to R116): a
DEDICATED job runs at once with the first character of its text in WAIT or, with PBUSY low, strobed; a SHARED job claims the
cable with PREQ and runs at once only with PGNT. A job that was returned to the queue and carries a page mark prints on from it (R115,
R124). Shown for PRINTER_ENABLE. -/
def Obligations.IdleEngineSelectsTheFirstQueuedJob : Prop :=
  ∀ (cont : Bool) (j : Job) (b : Fin 512) (rest : List (Fin 512)) (s : State), SpoolLaw s → s.pe.state = .disabled →
    s.pe.releaseTimer = none → s.pe.ready = true → s.nextQueued = some j → j.chain = b :: rest →
    let place : Position := j.pageMark.getD ⟨b, 0⟩
    Accepts (.printerEnable cont) s cont fun t =>
      t.pe.job = some j.id ∧ t.pe.shared = s.pe.profile.shared ∧ t.sm.queue = s.sm.queue ∧
      (∀ id, id ≠ j.id → t.job? id = s.job? id) ∧
      (s.pe.profile.shared = true → t.pe.preq = true) ∧
      (s.pe.profile.shared = true → s.pe.pgnt = false →
        t.pe.state = .claiming ∧ t.job? j.id = some { j with state := .printing }) ∧
      (s.pe.profile.shared = false ∨ s.pe.pgnt = true →
        t.pe.state = .running ∧ t.pe.phase = .text ∧ t.pe.ackTimer = some (1000 * s.pe.profile.ackTimeout) ∧
        t.job? j.id = some { j with state := .printing, position := some place, pageMark := some place } ∧
        (s.pe.pbusy = true → t.pe.handshake = .wait ∧ t.pe.pd = s.pe.pd) ∧
        (s.pe.pbusy = false → t.pe.handshake = .ack ∧
          t.pe.pd = s.sm.memory.read (64 * place.block.val + place.offset.val)))

/-- HOLD_JOB, RELEASE_JOB and PROMOTE_JOB on a job of the table (R103, R104): the states they refuse, the ones they leave, and the
change of state or of place they make, with no other job, no block and no charge touched; a job that changes is noticed at the port of
its desk, if that is ONLINE (R100), and no other port changes. A job released while the engine is IDLE is QUEUED, and the first
QUEUED job from the head of the queue is selected in the same event (R113). That a promotion which leaves the place of a closed job as
it was raises its notice too is log entry 21. -/
def Obligations.JobsAreHeldReleasedAndPromoted : Prop :=
  ∀ (cont : Bool) (id : Byte) (j : Job) (s : State), id ≠ 0 → s.job? id.toNat = some j →
    let becomes (k : Job) (t : State) := t.job? j.id = some k ∧ (∀ i, i ≠ j.id → t.job? i = s.job? i) ∧
      t = { s with sm := { s.sm with jobs := t.sm.jobs, queue := t.sm.queue }, ports := t.ports, al := t.al }
    let tells (st : NoticeState) (t : State) := Notified s t j.source (.printState j.id st (t.queuePosition j.id))
    (j.state = .opened ∨ j.state = .printing →
      Refuses (.holdJob cont id) s .inUse ∧ Refuses (.releaseJob cont id) s .inUse) ∧
    (j.state = .held → Accepts (.holdJob cont id) s cont fun t => SameBlocks s t) ∧
    (j.state = .queued → Accepts (.releaseJob cont id) s cont fun t => SameBlocks s t) ∧
    (j.state = .queued → Accepts (.holdJob cont id) s cont fun t =>
      becomes { j with state := .held } t ∧ t.sm.queue = s.sm.queue ∧ tells .held t) ∧
    (j.state = .held → s.pe.state ≠ .idle → Accepts (.releaseJob cont id) s cont fun t =>
      becomes { j with state := .queued } t ∧ t.sm.queue = s.sm.queue ∧ tells .queued t) ∧
    (∀ i, SpoolLaw s → j.state = .held → s.pe.state = .idle →
      (s.sm.queue.find? fun i => i == j.id || (s.job? i).any fun k => k.state == .queued) = some i →
      Accepts (.releaseJob cont id) s cont fun t =>
        t.pe.job = some i ∧ t.pe.state ≠ .idle ∧ (t.job? i).map Job.state = some .printing ∧
        (i ≠ j.id → t.job? j.id = some { j with state := .queued }) ∧
        (∀ x, x ≠ i → x ≠ j.id → t.job? x = s.job? x) ∧ t.sm.queue = s.sm.queue ∧
        (∀ n, s.deskOf j.source ≠ some n → (∀ x, s.job? i = some x → s.deskOf x.source ≠ some n) → t.port n = s.port n) ∧
        t = { s with sm := { s.sm with jobs := t.sm.jobs }, pe := t.pe, ports := t.ports, au := t.au, al := t.al }) ∧
    (j.priority = .urgent → Accepts (.promoteJob cont id) s cont fun t => SameBlocks s t) ∧
    (j.priority = .normal → j.state = .opened → Accepts (.promoteJob cont id) s cont fun t =>
      becomes { j with priority := .urgent } t ∧ t.sm.queue = s.sm.queue ∧ t.ports = s.ports) ∧
    (j.priority = .normal → j.state ≠ .opened → Accepts (.promoteJob cont id) s cont fun t =>
      becomes { j with priority := .urgent } t ∧ tells j.state.notice t ∧
      ∃ front back, s.sm.queue.filter (· != j.id) = front ++ back ∧ t.sm.queue = front ++ j.id :: back ∧
        (∀ i ∈ back, ∀ k, s.job? i = some k → k.priority = .normal) ∧
        (∀ i, front.getLast? = some i → ∃ k, s.job? i = some k ∧ k.priority = .urgent))

/-- CANCEL_JOB (R99, R105, R123) removes a job that is not PRINTING with ending CANCELLED, its blocks and its charge returned; for
the PRINTING job with a strobed character unacknowledged it leaves a stop pending, and otherwise the job ends as CANCELLED in the
same event, its desk told, and the engine passes to GAP with the cable given up, or goes by the printer's readiness (JOB_END
before the engine's report: log entry 11). JOB_IDLE_TIMEOUT (R98), taken once the job's idle timer has run down, removes a desk's
OPEN job with ending TIMEOUT, or an empty one of PRIMARY with EMPTY; one of PRIMARY with text becomes QUEUED at the tail, and an
IDLE engine selects it at once (R113 to R115). With the timer stopped or restarted the expiry does not occur, and nothing changes.
-/
def Obligations.JobsEndByCancelAndTimeout : Prop :=
  ∀ (cont : Bool) (id : Byte) (j : Job) (s : State), id ≠ 0 → s.job? id.toNat = some j →
    (j.state ≠ .printing → Accepts (.cancelJob cont id) s cont fun t =>
      Removed s t j .cancelled ∧ AccountsAlone s t ∧
      t = { s with sd := t.sd, sm := t.sm, ports := t.ports, au := t.au, al := t.al }) ∧
    (j.state = .printing → s.pe.state = .running → s.pe.handshake = .ack →
      Accepts (.cancelJob cont id) s cont fun t =>
        t = { s with pe := { s.pe with stopPending := true }, al := t.al }) ∧
    (j.state = .printing → SpoolLaw s → PrintingLaw s → ¬ (s.pe.state = .running ∧ s.pe.handshake = .ack) →
      Accepts (.cancelJob cont id) s cont fun t => t.job? j.id = none ∧ t.heldOf j.source = s.heldOf j.source - j.chain.length ∧
        JobEnded s { t with al := s.al } j .cancelled) ∧
    (∀ a, j.state = .opened → j.idleTimer = some 0 → j.source = .desk a →
      Leads (.jobIdleTimeout id) s fun t => Removed s t j .timeout ∧ AccountsAlone s t ∧
        t = { s with sd := t.sd, sm := t.sm, ports := t.ports, au := t.au }) ∧
    (j.state = .opened → j.idleTimer = some 0 → j.source = .primary → j.count = 0 →
      Leads (.jobIdleTimeout id) s fun t => Removed s t j .empty ∧ AccountsAlone s t ∧
        t = { s with sd := t.sd, sm := t.sm, au := t.au }) ∧
    (j.state = .opened → j.idleTimer = some 0 → j.source = .primary → j.count ≠ 0 → j.priority = .normal →
      s.pe.state ≠ .idle → Leads (.jobIdleTimeout id) s fun t =>
        t.job? j.id = some { j with state := .queued, idleTimer := none } ∧ t.sm.queue = s.sm.queue ++ [j.id] ∧
        t = { s with sm := { s.sm with jobs := t.sm.jobs, queue := t.sm.queue } }) ∧
    (j.state = .opened → j.idleTimer = some 0 → j.source = .primary → j.count ≠ 0 → SpoolLaw s → s.pe.state = .idle →
      s.pe.ready = true → (∀ i ∈ s.sm.jobs, i.state ≠ .queued) → Leads (.jobIdleTimeout id) s fun t =>
        Selected s t { j with state := .queued, idleTimer := none } ∧ JoinsQueue s t j ∧
        t = { s with sm := { s.sm with jobs := t.sm.jobs, queue := t.sm.queue }, pe := t.pe }) ∧
    (j.state ≠ .opened ∨ j.idleTimer ≠ some 0 → exec (.jobIdleTimeout id) s = .next s)

/-- The printer's lines (R110, R113, R116, R119 to R122): a changed level is kept; an IDLE engine becomes NOT_READY; a NOT_READY
one with no QUEUED job becomes IDLE when the printer is ready; in WAIT, paper out or a fault stalls the engine, and PBUSY falling
strobes the character due; in ACK the handshake goes on. When both conditions stand, the one whose change was taken first gives
the reason. STALLED(PAPER) and STALLED(FAULT) end when the printer becomes ready, from the page mark or at the character due by
the resume policy, and STALLED(NO_RESPONSE) at a rise of PSEL, from the page mark; a SHARED job without its grant then waits in
STALLED(GRANT), also where a condition is present, log entry 35. On the pins (R109) PD0 to PD7 carry the character presented, its
bit 0 on PD0, and PSTB_N is deasserted at rest and in WAIT, and from the strobe on asserted low and then deasserted again. -/
def Obligations.PrinterLinesAreFollowed : Prop :=
  (∀ e : Engine, (e.handshake ≠ .ack → e.strobeLine = [true]) ∧ (e.handshake = .ack → e.strobeLine = [false, true]) ∧
    e.dataLines = List.ofFn fun i : Fin 8 => e.pd.getLsbD i.val) ∧
  ∀ (l : PrinterLine) (high : Bool) (s : State), s.pe.line l ≠ high →
    let e := s.pe.setLine l high
    let resumes (j : Job) (phase : CopyPhase) (position : Option Position) (t : State) :=
      t.job? j.id = some { j with position } ∧ (∀ i, i ≠ j.id → t.job? i = s.job? i) ∧
      t.pe = e.resumed phase (s.dueAt phase position) ∧ t.au = s.au.take .printer 0 (.engine t.pe.state) ∧
      t = { s with pe := t.pe, sm := { s.sm with jobs := t.sm.jobs }, au := t.au }
    Leads (.printerLineChange l high) s fun t =>
      t.pe.faultFirst = (if e.ppe = true ∧ e.pfltN = true then false else if e.ppe = false ∧ e.pfltN = false then true
        else s.pe.faultFirst) ∧
      (s.pe.state = .stalled .grant ∨
        (s.pe.state = .stalled .paper ∨ s.pe.state = .stalled .fault) ∧ (s.pe.ready = true ∨ e.ready = false) ∨
        s.pe.state = .stalled .noResponse ∧ ¬ (l = .psel ∧ high = true) → t = { s with pe := e }) ∧
      (∀ j, s.pe.job = some j.id → s.job? j.id = some j →
        (s.pe.state = .stalled .paper ∨ s.pe.state = .stalled .fault → s.pe.ready = false → e.ready = true →
          if s.pe.profile.resumeChar = true then resumes j s.pe.phase j.position t else resumes j .text j.pageMark t) ∧
        (s.pe.state = .stalled .noResponse → l = .psel → high = true → resumes j .text j.pageMark t)) ∧
      (∀ m, t.pe.line m = if m = l then high else s.pe.line m) ∧
      (s.pe.state = .disabled ∨ s.pe.state = .claiming ∨ s.pe.state = .gap ∨ s.pe.state = .running ∧ s.pe.handshake = .ack →
        t = { s with pe := e }) ∧
      (s.pe.state = .idle → t.pe = { e with state := if e.ready then .idle else .notReady } ∧
        t = { s with pe := t.pe, au := t.au }) ∧
      (s.pe.state = .notReady → e.ready = false ∨ s.nextQueued = none →
        t.pe = { e with state := e.idleState } ∧ t = { s with pe := t.pe, au := t.au }) ∧
      (s.pe.state = .running → s.pe.handshake = .wait →
        (e.hindered = true → t.pe = e.stalledFor e.reason s.pe.phase ∧
          t = { s with pe := t.pe, au := s.au.take .printer 0 (.engine t.pe.state) }) ∧
        (e.hindered = false →
          t.pe = (if e.strobes = true then { e with handshake := .ack, pd := s.dueCharacter } else e) ∧
          (∀ j, s.pe.job = some j.id → s.job? j.id = some j → s.dueCharacter = s.dueAt s.pe.phase j.position) ∧
          t = { s with pe := t.pe })) ∧
      t = { s with pe := t.pe, sm := { s.sm with jobs := t.sm.jobs }, ports := t.ports, au := t.au }

/-- An acknowledgement of a character in the middle of the text (R116, R117): the position moves to the next character, past a
form feed the page mark too, and the next character becomes due in WAIT with a fresh ack timer, strobed at once when the
printer allows; an edge outside ACK is ignored. The acknowledged form feed of the last copy ends the job as DONE (R99, R118), and
a DEDICATED engine without a further QUEUED job goes by the printer's readiness. In every case of R117 and R118: after the last
character the end-of-copy form feed is due, the next copy starts with copies-done one higher, or the job is DONE. What is pending then
acts (R119, R122 to R124): a stop ends the job as CANCELLED; a disable returns it, moved on, to the head of the queue, or follows its
end; a paper or fault condition, and then a grant loss, stall the engine with the position moved on. That JOB_END comes before the one
PRINTER report of the event is log entry 11; that a pending grant loss stalls the engine also where PGNT has returned during ACK is log
entry 19. -/
def Obligations.AcknowledgedCharactersAdvance : Prop :=
  (∀ (j : Job) (p q : Position) (s : State),
     (¬ (s.pe.state = .running ∧ s.pe.handshake = .ack) → exec .packEdge s = .next s) ∧
     (s.pe.state = .running → s.pe.handshake = .ack → s.pe.phase = .text → s.pe.stopPending = false →
       s.pe.disablePending = false → s.pe.grantLost = false → s.pe.ppe = false → s.pe.pfltN = true →
       s.pe.job = some j.id → s.job? j.id = some j → j.position = some p → j.lastPlace ≠ some p → j.after p = some q →
       Leads .packEdge s fun t =>
         t.job? j.id = some { j with
           position := some q, pageMark := if s.sm.memory.read p.address = 0x0C then some q else j.pageMark } ∧
         (∀ id, id ≠ j.id → t.job? id = s.job? id) ∧
         t.pe = { s.pe with
           ackTimer := some (1000 * s.pe.profile.ackTimeout)
           handshake := if s.pe.pbusy = false ∧ s.pe.psel = true ∧ (s.pe.shared = true → s.pe.pgnt = true) then .ack
             else .wait
           pd := if s.pe.pbusy = false ∧ s.pe.psel = true ∧ (s.pe.shared = true → s.pe.pgnt = true) then
             s.sm.memory.read q.address else s.pe.pd } ∧
         t = { s with pe := t.pe, sm := { s.sm with jobs := t.sm.jobs } })) ∧
  (∀ (j : Job) (s : State), s.pe.state = .running → s.pe.handshake = .ack → s.pe.phase = .endFF →
     s.pe.stopPending = false → s.pe.disablePending = false → s.pe.shared = false → s.pe.job = some j.id →
     s.job? j.id = some j → j.copies ≤ j.copiesDone + 1 → (∀ k ∈ s.sm.jobs, k.state ≠ .queued) →
     Leads .packEdge s fun t =>
       t.sm = { s.sm with
         free := s.sm.free ++ j.chain, jobs := s.sm.jobs.filter fun k => k.id != j.id
         queue := s.sm.queue.filter fun i => i != j.id } ∧
       t.heldOf j.source = s.heldOf j.source - j.chain.length ∧ t.pe.job = none ∧ t.pe.handshake = .none ∧
       t.pe.ackTimer = none ∧ t.pe.state = s.pe.idleState ∧ t.au.flags &&& Cause.jobEnd.bit ≠ 0) ∧
  (∀ (j : Job) (p : Position) (s : State), s.pe.state = .running → s.pe.handshake = .ack → s.pe.job = some j.id →
     s.job? j.id = some j → (s.pe.phase = .text → j.position = some p) →
     let rest := j.afterTaken s.pe.profile.formFeedAtEnd s.pe.phase p (s.sm.memory.read p.address)
     let moved (k : Job) (e : Engine) (t : State) :=
       t.job? j.id = some k ∧ (∀ id, id ≠ j.id → t.job? id = s.job? id) ∧ t.pe = e ∧
       t = { s with pe := t.pe, sm := { s.sm with jobs := t.sm.jobs }, au := t.au }
     Leads .packEdge s fun t =>
       (s.pe.stopPending = true → JobEnded s t j .cancelled) ∧
       (s.pe.stopPending = false → rest = none → JobEnded s t j .done) ∧
       (∀ x, rest = some x → s.pe.stopPending = false → s.pe.disablePending = true → x.1.id = j.id ∧ JobReturned s t x.1) ∧
       (∀ x, rest = some x → s.pe.stopPending = false → s.pe.disablePending = false →
         (s.pe.hindered = true → moved x.1 (s.pe.stalledFor s.pe.reason x.2) t ∧
           t.au = s.au.take .printer 0 (.engine (.stalled s.pe.reason))) ∧
         (s.pe.hindered = false → s.pe.grantLost = true → moved x.1 (s.pe.stalledFor .grant x.2) t ∧
           t.au = s.au.take .printer 0 (.engine (.stalled .grant))) ∧
         (s.pe.hindered = false → s.pe.grantLost = false →
           moved x.1 (s.pe.runsWith x.2 (s.dueAt x.2 x.1.position)) t ∧ t.au = s.au)))

/-- An ack timer that expires leaves the character untaken (R116, R121). A stop that is pending then ends the job as CANCELLED, and a
disable returns it, not moved on, to the head of the queue; otherwise the engine stalls: for a paper or fault condition, for a grant
loss, or with nothing pending for want of a response (R119, R122 to R124). RESUME_PRINTER prints on from the page mark; in any other
state it changes nothing. PGNT (R114, R122): a change is kept; for a SHARED job in WAIT its fall stalls the engine for the grant, in ACK
it is left pending; its rise ends STALLED(GRANT) at the character due, and a claim runs from the first character of the text or, for a
returned job, from the page mark. A job that is not SHARED, an engine without one and any other stall see no more than the level. A
condition that is present when printing goes on stalls the engine at once; that STALLED(GRANT) comes before it is log entry 35, that
JOB_END comes before the engine's report log entry 11, and that a grant loss stays pending when PGNT has returned log entry 19. -/
def Obligations.StallsAndGrants : Prop :=
  (∀ (cont : Bool) (s : State),
     (s.pe.state = .running → s.pe.handshake ≠ .none → s.pe.ackTimer.isSome = true → s.pe.stopPending = false →
       s.pe.disablePending = false → Leads .ackTimerExpiry s fun t =>
         t.pe = s.pe.stalledFor
           (if s.pe.hindered = true then s.pe.reason else if s.pe.grantLost = true then .grant else .noResponse) s.pe.phase ∧
         t.au = s.au.take .printer 0 (.engine t.pe.state) ∧ t = { s with pe := t.pe, au := t.au }) ∧
     (∀ j, s.pe.state = .running → s.pe.handshake ≠ .none → s.pe.ackTimer.isSome = true → s.pe.job = some j.id →
       s.job? j.id = some j → Leads .ackTimerExpiry s fun t =>
         (s.pe.stopPending = true → JobEnded s t j .cancelled) ∧
         (s.pe.stopPending = false → s.pe.disablePending = true → JobReturned s t j)) ∧
     (s.pe.state ≠ .stalled .noResponse → Accepts (.resumePrinter cont) s cont fun t => SameBlocks s t) ∧
     (∀ j, s.pe.state = .stalled .noResponse → s.pe.job = some j.id → s.job? j.id = some j →
       Accepts (.resumePrinter cont) s cont fun t =>
         t.pe = s.pe.resumed .text (s.dueAt .text j.pageMark) ∧
         t.job? j.id = some { j with position := j.pageMark } ∧ (∀ i, i ≠ j.id → t.job? i = s.job? i) ∧
         t.au = s.au.take .printer 0 (.engine t.pe.state) ∧
         t = { s with pe := t.pe, sm := { s.sm with jobs := t.sm.jobs }, au := t.au, al := t.al })) ∧
  (∀ (high : Bool) (s : State), s.pe.pgnt ≠ high →
     let e : Engine := { s.pe with pgnt := high }
     Leads (.pgntChange high) s fun t =>
       t.pe.pgnt = high ∧ t.pe.job = s.pe.job ∧
       (s.pe.shared = false ∨ s.pe.state = .claiming ∧ high = false ∨
         s.pe.state ≠ .claiming ∧ s.pe.state ≠ .running ∧ ¬ (s.pe.state = .stalled .grant ∧ high = true) →
         t = { s with pe := e }) ∧
       (s.pe.shared = true → s.pe.state = .running → s.pe.handshake = .ack → high = false →
         t = { s with pe := { e with grantLost := true } }) ∧
       (s.pe.shared = true → s.pe.state = .running → s.pe.handshake = .wait → high = false →
         t = { s with
           pe := e.stalledFor .grant s.pe.phase, au := s.au.take .printer 0 (.engine (.stalled .grant)) }) ∧
       (∀ j, s.pe.shared = true → high = true → s.pe.job = some j.id → s.job? j.id = some j →
         (s.pe.state = .stalled .grant →
           t.pe = e.resumed s.pe.phase (s.dueAt s.pe.phase j.position) ∧
           t = { s with pe := t.pe, au := s.au.take .printer 0 (.engine t.pe.state) }) ∧
         (s.pe.state = .claiming →
           let place := if j.pageMark = none then j.start else j.pageMark
           t.pe = e.resumed .text (s.dueAt .text place) ∧
           t.job? j.id = some { j with position := place, pageMark := place } ∧ (∀ i, i ≠ j.id → t.job? i = s.job? i) ∧
           t.au = (if e.hindered = true then s.au.take .printer 0 (.engine t.pe.state) else s.au) ∧
           t = { s with pe := t.pe, sm := { s.sm with jobs := t.sm.jobs }, au := t.au })))

/-! ### Alerts -/

/-- An occurrence at the Alert Unit (R161): its cause's flag is latched; with the report enable set a record with the next
sequence number and the seconds counter joins the queue, or, behind 16 records, is lost and REPORT_LOST latched; with it clear no
record is made; REPORT_LOST itself is handed on by no block, and no record is ever made of it (R159). ALERT_N is asserted exactly
while a latched flag has its alert enable set (R163). READ_REPORT removes the oldest record and returns it, and answers EMPTY on
an empty queue (R165); a second of the counter (R166) wraps from 65535 to 0. -/
def Obligations.ReportsAreReadAndSecondsCounted : Prop :=
  (∀ (c : Cause) (subject : Nat) (d : Detail) (s : State),
    let enabled := s.au.reports.getLsbD c.code
    let t := s.raise c subject d
    c ≠ .reportLost →
    (∀ k : Cause, t.au.flags.getLsbD k.code = (s.au.flags.getLsbD k.code || decide (k = c) ||
      (decide (k = .reportLost) && enabled && decide (16 ≤ s.au.queue.length)))) ∧
    (enabled = true → s.au.queue.length < 16 →
      t.au.queue = s.au.queue ++
        [{ sequence := s.au.nextSequence, cause := c, subject := subject, detail := d, stamp := s.au.seconds }] ∧
      t.au.nextSequence = s.au.nextSequence + 1) ∧
    (enabled = false ∨ 16 ≤ s.au.queue.length →
      t.au.queue = s.au.queue ∧ t.au.nextSequence = s.au.nextSequence) ∧
    t = { s with au := { s.au with flags := t.au.flags, queue := t.au.queue, nextSequence := t.au.nextSequence } }) ∧
  (∀ s : State, s.alertAsserted = true ↔
    ∃ c : Cause, s.au.flags.getLsbD c.code = true ∧ s.au.alerts.getLsbD c.code = true) ∧
  ∀ (cont : Bool) (s : State),
    (s.au.queue = [] → Refuses (.readReport cont) s .empty) ∧
    (∀ r rest, s.au.queue = r :: rest → ∃ t, exec (.readReport cont) s = .next t ∧ Accepted s t cont r.bytes ∧
      t = { s with au := { s.au with queue := rest }, al := t.al }) ∧
    exec .secondsCounterTick s = .next { s with au := { s.au with
      seconds := BitVec.ofNat 16 ((s.au.seconds.toNat + 1) % 65536), secondTimer := 1000 } }
end

