-- ==== Sys2Proof/Laws/State.lean ====
section
/-! SUPPORT. One lemma per field and per update of the state: what each named update of Ops.lean writes and what it leaves.
A proof by rfl stands in parentheses, so that simp rewrites with the lemma wherever it is used. -/

namespace Sys2Proof.Machine

variable (s : State)

/-! ### Entries -/

@[simp] theorem State.setEntry_ti (a : Address) (e : Entry) :
    (s.setEntry a e).ti = s.ti := (rfl)

@[simp] theorem State.setEntry_pr (a : Address) (e : Entry) :
    (s.setEntry a e).pr = s.pr := (rfl)

@[simp] theorem State.setEntry_ports (a : Address) (e : Entry) :
    (s.setEntry a e).ports = s.ports := (rfl)

@[simp] theorem State.setEntry_sm (a : Address) (e : Entry) :
    (s.setEntry a e).sm = s.sm := (rfl)

@[simp] theorem State.setEntry_pe (a : Address) (e : Entry) :
    (s.setEntry a e).pe = s.pe := (rfl)

@[simp] theorem State.setEntry_hm (a : Address) (e : Entry) :
    (s.setEntry a e).hm = s.hm := (rfl)

@[simp] theorem State.setEntry_au (a : Address) (e : Entry) :
    (s.setEntry a e).au = s.au := (rfl)

@[simp] theorem State.setEntry_al (a : Address) (e : Entry) :
    (s.setEntry a e).al = s.al := (rfl)

@[simp] theorem State.setEntry_draws (a : Address) (e : Entry) :
    (s.setEntry a e).draws = s.draws := (rfl)

@[simp] theorem State.setEntry_pending (a : Address) (e : Entry) :
    (s.setEntry a e).pending = s.pending := (rfl)

@[simp] theorem State.setEntry_sd_primaryQuota (a : Address) (e : Entry) :
    (s.setEntry a e).sd.primaryQuota = s.sd.primaryQuota := (rfl)

@[simp] theorem State.setEntry_sd_primaryHeld (a : Address) (e : Entry) :
    (s.setEntry a e).sd.primaryHeld = s.sd.primaryHeld := (rfl)

@[simp] theorem State.setEntry_sd_ageLimit (a : Address) (e : Entry) :
    (s.setEntry a e).sd.ageLimit = s.sd.ageLimit := (rfl)

@[simp] theorem State.setEntry_sd_minuteTimer (a : Address) (e : Entry) :
    (s.setEntry a e).sd.minuteTimer = s.sd.minuteTimer := (rfl)

@[simp] theorem State.entry_setEntry (a : Address) (e : Entry) : (s.setEntry a e).entry a = e := by simp [State.entry, State.setEntry]

@[simp] theorem State.entry_setEntry_of_ne {a b : Address} (e : Entry) (h : b ≠ a) :
    (s.setEntry a e).entry b = s.entry b := by
  have h' : a.val ≠ b.val := fun x => h (Fin.ext x.symm)
  simp [State.entry, State.setEntry, h']

theorem State.entry_setEntry_eq (a b : Address) (e : Entry) :
    (s.setEntry a e).entry b = if b = a then e else s.entry b := by
  by_cases h : b = a
  · subst h; simp
  · simp [h]

@[simp] theorem State.entry_with_hm (x : HealthMonitor) (a : Address) : { s with hm := x }.entry a = s.entry a := (rfl)

@[simp] theorem State.entry_with_ti (x : TrunkInterface) (a : Address) : { s with ti := x }.entry a = s.entry a := (rfl)

@[simp] theorem State.entry_with_sm (x : Spool) (a : Address) : { s with sm := x }.entry a = s.entry a := (rfl)

@[simp] theorem State.entry_with_pe (x : Engine) (a : Address) : { s with pe := x }.entry a = s.entry a := (rfl)

@[simp] theorem State.entry_with_au (x : AlertUnit) (a : Address) : { s with au := x }.entry a = s.entry a := (rfl)

@[simp] theorem State.entry_with_al (x : AdminLink) (a : Address) : { s with al := x }.entry a = s.entry a := (rfl)

@[simp] theorem State.entry_with_pr (x : ReplyContext) (a : Address) : { s with pr := x }.entry a = s.entry a := (rfl)

@[simp] theorem State.entry_with_ports (x : Vector Port 8) (a : Address) : { s with ports := x }.entry a = s.entry a := (rfl)

@[simp] theorem State.entry_with_draws (x : Nat) (a : Address) : { s with draws := x }.entry a = s.entry a := (rfl)

@[simp] theorem State.entry_with_pending (x : List Instr) (a : Address) : { s with pending := x }.entry a = s.entry a := (rfl)

/-! ### Ports -/

@[simp] theorem State.setPort_sd (n : PortNo) (p : Port) :
    (s.setPort n p).sd = s.sd := (rfl)

@[simp] theorem State.setPort_ti (n : PortNo) (p : Port) :
    (s.setPort n p).ti = s.ti := (rfl)

@[simp] theorem State.setPort_pr (n : PortNo) (p : Port) :
    (s.setPort n p).pr = s.pr := (rfl)

@[simp] theorem State.setPort_sm (n : PortNo) (p : Port) :
    (s.setPort n p).sm = s.sm := (rfl)

@[simp] theorem State.setPort_pe (n : PortNo) (p : Port) :
    (s.setPort n p).pe = s.pe := (rfl)

@[simp] theorem State.setPort_hm (n : PortNo) (p : Port) :
    (s.setPort n p).hm = s.hm := (rfl)

@[simp] theorem State.setPort_au (n : PortNo) (p : Port) :
    (s.setPort n p).au = s.au := (rfl)

@[simp] theorem State.setPort_al (n : PortNo) (p : Port) :
    (s.setPort n p).al = s.al := (rfl)

@[simp] theorem State.setPort_draws (n : PortNo) (p : Port) :
    (s.setPort n p).draws = s.draws := (rfl)

@[simp] theorem State.setPort_pending (n : PortNo) (p : Port) :
    (s.setPort n p).pending = s.pending := (rfl)

@[simp] theorem State.port_setPort (n : PortNo) (p : Port) : (s.setPort n p).port n = p := by simp [State.port, State.setPort]

@[simp] theorem State.port_setPort_of_ne {n m : PortNo} (p : Port) (h : m ≠ n) :
    (s.setPort n p).port m = s.port m := by
  have h' : n.val ≠ m.val := fun x => h (Fin.ext x.symm)
  simp [State.port, State.setPort, h']

theorem State.port_setPort_eq (n m : PortNo) (p : Port) :
    (s.setPort n p).port m = if m = n then p else s.port m := by
  by_cases h : m = n
  · subst h; simp
  · simp [h]

@[simp] theorem State.setPort_setPort (n : PortNo) (p q : Port) : (s.setPort n p).setPort n q = s.setPort n q := by
  simp [State.setPort]

@[simp] theorem State.setPort_port (n : PortNo) : s.setPort n (s.port n) = s := by
  simp [State.setPort, State.port]

@[simp] theorem State.mapPort_sd (n : PortNo) (f : Port → Port) :
    (s.mapPort n f).sd = s.sd := (rfl)

@[simp] theorem State.mapPort_ti (n : PortNo) (f : Port → Port) :
    (s.mapPort n f).ti = s.ti := (rfl)

@[simp] theorem State.mapPort_pr (n : PortNo) (f : Port → Port) :
    (s.mapPort n f).pr = s.pr := (rfl)

@[simp] theorem State.mapPort_sm (n : PortNo) (f : Port → Port) :
    (s.mapPort n f).sm = s.sm := (rfl)

@[simp] theorem State.mapPort_pe (n : PortNo) (f : Port → Port) :
    (s.mapPort n f).pe = s.pe := (rfl)

@[simp] theorem State.mapPort_hm (n : PortNo) (f : Port → Port) :
    (s.mapPort n f).hm = s.hm := (rfl)

@[simp] theorem State.mapPort_au (n : PortNo) (f : Port → Port) :
    (s.mapPort n f).au = s.au := (rfl)

@[simp] theorem State.mapPort_al (n : PortNo) (f : Port → Port) :
    (s.mapPort n f).al = s.al := (rfl)

@[simp] theorem State.mapPort_draws (n : PortNo) (f : Port → Port) :
    (s.mapPort n f).draws = s.draws := (rfl)

@[simp] theorem State.mapPort_pending (n : PortNo) (f : Port → Port) :
    (s.mapPort n f).pending = s.pending := (rfl)

@[simp] theorem State.port_mapPort (n : PortNo) (f : Port → Port) : (s.mapPort n f).port n = f (s.port n) := by
  simp [State.mapPort]

@[simp] theorem State.port_mapPort_of_ne {n m : PortNo} (f : Port → Port) (h : m ≠ n) :
    (s.mapPort n f).port m = s.port m := by simp [State.mapPort, h]

@[simp] theorem State.port_with_sd (x : Directory) (n : PortNo) : { s with sd := x }.port n = s.port n := (rfl)

@[simp] theorem State.port_with_hm (x : HealthMonitor) (n : PortNo) : { s with hm := x }.port n = s.port n := (rfl)

@[simp] theorem State.port_with_ti (x : TrunkInterface) (n : PortNo) : { s with ti := x }.port n = s.port n := (rfl)

@[simp] theorem State.port_with_sm (x : Spool) (n : PortNo) : { s with sm := x }.port n = s.port n := (rfl)

@[simp] theorem State.port_with_pe (x : Engine) (n : PortNo) : { s with pe := x }.port n = s.port n := (rfl)

@[simp] theorem State.port_with_au (x : AlertUnit) (n : PortNo) : { s with au := x }.port n = s.port n := (rfl)

@[simp] theorem State.port_with_al (x : AdminLink) (n : PortNo) : { s with al := x }.port n = s.port n := (rfl)

@[simp] theorem State.port_with_pr (x : ReplyContext) (n : PortNo) : { s with pr := x }.port n = s.port n := (rfl)

@[simp] theorem State.port_with_draws (x : Nat) (n : PortNo) : { s with draws := x }.port n = s.port n := (rfl)

@[simp] theorem State.port_with_pending (x : List Instr) (n : PortNo) : { s with pending := x }.port n = s.port n := (rfl)

/-! ### Segments -/

@[simp] theorem State.setSeg_sd (g : Seg) (x : Segment) :
    (s.setSeg g x).sd = s.sd := by cases g <;> rfl

@[simp] theorem State.setSeg_pr (g : Seg) (x : Segment) :
    (s.setSeg g x).pr = s.pr := by cases g <;> rfl

@[simp] theorem State.setSeg_ports (g : Seg) (x : Segment) :
    (s.setSeg g x).ports = s.ports := by cases g <;> rfl

@[simp] theorem State.setSeg_sm (g : Seg) (x : Segment) :
    (s.setSeg g x).sm = s.sm := by cases g <;> rfl

@[simp] theorem State.setSeg_pe (g : Seg) (x : Segment) :
    (s.setSeg g x).pe = s.pe := by cases g <;> rfl

@[simp] theorem State.setSeg_hm (g : Seg) (x : Segment) :
    (s.setSeg g x).hm = s.hm := by cases g <;> rfl

@[simp] theorem State.setSeg_au (g : Seg) (x : Segment) :
    (s.setSeg g x).au = s.au := by cases g <;> rfl

@[simp] theorem State.setSeg_al (g : Seg) (x : Segment) :
    (s.setSeg g x).al = s.al := by cases g <;> rfl

@[simp] theorem State.setSeg_draws (g : Seg) (x : Segment) :
    (s.setSeg g x).draws = s.draws := by cases g <;> rfl

@[simp] theorem State.setSeg_pending (g : Seg) (x : Segment) :
    (s.setSeg g x).pending = s.pending := by cases g <;> rfl

@[simp] theorem State.setSeg_ti_written (g : Seg) (x : Segment) : (s.setSeg g x).ti.written = s.ti.written := by cases g <;> rfl

@[simp] theorem State.setSeg_ti_gateB (g : Seg) (x : Segment) : (s.setSeg g x).ti.gateB = s.ti.gateB := by cases g <;> rfl

@[simp] theorem State.seg_setSeg (g : Seg) (x : Segment) : (s.setSeg g x).seg g = x := by cases g <;> rfl

@[simp] theorem State.seg_setSeg_other (g : Seg) (x : Segment) : (s.setSeg g x).seg g.other = s.seg g.other := by
  cases g <;> rfl

@[simp] theorem State.setSeg_seg (g : Seg) : s.setSeg g (s.seg g) = s := by cases g <;> rfl

@[simp] theorem State.setSeg_setSeg (g : Seg) (x y : Segment) : (s.setSeg g x).setSeg g y = s.setSeg g y := by cases g <;> rfl

@[simp] theorem State.seg_a : s.seg .a = s.ti.segA := (rfl)

@[simp] theorem State.seg_b : s.seg .b = s.ti.segB := (rfl)

@[simp] theorem State.seg_with_sd (x : Directory) (g : Seg) : { s with sd := x }.seg g = s.seg g := by cases g <;> rfl

@[simp] theorem State.seg_with_hm (x : HealthMonitor) (g : Seg) : { s with hm := x }.seg g = s.seg g := by cases g <;> rfl

@[simp] theorem State.seg_with_ports (x : Vector Port 8) (g : Seg) : { s with ports := x }.seg g = s.seg g := by cases g <;> rfl

@[simp] theorem State.seg_with_sm (x : Spool) (g : Seg) : { s with sm := x }.seg g = s.seg g := by cases g <;> rfl

@[simp] theorem State.seg_with_pe (x : Engine) (g : Seg) : { s with pe := x }.seg g = s.seg g := by cases g <;> rfl

@[simp] theorem State.seg_with_au (x : AlertUnit) (g : Seg) : { s with au := x }.seg g = s.seg g := by cases g <;> rfl

@[simp] theorem State.seg_with_al (x : AdminLink) (g : Seg) : { s with al := x }.seg g = s.seg g := by cases g <;> rfl

@[simp] theorem State.seg_with_pr (x : ReplyContext) (g : Seg) : { s with pr := x }.seg g = s.seg g := by cases g <;> rfl

@[simp] theorem State.seg_with_draws (x : Nat) (g : Seg) : { s with draws := x }.seg g = s.seg g := by cases g <;> rfl

@[simp] theorem State.seg_with_pending (x : List Instr) (g : Seg) : { s with pending := x }.seg g = s.seg g := by cases g <;> rfl

@[simp] theorem Seg.other_a : Seg.other .a = .b := (rfl)

@[simp] theorem Seg.other_b : Seg.other .b = .a := (rfl)

@[simp] theorem Seg.other_other (g : Seg) : g.other.other = g := by cases g <;> rfl

@[simp] theorem Seg.other_ne (g : Seg) : g.other ≠ g := by cases g <;> decide

/-! ### Health objects -/

@[simp] theorem State.setObject_sd (o : ObjectId) (h : HealthObject) :
    (s.setObject o h).sd = s.sd := by
  rcases o with (_ | _) | _ | _ <;> rfl

@[simp] theorem State.setObject_ti (o : ObjectId) (h : HealthObject) :
    (s.setObject o h).ti = s.ti := by
  rcases o with (_ | _) | _ | _ <;> rfl

@[simp] theorem State.setObject_pr (o : ObjectId) (h : HealthObject) :
    (s.setObject o h).pr = s.pr := by
  rcases o with (_ | _) | _ | _ <;> rfl

@[simp] theorem State.setObject_ports (o : ObjectId) (h : HealthObject) :
    (s.setObject o h).ports = s.ports := by
  rcases o with (_ | _) | _ | _ <;> rfl

@[simp] theorem State.setObject_sm (o : ObjectId) (h : HealthObject) :
    (s.setObject o h).sm = s.sm := by
  rcases o with (_ | _) | _ | _ <;> rfl

@[simp] theorem State.setObject_pe (o : ObjectId) (h : HealthObject) :
    (s.setObject o h).pe = s.pe := by
  rcases o with (_ | _) | _ | _ <;> rfl

@[simp] theorem State.setObject_au (o : ObjectId) (h : HealthObject) :
    (s.setObject o h).au = s.au := by
  rcases o with (_ | _) | _ | _ <;> rfl

@[simp] theorem State.setObject_al (o : ObjectId) (h : HealthObject) :
    (s.setObject o h).al = s.al := by
  rcases o with (_ | _) | _ | _ <;> rfl

@[simp] theorem State.setObject_draws (o : ObjectId) (h : HealthObject) :
    (s.setObject o h).draws = s.draws := by
  rcases o with (_ | _) | _ | _ <;> rfl

@[simp] theorem State.setObject_pending (o : ObjectId) (h : HealthObject) :
    (s.setObject o h).pending = s.pending := by
  rcases o with (_ | _) | _ | _ <;> rfl

@[simp] theorem State.setObject_hm_suspect (o : ObjectId) (h : HealthObject) :
    (s.setObject o h).hm.suspect = s.hm.suspect := by
  rcases o with (_ | _) | _ | _ <;> rfl

@[simp] theorem State.setObject_hm_isolate (o : ObjectId) (h : HealthObject) :
    (s.setObject o h).hm.isolate = s.hm.isolate := by
  rcases o with (_ | _) | _ | _ <;> rfl

@[simp] theorem State.setObject_hm_readmit (o : ObjectId) (h : HealthObject) :
    (s.setObject o h).hm.readmit = s.hm.readmit := by
  rcases o with (_ | _) | _ | _ <;> rfl

@[simp] theorem State.setObject_hm_shift (o : ObjectId) (h : HealthObject) :
    (s.setObject o h).hm.shift = s.hm.shift := by
  rcases o with (_ | _) | _ | _ <;> rfl

@[simp] theorem State.setObject_hm_decayInterval (o : ObjectId) (h : HealthObject) :
    (s.setObject o h).hm.decayInterval = s.hm.decayInterval := by
  rcases o with (_ | _) | _ | _ <;> rfl

@[simp] theorem State.setObject_hm_probeInterval (o : ObjectId) (h : HealthObject) :
    (s.setObject o h).hm.probeInterval = s.hm.probeInterval := by
  rcases o with (_ | _) | _ | _ <;> rfl

@[simp] theorem State.setObject_hm_weights (o : ObjectId) (h : HealthObject) :
    (s.setObject o h).hm.weights = s.hm.weights := by
  rcases o with (_ | _) | _ | _ <;> rfl

@[simp] theorem State.setObject_hm_decayTimer (o : ObjectId) (h : HealthObject) :
    (s.setObject o h).hm.decayTimer = s.hm.decayTimer := by
  rcases o with (_ | _) | _ | _ <;> rfl

@[simp] theorem State.setObject_hm_probeTimer (o : ObjectId) (h : HealthObject) :
    (s.setObject o h).hm.probeTimer = s.hm.probeTimer := by
  rcases o with (_ | _) | _ | _ <;> rfl

@[simp] theorem State.setObject_hm_segmentPointer (o : ObjectId) (h : HealthObject) :
    (s.setObject o h).hm.segmentPointer = s.hm.segmentPointer := by
  rcases o with (_ | _) | _ | _ <;> rfl

@[simp] theorem State.setObject_hm_stationPointer (o : ObjectId) (h : HealthObject) :
    (s.setObject o h).hm.stationPointer = s.hm.stationPointer := by
  rcases o with (_ | _) | _ | _ <;> rfl

@[simp] theorem State.setObject_hm_probe (o : ObjectId) (h : HealthObject) :
    (s.setObject o h).hm.probe = s.hm.probe := by
  rcases o with (_ | _) | _ | _ <;> rfl

@[simp] theorem State.setObject_hm_jabberMark (o : ObjectId) (h : HealthObject) :
    (s.setObject o h).hm.jabberMark = s.hm.jabberMark := by
  rcases o with (_ | _) | _ | _ <;> rfl

@[simp] theorem State.object_setObject (o : ObjectId) (h : HealthObject) : (s.setObject o h).object o = h := by
  rcases o with (_ | _) | _ | _ <;> simp [State.object, State.setObject]

@[simp] theorem State.object_setObject_of_ne {o p : ObjectId} (h : HealthObject) (hne : p ≠ o) :
    (s.setObject o h).object p = s.object p := by
  rcases o with (_ | _) | m | a <;> rcases p with (_ | _) | n | b <;> try rfl
  all_goals first
    | exact absurd rfl hne
    | (have h' : m.val ≠ n.val := fun x => hne (by rw [Fin.ext x])
       simp [State.object, State.setObject, h'])
    | (have h' : a.val ≠ b.val := fun x => hne (by rw [Fin.ext x])
       simp [State.object, State.setObject, h'])

theorem State.object_setObject_eq (o p : ObjectId) (h : HealthObject) :
    (s.setObject o h).object p = if p = o then h else s.object p := by
  by_cases hp : p = o
  · subst hp; simp
  · simp [hp]

@[simp] theorem State.setObject_setObject (o : ObjectId) (h k : HealthObject) :
    (s.setObject o h).setObject o k = s.setObject o k := by
  rcases o with (_ | _) | _ | _ <;> simp [State.setObject]

@[simp] theorem State.setObject_object (o : ObjectId) : s.setObject o (s.object o) = s := by
  rcases o with (_ | _) | _ | _ <;> simp [State.setObject, State.object]

@[simp] theorem State.object_with_sd (x : Directory) (o : ObjectId) :
    { s with sd := x }.object o = s.object o := by
  rcases o with (_ | _) | _ | _ <;> rfl

@[simp] theorem State.object_with_ti (x : TrunkInterface) (o : ObjectId) :
    { s with ti := x }.object o = s.object o := by
  rcases o with (_ | _) | _ | _ <;> rfl

@[simp] theorem State.object_with_ports (x : Vector Port 8) (o : ObjectId) :
    { s with ports := x }.object o = s.object o := by
  rcases o with (_ | _) | _ | _ <;> rfl

@[simp] theorem State.object_with_sm (x : Spool) (o : ObjectId) :
    { s with sm := x }.object o = s.object o := by
  rcases o with (_ | _) | _ | _ <;> rfl

@[simp] theorem State.object_with_pe (x : Engine) (o : ObjectId) :
    { s with pe := x }.object o = s.object o := by
  rcases o with (_ | _) | _ | _ <;> rfl

@[simp] theorem State.object_with_au (x : AlertUnit) (o : ObjectId) :
    { s with au := x }.object o = s.object o := by
  rcases o with (_ | _) | _ | _ <;> rfl

@[simp] theorem State.object_with_al (x : AdminLink) (o : ObjectId) :
    { s with al := x }.object o = s.object o := by
  rcases o with (_ | _) | _ | _ <;> rfl

@[simp] theorem State.object_with_pr (x : ReplyContext) (o : ObjectId) :
    { s with pr := x }.object o = s.object o := by
  rcases o with (_ | _) | _ | _ <;> rfl

@[simp] theorem State.object_with_draws (x : Nat) (o : ObjectId) :
    { s with draws := x }.object o = s.object o := by
  rcases o with (_ | _) | _ | _ <;> rfl

@[simp] theorem State.object_with_pending (x : List Instr) (o : ObjectId) :
    { s with pending := x }.object o = s.object o := by
  rcases o with (_ | _) | _ | _ <;> rfl

@[simp] theorem State.object_setEntry (a : Address) (e : Entry) (o : ObjectId) : (s.setEntry a e).object o = s.object o := by
  rcases o with (_ | _) | _ | _ <;> rfl

@[simp] theorem State.object_setPort (n : PortNo) (p : Port) (o : ObjectId) : (s.setPort n p).object o = s.object o := by
  rcases o with (_ | _) | _ | _ <;> rfl

@[simp] theorem State.object_mapPort (n : PortNo) (f : Port → Port) (o : ObjectId) :
    (s.mapPort n f).object o = s.object o := by
  rcases o with (_ | _) | _ | _ <;> rfl

@[simp] theorem State.object_setSeg (g : Seg) (x : Segment) (o : ObjectId) : (s.setSeg g x).object o = s.object o := by
  rcases o with (_ | _) | _ | _ <;> cases g <;> rfl

@[simp] theorem State.entry_setPort (n : PortNo) (p : Port) (a : Address) : (s.setPort n p).entry a = s.entry a := (rfl)

@[simp] theorem State.entry_mapPort (n : PortNo) (f : Port → Port) (a : Address) : (s.mapPort n f).entry a = s.entry a := (rfl)

@[simp] theorem State.entry_setSeg (g : Seg) (x : Segment) (a : Address) : (s.setSeg g x).entry a = s.entry a := by
  cases g <;> rfl

@[simp] theorem State.entry_setObject (o : ObjectId) (h : HealthObject) (a : Address) :
    (s.setObject o h).entry a = s.entry a := by
  rcases o with (_ | _) | _ | _ <;> rfl

@[simp] theorem State.port_setEntry (a : Address) (e : Entry) (n : PortNo) : (s.setEntry a e).port n = s.port n := (rfl)

@[simp] theorem State.port_setSeg (g : Seg) (x : Segment) (n : PortNo) : (s.setSeg g x).port n = s.port n := by cases g <;> rfl

@[simp] theorem State.port_setObject (o : ObjectId) (h : HealthObject) (n : PortNo) :
    (s.setObject o h).port n = s.port n := by
  rcases o with (_ | _) | _ | _ <;> rfl

@[simp] theorem State.seg_setEntry (a : Address) (e : Entry) (g : Seg) : (s.setEntry a e).seg g = s.seg g := by cases g <;> rfl

@[simp] theorem State.seg_setPort (n : PortNo) (p : Port) (g : Seg) : (s.setPort n p).seg g = s.seg g := by cases g <;> rfl

@[simp] theorem State.seg_mapPort (n : PortNo) (f : Port → Port) (g : Seg) : (s.mapPort n f).seg g = s.seg g := by cases g <;> rfl

@[simp] theorem State.seg_setObject (o : ObjectId) (h : HealthObject) (g : Seg) : (s.setObject o h).seg g = s.seg g := by
  rcases o with (_ | _) | _ | _ <;> cases g <;> rfl

/-! ### Accounts -/

@[simp] theorem State.setHeld_ti (src : Source) (n : Nat) :
    (s.setHeld src n).ti = s.ti := by cases src <;> rfl

@[simp] theorem State.setHeld_pr (src : Source) (n : Nat) :
    (s.setHeld src n).pr = s.pr := by cases src <;> rfl

@[simp] theorem State.setHeld_ports (src : Source) (n : Nat) :
    (s.setHeld src n).ports = s.ports := by cases src <;> rfl

@[simp] theorem State.setHeld_sm (src : Source) (n : Nat) :
    (s.setHeld src n).sm = s.sm := by cases src <;> rfl

@[simp] theorem State.setHeld_pe (src : Source) (n : Nat) :
    (s.setHeld src n).pe = s.pe := by cases src <;> rfl

@[simp] theorem State.setHeld_hm (src : Source) (n : Nat) :
    (s.setHeld src n).hm = s.hm := by cases src <;> rfl

@[simp] theorem State.setHeld_au (src : Source) (n : Nat) :
    (s.setHeld src n).au = s.au := by cases src <;> rfl

@[simp] theorem State.setHeld_al (src : Source) (n : Nat) :
    (s.setHeld src n).al = s.al := by cases src <;> rfl

@[simp] theorem State.setHeld_draws (src : Source) (n : Nat) :
    (s.setHeld src n).draws = s.draws := by cases src <;> rfl

@[simp] theorem State.setHeld_pending (src : Source) (n : Nat) :
    (s.setHeld src n).pending = s.pending := by cases src <;> rfl

@[simp] theorem State.heldOf_setHeld (src : Source) (n : Nat) : (s.setHeld src n).heldOf src = n := by
  cases src <;> simp [State.setHeld, State.heldOf]

@[simp] theorem State.heldOf_setHeld_of_ne {src src' : Source} (n : Nat) (h : src' ≠ src) :
    (s.setHeld src n).heldOf src' = s.heldOf src' := by
  cases src <;> cases src' <;> try first | rfl | exact absurd rfl h
  rename_i a b
  have hb : b ≠ a := fun x => h (by rw [x])
  simp [State.setHeld, State.heldOf, hb]

@[simp] theorem State.object_setHeld (src : Source) (n : Nat) (o : ObjectId) : (s.setHeld src n).object o = s.object o := by
  cases src <;> rcases o with (_ | _) | _ | _ <;> rfl

@[simp] theorem State.port_setHeld (src : Source) (n : Nat) (m : PortNo) : (s.setHeld src n).port m = s.port m := by
  cases src <;> rfl

@[simp] theorem State.seg_setHeld (src : Source) (n : Nat) (g : Seg) : (s.setHeld src n).seg g = s.seg g := by
  cases src <;> cases g <;> rfl

/-- A change of a held count leaves every other field of every entry. -/
theorem State.entry_setHeld (src : Source) (n : Nat) (a : Address) :
    (s.setHeld src n).entry a = { s.entry a with held := ((s.setHeld src n).entry a).held } := by
  cases src with
  | primary => rfl
  | desk b =>
    by_cases h : a = b
    · subst h; simp [State.setHeld]
    · simp [State.setHeld, h]

/-! ### Single records -/

@[simp] theorem State.mapPe_sd (f : Engine → Engine) :
    (s.mapPe f).sd = s.sd := (rfl)

@[simp] theorem State.mapPe_ti (f : Engine → Engine) :
    (s.mapPe f).ti = s.ti := (rfl)

@[simp] theorem State.mapPe_pr (f : Engine → Engine) :
    (s.mapPe f).pr = s.pr := (rfl)

@[simp] theorem State.mapPe_ports (f : Engine → Engine) :
    (s.mapPe f).ports = s.ports := (rfl)

@[simp] theorem State.mapPe_sm (f : Engine → Engine) :
    (s.mapPe f).sm = s.sm := (rfl)

@[simp] theorem State.mapPe_hm (f : Engine → Engine) :
    (s.mapPe f).hm = s.hm := (rfl)

@[simp] theorem State.mapPe_au (f : Engine → Engine) :
    (s.mapPe f).au = s.au := (rfl)

@[simp] theorem State.mapPe_al (f : Engine → Engine) :
    (s.mapPe f).al = s.al := (rfl)

@[simp] theorem State.mapPe_draws (f : Engine → Engine) :
    (s.mapPe f).draws = s.draws := (rfl)

@[simp] theorem State.mapPe_pending (f : Engine → Engine) :
    (s.mapPe f).pending = s.pending := (rfl)

@[simp] theorem State.mapPe_pe (f : Engine → Engine) : (s.mapPe f).pe = f s.pe := (rfl)

@[simp] theorem State.mapAl_sd (f : AdminLink → AdminLink) :
    (s.mapAl f).sd = s.sd := (rfl)

@[simp] theorem State.mapAl_ti (f : AdminLink → AdminLink) :
    (s.mapAl f).ti = s.ti := (rfl)

@[simp] theorem State.mapAl_pr (f : AdminLink → AdminLink) :
    (s.mapAl f).pr = s.pr := (rfl)

@[simp] theorem State.mapAl_ports (f : AdminLink → AdminLink) :
    (s.mapAl f).ports = s.ports := (rfl)

@[simp] theorem State.mapAl_sm (f : AdminLink → AdminLink) :
    (s.mapAl f).sm = s.sm := (rfl)

@[simp] theorem State.mapAl_pe (f : AdminLink → AdminLink) :
    (s.mapAl f).pe = s.pe := (rfl)

@[simp] theorem State.mapAl_hm (f : AdminLink → AdminLink) :
    (s.mapAl f).hm = s.hm := (rfl)

@[simp] theorem State.mapAl_au (f : AdminLink → AdminLink) :
    (s.mapAl f).au = s.au := (rfl)

@[simp] theorem State.mapAl_draws (f : AdminLink → AdminLink) :
    (s.mapAl f).draws = s.draws := (rfl)

@[simp] theorem State.mapAl_pending (f : AdminLink → AdminLink) :
    (s.mapAl f).pending = s.pending := (rfl)

@[simp] theorem State.mapAl_al (f : AdminLink → AdminLink) : (s.mapAl f).al = f s.al := (rfl)

@[simp] theorem State.setProbe_sd (p : Option Probe) :
    (s.setProbe p).sd = s.sd := (rfl)

@[simp] theorem State.setProbe_ti (p : Option Probe) :
    (s.setProbe p).ti = s.ti := (rfl)

@[simp] theorem State.setProbe_pr (p : Option Probe) :
    (s.setProbe p).pr = s.pr := (rfl)

@[simp] theorem State.setProbe_ports (p : Option Probe) :
    (s.setProbe p).ports = s.ports := (rfl)

@[simp] theorem State.setProbe_sm (p : Option Probe) :
    (s.setProbe p).sm = s.sm := (rfl)

@[simp] theorem State.setProbe_pe (p : Option Probe) :
    (s.setProbe p).pe = s.pe := (rfl)

@[simp] theorem State.setProbe_au (p : Option Probe) :
    (s.setProbe p).au = s.au := (rfl)

@[simp] theorem State.setProbe_al (p : Option Probe) :
    (s.setProbe p).al = s.al := (rfl)

@[simp] theorem State.setProbe_draws (p : Option Probe) :
    (s.setProbe p).draws = s.draws := (rfl)

@[simp] theorem State.setProbe_pending (p : Option Probe) :
    (s.setProbe p).pending = s.pending := (rfl)

@[simp] theorem State.setProbe_hm_segA (p : Option Probe) : (s.setProbe p).hm.segA = s.hm.segA := (rfl)

@[simp] theorem State.setProbe_hm_segB (p : Option Probe) : (s.setProbe p).hm.segB = s.hm.segB := (rfl)

@[simp] theorem State.setProbe_hm_ports (p : Option Probe) : (s.setProbe p).hm.ports = s.hm.ports := (rfl)

@[simp] theorem State.setProbe_hm_stations (p : Option Probe) : (s.setProbe p).hm.stations = s.hm.stations := (rfl)

@[simp] theorem State.setProbe_hm_suspect (p : Option Probe) : (s.setProbe p).hm.suspect = s.hm.suspect := (rfl)

@[simp] theorem State.setProbe_hm_isolate (p : Option Probe) : (s.setProbe p).hm.isolate = s.hm.isolate := (rfl)

@[simp] theorem State.setProbe_hm_readmit (p : Option Probe) : (s.setProbe p).hm.readmit = s.hm.readmit := (rfl)

@[simp] theorem State.setProbe_hm_shift (p : Option Probe) : (s.setProbe p).hm.shift = s.hm.shift := (rfl)

@[simp] theorem State.setProbe_hm_decayInterval (p : Option Probe) : (s.setProbe p).hm.decayInterval = s.hm.decayInterval := (rfl)

@[simp] theorem State.setProbe_hm_probeInterval (p : Option Probe) : (s.setProbe p).hm.probeInterval = s.hm.probeInterval := (rfl)

@[simp] theorem State.setProbe_hm_weights (p : Option Probe) : (s.setProbe p).hm.weights = s.hm.weights := (rfl)

@[simp] theorem State.setProbe_hm_decayTimer (p : Option Probe) : (s.setProbe p).hm.decayTimer = s.hm.decayTimer := (rfl)

@[simp] theorem State.setProbe_hm_probeTimer (p : Option Probe) : (s.setProbe p).hm.probeTimer = s.hm.probeTimer := (rfl)

@[simp] theorem State.setProbe_hm_segmentPointer (p : Option Probe) : (s.setProbe p).hm.segmentPointer = s.hm.segmentPointer := (rfl)

@[simp] theorem State.setProbe_hm_stationPointer (p : Option Probe) : (s.setProbe p).hm.stationPointer = s.hm.stationPointer := (rfl)

@[simp] theorem State.setProbe_hm_jabberMark (p : Option Probe) : (s.setProbe p).hm.jabberMark = s.hm.jabberMark := (rfl)

@[simp] theorem State.setProbe_hm_probe (p : Option Probe) : (s.setProbe p).hm.probe = p := (rfl)

@[simp] theorem State.object_setProbe (p : Option Probe) (o : ObjectId) : (s.setProbe p).object o = s.object o := by
  rcases o with (_ | _) | _ | _ <;> rfl

@[simp] theorem State.setGate_sd (c : Bool) :
    (s.setGate c).sd = s.sd := (rfl)

@[simp] theorem State.setGate_pr (c : Bool) :
    (s.setGate c).pr = s.pr := (rfl)

@[simp] theorem State.setGate_ports (c : Bool) :
    (s.setGate c).ports = s.ports := (rfl)

@[simp] theorem State.setGate_sm (c : Bool) :
    (s.setGate c).sm = s.sm := (rfl)

@[simp] theorem State.setGate_pe (c : Bool) :
    (s.setGate c).pe = s.pe := (rfl)

@[simp] theorem State.setGate_hm (c : Bool) :
    (s.setGate c).hm = s.hm := (rfl)

@[simp] theorem State.setGate_au (c : Bool) :
    (s.setGate c).au = s.au := (rfl)

@[simp] theorem State.setGate_al (c : Bool) :
    (s.setGate c).al = s.al := (rfl)

@[simp] theorem State.setGate_draws (c : Bool) :
    (s.setGate c).draws = s.draws := (rfl)

@[simp] theorem State.setGate_pending (c : Bool) :
    (s.setGate c).pending = s.pending := (rfl)

@[simp] theorem State.seg_setGate (c : Bool) (g : Seg) : (s.setGate c).seg g = s.seg g := by cases g <;> rfl

@[simp] theorem State.setGate_ti_gateB (c : Bool) : (s.setGate c).ti.gateB = c := (rfl)

@[simp] theorem State.setGate_ti_written (c : Bool) : (s.setGate c).ti.written = s.ti.written := (rfl)

@[simp] theorem State.mapJob_sd (id : Nat) (f : Job → Job) :
    (s.mapJob id f).sd = s.sd := (rfl)

@[simp] theorem State.mapJob_ti (id : Nat) (f : Job → Job) :
    (s.mapJob id f).ti = s.ti := (rfl)

@[simp] theorem State.mapJob_pr (id : Nat) (f : Job → Job) :
    (s.mapJob id f).pr = s.pr := (rfl)

@[simp] theorem State.mapJob_ports (id : Nat) (f : Job → Job) :
    (s.mapJob id f).ports = s.ports := (rfl)

@[simp] theorem State.mapJob_pe (id : Nat) (f : Job → Job) :
    (s.mapJob id f).pe = s.pe := (rfl)

@[simp] theorem State.mapJob_hm (id : Nat) (f : Job → Job) :
    (s.mapJob id f).hm = s.hm := (rfl)

@[simp] theorem State.mapJob_au (id : Nat) (f : Job → Job) :
    (s.mapJob id f).au = s.au := (rfl)

@[simp] theorem State.mapJob_al (id : Nat) (f : Job → Job) :
    (s.mapJob id f).al = s.al := (rfl)

@[simp] theorem State.mapJob_draws (id : Nat) (f : Job → Job) :
    (s.mapJob id f).draws = s.draws := (rfl)

@[simp] theorem State.mapJob_pending (id : Nat) (f : Job → Job) :
    (s.mapJob id f).pending = s.pending := (rfl)

@[simp] theorem State.mapJob_sm_memory (id : Nat) (f : Job → Job) : (s.mapJob id f).sm.memory = s.sm.memory := (rfl)

@[simp] theorem State.mapJob_sm_free (id : Nat) (f : Job → Job) : (s.mapJob id f).sm.free = s.sm.free := (rfl)

@[simp] theorem State.mapJob_sm_queue (id : Nat) (f : Job → Job) : (s.mapJob id f).sm.queue = s.sm.queue := (rfl)

@[simp] theorem State.mapJob_sm_lastId (id : Nat) (f : Job → Job) : (s.mapJob id f).sm.lastId = s.sm.lastId := (rfl)

@[simp] theorem State.mapJob_sm_idleTimeout (id : Nat) (f : Job → Job) : (s.mapJob id f).sm.idleTimeout = s.sm.idleTimeout := (rfl)

@[simp] theorem State.mapJob_sm_lowMark (id : Nat) (f : Job → Job) : (s.mapJob id f).sm.lowMark = s.sm.lowMark := (rfl)

@[simp] theorem State.entry_mapPe (f : Engine → Engine) (a : Address) : (s.mapPe f).entry a = s.entry a := (rfl)

@[simp] theorem State.port_mapPe (f : Engine → Engine) (n : PortNo) : (s.mapPe f).port n = s.port n := (rfl)

@[simp] theorem State.seg_mapPe (f : Engine → Engine) (g : Seg) : (s.mapPe f).seg g = s.seg g := by cases g <;> rfl

@[simp] theorem State.object_mapPe (f : Engine → Engine) (o : ObjectId) : (s.mapPe f).object o = s.object o := by
  rcases o with (_ | _) | _ | _ <;> rfl

@[simp] theorem State.entry_mapAl (f : AdminLink → AdminLink) (a : Address) : (s.mapAl f).entry a = s.entry a := (rfl)

@[simp] theorem State.port_mapAl (f : AdminLink → AdminLink) (n : PortNo) : (s.mapAl f).port n = s.port n := (rfl)

@[simp] theorem State.seg_mapAl (f : AdminLink → AdminLink) (g : Seg) : (s.mapAl f).seg g = s.seg g := by cases g <;> rfl

@[simp] theorem State.object_mapAl (f : AdminLink → AdminLink) (o : ObjectId) : (s.mapAl f).object o = s.object o := by
  rcases o with (_ | _) | _ | _ <;> rfl

@[simp] theorem State.entry_setProbe (p : Option Probe) (a : Address) : (s.setProbe p).entry a = s.entry a := (rfl)

@[simp] theorem State.port_setProbe (p : Option Probe) (n : PortNo) : (s.setProbe p).port n = s.port n := (rfl)

@[simp] theorem State.seg_setProbe (p : Option Probe) (g : Seg) : (s.setProbe p).seg g = s.seg g := by cases g <;> rfl

@[simp] theorem State.entry_setGate (c : Bool) (a : Address) : (s.setGate c).entry a = s.entry a := (rfl)

@[simp] theorem State.port_setGate (c : Bool) (n : PortNo) : (s.setGate c).port n = s.port n := (rfl)

@[simp] theorem State.object_setGate (c : Bool) (o : ObjectId) : (s.setGate c).object o = s.object o := by
  rcases o with (_ | _) | _ | _ <;> rfl

@[simp] theorem State.entry_mapJob (id : Nat) (f : Job → Job) (a : Address) : (s.mapJob id f).entry a = s.entry a := (rfl)

@[simp] theorem State.port_mapJob (id : Nat) (f : Job → Job) (n : PortNo) : (s.mapJob id f).port n = s.port n := (rfl)

@[simp] theorem State.seg_mapJob (id : Nat) (f : Job → Job) (g : Seg) : (s.mapJob id f).seg g = s.seg g := by cases g <;> rfl

@[simp] theorem State.object_mapJob (id : Nat) (f : Job → Job) (o : ObjectId) : (s.mapJob id f).object o = s.object o := by
  rcases o with (_ | _) | _ | _ <;> rfl

@[simp] theorem State.raise_sd (c : Cause) (n : Nat) (d : Detail) :
    (s.raise c n d).sd = s.sd := (rfl)

@[simp] theorem State.raise_ti (c : Cause) (n : Nat) (d : Detail) :
    (s.raise c n d).ti = s.ti := (rfl)

@[simp] theorem State.raise_pr (c : Cause) (n : Nat) (d : Detail) :
    (s.raise c n d).pr = s.pr := (rfl)

@[simp] theorem State.raise_ports (c : Cause) (n : Nat) (d : Detail) :
    (s.raise c n d).ports = s.ports := (rfl)

@[simp] theorem State.raise_sm (c : Cause) (n : Nat) (d : Detail) :
    (s.raise c n d).sm = s.sm := (rfl)

@[simp] theorem State.raise_pe (c : Cause) (n : Nat) (d : Detail) :
    (s.raise c n d).pe = s.pe := (rfl)

@[simp] theorem State.raise_hm (c : Cause) (n : Nat) (d : Detail) :
    (s.raise c n d).hm = s.hm := (rfl)

@[simp] theorem State.raise_al (c : Cause) (n : Nat) (d : Detail) :
    (s.raise c n d).al = s.al := (rfl)

@[simp] theorem State.raise_draws (c : Cause) (n : Nat) (d : Detail) :
    (s.raise c n d).draws = s.draws := (rfl)

@[simp] theorem State.raise_pending (c : Cause) (n : Nat) (d : Detail) :
    (s.raise c n d).pending = s.pending := (rfl)

@[simp] theorem State.raise_au (c : Cause) (n : Nat) (d : Detail) : (s.raise c n d).au = s.au.take c n d := (rfl)

@[simp] theorem State.entry_raise (c : Cause) (n : Nat) (d : Detail) (a : Address) : (s.raise c n d).entry a = s.entry a := (rfl)

@[simp] theorem State.port_raise (c : Cause) (n : Nat) (d : Detail) (m : PortNo) : (s.raise c n d).port m = s.port m := (rfl)

@[simp] theorem State.seg_raise (c : Cause) (n : Nat) (d : Detail) (g : Seg) : (s.raise c n d).seg g = s.seg g := by cases g <;> rfl

@[simp] theorem State.object_raise (c : Cause) (n : Nat) (d : Detail) (o : ObjectId) :
    (s.raise c n d).object o = s.object o := by
  rcases o with (_ | _) | _ | _ <;> rfl

end Sys2Proof.Machine
end

