-- ==== Sys2Proof/Laws/Frames.lean ====
section
/-! SUPPORT. What each shared operation leaves: one lemma per operation and per block that it never changes. -/

set_option linter.unnecessarySeqFocus false
set_option linter.unusedTactic false

namespace Sys2Proof.Machine

variable (s : State)

/-! ### Ports and notices -/

@[simp] theorem State.respond_sd (n : PortNo) (r : Response) :
    (s.respond n r).sd = s.sd := by simp [State.respond]

@[simp] theorem State.respond_ti (n : PortNo) (r : Response) :
    (s.respond n r).ti = s.ti := by simp [State.respond]

@[simp] theorem State.respond_pr (n : PortNo) (r : Response) :
    (s.respond n r).pr = s.pr := by simp [State.respond]

@[simp] theorem State.respond_sm (n : PortNo) (r : Response) :
    (s.respond n r).sm = s.sm := by simp [State.respond]

@[simp] theorem State.respond_pe (n : PortNo) (r : Response) :
    (s.respond n r).pe = s.pe := by simp [State.respond]

@[simp] theorem State.respond_hm (n : PortNo) (r : Response) :
    (s.respond n r).hm = s.hm := by simp [State.respond]

@[simp] theorem State.respond_au (n : PortNo) (r : Response) :
    (s.respond n r).au = s.au := by simp [State.respond]

@[simp] theorem State.respond_al (n : PortNo) (r : Response) :
    (s.respond n r).al = s.al := by simp [State.respond]

@[simp] theorem State.respond_draws (n : PortNo) (r : Response) :
    (s.respond n r).draws = s.draws := by simp [State.respond]

@[simp] theorem State.respond_pending (n : PortNo) (r : Response) :
    (s.respond n r).pending = s.pending := by simp [State.respond]

@[simp] theorem State.notify_sd (n : PortNo) (x : Notice) :
    (s.notify n x).sd = s.sd := by
  unfold State.notify; (repeat' split) <;> simp

@[simp] theorem State.notify_ti (n : PortNo) (x : Notice) :
    (s.notify n x).ti = s.ti := by
  unfold State.notify; (repeat' split) <;> simp

@[simp] theorem State.notify_pr (n : PortNo) (x : Notice) :
    (s.notify n x).pr = s.pr := by
  unfold State.notify; (repeat' split) <;> simp

@[simp] theorem State.notify_sm (n : PortNo) (x : Notice) :
    (s.notify n x).sm = s.sm := by
  unfold State.notify; (repeat' split) <;> simp

@[simp] theorem State.notify_pe (n : PortNo) (x : Notice) :
    (s.notify n x).pe = s.pe := by
  unfold State.notify; (repeat' split) <;> simp

@[simp] theorem State.notify_hm (n : PortNo) (x : Notice) :
    (s.notify n x).hm = s.hm := by
  unfold State.notify; (repeat' split) <;> simp

@[simp] theorem State.notify_au (n : PortNo) (x : Notice) :
    (s.notify n x).au = s.au := by
  unfold State.notify; (repeat' split) <;> simp

@[simp] theorem State.notify_al (n : PortNo) (x : Notice) :
    (s.notify n x).al = s.al := by
  unfold State.notify; (repeat' split) <;> simp

@[simp] theorem State.notify_draws (n : PortNo) (x : Notice) :
    (s.notify n x).draws = s.draws := by
  unfold State.notify; (repeat' split) <;> simp

@[simp] theorem State.notify_pending (n : PortNo) (x : Notice) :
    (s.notify n x).pending = s.pending := by
  unfold State.notify; (repeat' split) <;> simp

@[simp] theorem State.notifyLink_sd (n : PortNo) :
    (s.notifyLink n).sd = s.sd := by
  unfold State.notifyLink; simp

@[simp] theorem State.notifyLink_ti (n : PortNo) :
    (s.notifyLink n).ti = s.ti := by
  unfold State.notifyLink; simp

@[simp] theorem State.notifyLink_pr (n : PortNo) :
    (s.notifyLink n).pr = s.pr := by
  unfold State.notifyLink; simp

@[simp] theorem State.notifyLink_sm (n : PortNo) :
    (s.notifyLink n).sm = s.sm := by
  unfold State.notifyLink; simp

@[simp] theorem State.notifyLink_pe (n : PortNo) :
    (s.notifyLink n).pe = s.pe := by
  unfold State.notifyLink; simp

@[simp] theorem State.notifyLink_hm (n : PortNo) :
    (s.notifyLink n).hm = s.hm := by
  unfold State.notifyLink; simp

@[simp] theorem State.notifyLink_au (n : PortNo) :
    (s.notifyLink n).au = s.au := by
  unfold State.notifyLink; simp

@[simp] theorem State.notifyLink_al (n : PortNo) :
    (s.notifyLink n).al = s.al := by
  unfold State.notifyLink; simp

@[simp] theorem State.notifyLink_draws (n : PortNo) :
    (s.notifyLink n).draws = s.draws := by
  unfold State.notifyLink; simp

@[simp] theorem State.notifyLink_pending (n : PortNo) :
    (s.notifyLink n).pending = s.pending := by
  unfold State.notifyLink; simp

@[simp] theorem State.notifyJob_sd (src : Source) (id : Nat) (st : NoticeState) (k : Nat) :
    (s.notifyJob src id st k).sd = s.sd := by
  unfold State.notifyJob; (repeat' split) <;> simp

@[simp] theorem State.notifyJob_ti (src : Source) (id : Nat) (st : NoticeState) (k : Nat) :
    (s.notifyJob src id st k).ti = s.ti := by
  unfold State.notifyJob; (repeat' split) <;> simp

@[simp] theorem State.notifyJob_pr (src : Source) (id : Nat) (st : NoticeState) (k : Nat) :
    (s.notifyJob src id st k).pr = s.pr := by
  unfold State.notifyJob; (repeat' split) <;> simp

@[simp] theorem State.notifyJob_sm (src : Source) (id : Nat) (st : NoticeState) (k : Nat) :
    (s.notifyJob src id st k).sm = s.sm := by
  unfold State.notifyJob; (repeat' split) <;> simp

@[simp] theorem State.notifyJob_pe (src : Source) (id : Nat) (st : NoticeState) (k : Nat) :
    (s.notifyJob src id st k).pe = s.pe := by
  unfold State.notifyJob; (repeat' split) <;> simp

@[simp] theorem State.notifyJob_hm (src : Source) (id : Nat) (st : NoticeState) (k : Nat) :
    (s.notifyJob src id st k).hm = s.hm := by
  unfold State.notifyJob; (repeat' split) <;> simp

@[simp] theorem State.notifyJob_au (src : Source) (id : Nat) (st : NoticeState) (k : Nat) :
    (s.notifyJob src id st k).au = s.au := by
  unfold State.notifyJob; (repeat' split) <;> simp

@[simp] theorem State.notifyJob_al (src : Source) (id : Nat) (st : NoticeState) (k : Nat) :
    (s.notifyJob src id st k).al = s.al := by
  unfold State.notifyJob; (repeat' split) <;> simp

@[simp] theorem State.notifyJob_draws (src : Source) (id : Nat) (st : NoticeState) (k : Nat) :
    (s.notifyJob src id st k).draws = s.draws := by
  unfold State.notifyJob; (repeat' split) <;> simp

@[simp] theorem State.notifyJob_pending (src : Source) (id : Nat) (st : NoticeState) (k : Nat) :
    (s.notifyJob src id st k).pending = s.pending := by
  unfold State.notifyJob; (repeat' split) <;> simp

@[simp] theorem State.reportPort_sd (n : PortNo) :
    (s.reportPort n).sd = s.sd := by
  unfold State.reportPort; simp

@[simp] theorem State.reportPort_ti (n : PortNo) :
    (s.reportPort n).ti = s.ti := by
  unfold State.reportPort; simp

@[simp] theorem State.reportPort_pr (n : PortNo) :
    (s.reportPort n).pr = s.pr := by
  unfold State.reportPort; simp

@[simp] theorem State.reportPort_ports (n : PortNo) :
    (s.reportPort n).ports = s.ports := by
  unfold State.reportPort; simp

@[simp] theorem State.reportPort_sm (n : PortNo) :
    (s.reportPort n).sm = s.sm := by
  unfold State.reportPort; simp

@[simp] theorem State.reportPort_pe (n : PortNo) :
    (s.reportPort n).pe = s.pe := by
  unfold State.reportPort; simp

@[simp] theorem State.reportPort_hm (n : PortNo) :
    (s.reportPort n).hm = s.hm := by
  unfold State.reportPort; simp

@[simp] theorem State.reportPort_al (n : PortNo) :
    (s.reportPort n).al = s.al := by
  unfold State.reportPort; simp

@[simp] theorem State.reportPort_draws (n : PortNo) :
    (s.reportPort n).draws = s.draws := by
  unfold State.reportPort; simp

@[simp] theorem State.reportPort_pending (n : PortNo) :
    (s.reportPort n).pending = s.pending := by
  unfold State.reportPort; simp

/-! ### The spool -/

@[simp] theorem State.raiseLow_sd (k : Nat) :
    (s.raiseLow k).sd = s.sd := by
  unfold State.raiseLow; (repeat' split) <;> simp

@[simp] theorem State.raiseLow_ti (k : Nat) :
    (s.raiseLow k).ti = s.ti := by
  unfold State.raiseLow; (repeat' split) <;> simp

@[simp] theorem State.raiseLow_pr (k : Nat) :
    (s.raiseLow k).pr = s.pr := by
  unfold State.raiseLow; (repeat' split) <;> simp

@[simp] theorem State.raiseLow_ports (k : Nat) :
    (s.raiseLow k).ports = s.ports := by
  unfold State.raiseLow; (repeat' split) <;> simp

@[simp] theorem State.raiseLow_sm (k : Nat) :
    (s.raiseLow k).sm = s.sm := by
  unfold State.raiseLow; (repeat' split) <;> simp

@[simp] theorem State.raiseLow_pe (k : Nat) :
    (s.raiseLow k).pe = s.pe := by
  unfold State.raiseLow; (repeat' split) <;> simp

@[simp] theorem State.raiseLow_hm (k : Nat) :
    (s.raiseLow k).hm = s.hm := by
  unfold State.raiseLow; (repeat' split) <;> simp

@[simp] theorem State.raiseLow_al (k : Nat) :
    (s.raiseLow k).al = s.al := by
  unfold State.raiseLow; (repeat' split) <;> simp

@[simp] theorem State.raiseLow_draws (k : Nat) :
    (s.raiseLow k).draws = s.draws := by
  unfold State.raiseLow; (repeat' split) <;> simp

@[simp] theorem State.raiseLow_pending (k : Nat) :
    (s.raiseLow k).pending = s.pending := by
  unfold State.raiseLow; (repeat' split) <;> simp

@[simp] theorem State.admitText_ti (j : Job) (text : List Byte) :
    (s.admitText j text).ti = s.ti := by
  unfold State.admitText; simp

@[simp] theorem State.admitText_pr (j : Job) (text : List Byte) :
    (s.admitText j text).pr = s.pr := by
  unfold State.admitText; simp

@[simp] theorem State.admitText_ports (j : Job) (text : List Byte) :
    (s.admitText j text).ports = s.ports := by
  unfold State.admitText; simp

@[simp] theorem State.admitText_pe (j : Job) (text : List Byte) :
    (s.admitText j text).pe = s.pe := by
  unfold State.admitText; simp

@[simp] theorem State.admitText_hm (j : Job) (text : List Byte) :
    (s.admitText j text).hm = s.hm := by
  unfold State.admitText; simp

@[simp] theorem State.admitText_al (j : Job) (text : List Byte) :
    (s.admitText j text).al = s.al := by
  unfold State.admitText; simp

@[simp] theorem State.admitText_draws (j : Job) (text : List Byte) :
    (s.admitText j text).draws = s.draws := by
  unfold State.admitText; simp

@[simp] theorem State.admitText_pending (j : Job) (text : List Byte) :
    (s.admitText j text).pending = s.pending := by
  unfold State.admitText; simp

@[simp] theorem State.openJob_sd (src : Source) (copies : Nat) (p : Priority) :
    (s.openJob src copies p).sd = s.sd := by
  unfold State.openJob; simp

@[simp] theorem State.openJob_ti (src : Source) (copies : Nat) (p : Priority) :
    (s.openJob src copies p).ti = s.ti := by
  unfold State.openJob; simp

@[simp] theorem State.openJob_pr (src : Source) (copies : Nat) (p : Priority) :
    (s.openJob src copies p).pr = s.pr := by
  unfold State.openJob; simp

@[simp] theorem State.openJob_pe (src : Source) (copies : Nat) (p : Priority) :
    (s.openJob src copies p).pe = s.pe := by
  unfold State.openJob; simp

@[simp] theorem State.openJob_hm (src : Source) (copies : Nat) (p : Priority) :
    (s.openJob src copies p).hm = s.hm := by
  unfold State.openJob; simp

@[simp] theorem State.openJob_au (src : Source) (copies : Nat) (p : Priority) :
    (s.openJob src copies p).au = s.au := by
  unfold State.openJob; simp

@[simp] theorem State.openJob_al (src : Source) (copies : Nat) (p : Priority) :
    (s.openJob src copies p).al = s.al := by
  unfold State.openJob; simp

@[simp] theorem State.openJob_draws (src : Source) (copies : Nat) (p : Priority) :
    (s.openJob src copies p).draws = s.draws := by
  unfold State.openJob; simp

@[simp] theorem State.openJob_pending (src : Source) (copies : Nat) (p : Priority) :
    (s.openJob src copies p).pending = s.pending := by
  unfold State.openJob; simp

@[simp] theorem State.removeJob_ti (j : Job) (e : Ending) :
    (s.removeJob j e).ti = s.ti := by
  unfold State.removeJob; simp

@[simp] theorem State.removeJob_pr (j : Job) (e : Ending) :
    (s.removeJob j e).pr = s.pr := by
  unfold State.removeJob; simp

@[simp] theorem State.removeJob_pe (j : Job) (e : Ending) :
    (s.removeJob j e).pe = s.pe := by
  unfold State.removeJob; simp

@[simp] theorem State.removeJob_hm (j : Job) (e : Ending) :
    (s.removeJob j e).hm = s.hm := by
  unfold State.removeJob; simp

@[simp] theorem State.removeJob_al (j : Job) (e : Ending) :
    (s.removeJob j e).al = s.al := by
  unfold State.removeJob; simp

@[simp] theorem State.removeJob_draws (j : Job) (e : Ending) :
    (s.removeJob j e).draws = s.draws := by
  unfold State.removeJob; simp

@[simp] theorem State.removeJob_pending (j : Job) (e : Ending) :
    (s.removeJob j e).pending = s.pending := by
  unfold State.removeJob; simp

@[simp] theorem State.discardOpen_ti (n : PortNo) :
    (s.discardOpen n).ti = s.ti := by
  unfold State.discardOpen; (repeat' split) <;> simp

@[simp] theorem State.discardOpen_pr (n : PortNo) :
    (s.discardOpen n).pr = s.pr := by
  unfold State.discardOpen; (repeat' split) <;> simp

@[simp] theorem State.discardOpen_pe (n : PortNo) :
    (s.discardOpen n).pe = s.pe := by
  unfold State.discardOpen; (repeat' split) <;> simp

@[simp] theorem State.discardOpen_hm (n : PortNo) :
    (s.discardOpen n).hm = s.hm := by
  unfold State.discardOpen; (repeat' split) <;> simp

@[simp] theorem State.discardOpen_al (n : PortNo) :
    (s.discardOpen n).al = s.al := by
  unfold State.discardOpen; (repeat' split) <;> simp

@[simp] theorem State.discardOpen_draws (n : PortNo) :
    (s.discardOpen n).draws = s.draws := by
  unfold State.discardOpen; (repeat' split) <;> simp

@[simp] theorem State.discardOpen_pending (n : PortNo) :
    (s.discardOpen n).pending = s.pending := by
  unfold State.discardOpen; (repeat' split) <;> simp

@[simp] theorem State.enqueue_sd (j : Job) :
    (s.enqueue j).sd = s.sd := by
  unfold State.enqueue; simp

@[simp] theorem State.enqueue_ti (j : Job) :
    (s.enqueue j).ti = s.ti := by
  unfold State.enqueue; simp

@[simp] theorem State.enqueue_pr (j : Job) :
    (s.enqueue j).pr = s.pr := by
  unfold State.enqueue; simp

@[simp] theorem State.enqueue_pe (j : Job) :
    (s.enqueue j).pe = s.pe := by
  unfold State.enqueue; simp

@[simp] theorem State.enqueue_hm (j : Job) :
    (s.enqueue j).hm = s.hm := by
  unfold State.enqueue; simp

@[simp] theorem State.enqueue_au (j : Job) :
    (s.enqueue j).au = s.au := by
  unfold State.enqueue; simp

@[simp] theorem State.enqueue_al (j : Job) :
    (s.enqueue j).al = s.al := by
  unfold State.enqueue; simp

@[simp] theorem State.enqueue_draws (j : Job) :
    (s.enqueue j).draws = s.draws := by
  unfold State.enqueue; simp

@[simp] theorem State.enqueue_pending (j : Job) :
    (s.enqueue j).pending = s.pending := by
  unfold State.enqueue; simp

/-! ### The engine -/

@[simp] theorem State.tryStrobe_sd :
    (s.tryStrobe).sd = s.sd := by
  unfold State.tryStrobe; (repeat' split) <;> simp

@[simp] theorem State.tryStrobe_ti :
    (s.tryStrobe).ti = s.ti := by
  unfold State.tryStrobe; (repeat' split) <;> simp

@[simp] theorem State.tryStrobe_pr :
    (s.tryStrobe).pr = s.pr := by
  unfold State.tryStrobe; (repeat' split) <;> simp

@[simp] theorem State.tryStrobe_ports :
    (s.tryStrobe).ports = s.ports := by
  unfold State.tryStrobe; (repeat' split) <;> simp

@[simp] theorem State.tryStrobe_sm :
    (s.tryStrobe).sm = s.sm := by
  unfold State.tryStrobe; (repeat' split) <;> simp

@[simp] theorem State.tryStrobe_hm :
    (s.tryStrobe).hm = s.hm := by
  unfold State.tryStrobe; (repeat' split) <;> simp

@[simp] theorem State.tryStrobe_au :
    (s.tryStrobe).au = s.au := by
  unfold State.tryStrobe; (repeat' split) <;> simp

@[simp] theorem State.tryStrobe_al :
    (s.tryStrobe).al = s.al := by
  unfold State.tryStrobe; (repeat' split) <;> simp

@[simp] theorem State.tryStrobe_draws :
    (s.tryStrobe).draws = s.draws := by
  unfold State.tryStrobe; (repeat' split) <;> simp

@[simp] theorem State.tryStrobe_pending :
    (s.tryStrobe).pending = s.pending := by
  unfold State.tryStrobe; (repeat' split) <;> simp

@[simp] theorem State.stall_sd (r : StallReason) :
    (s.stall r).sd = s.sd := by
  unfold State.stall; simp

@[simp] theorem State.stall_ti (r : StallReason) :
    (s.stall r).ti = s.ti := by
  unfold State.stall; simp

@[simp] theorem State.stall_pr (r : StallReason) :
    (s.stall r).pr = s.pr := by
  unfold State.stall; simp

@[simp] theorem State.stall_ports (r : StallReason) :
    (s.stall r).ports = s.ports := by
  unfold State.stall; simp

@[simp] theorem State.stall_sm (r : StallReason) :
    (s.stall r).sm = s.sm := by
  unfold State.stall; simp

@[simp] theorem State.stall_hm (r : StallReason) :
    (s.stall r).hm = s.hm := by
  unfold State.stall; simp

@[simp] theorem State.stall_au (r : StallReason) :
    (s.stall r).au = s.au := by
  unfold State.stall; simp

@[simp] theorem State.stall_al (r : StallReason) :
    (s.stall r).al = s.al := by
  unfold State.stall; simp

@[simp] theorem State.stall_draws (r : StallReason) :
    (s.stall r).draws = s.draws := by
  unfold State.stall; simp

@[simp] theorem State.stall_pending (r : StallReason) :
    (s.stall r).pending = s.pending := by
  unfold State.stall; simp

@[simp] theorem State.characterDue_sd :
    (s.characterDue).sd = s.sd := by
  unfold State.characterDue; (repeat' split) <;> simp

@[simp] theorem State.characterDue_ti :
    (s.characterDue).ti = s.ti := by
  unfold State.characterDue; (repeat' split) <;> simp

@[simp] theorem State.characterDue_pr :
    (s.characterDue).pr = s.pr := by
  unfold State.characterDue; (repeat' split) <;> simp

@[simp] theorem State.characterDue_ports :
    (s.characterDue).ports = s.ports := by
  unfold State.characterDue; (repeat' split) <;> simp

@[simp] theorem State.characterDue_sm :
    (s.characterDue).sm = s.sm := by
  unfold State.characterDue; (repeat' split) <;> simp

@[simp] theorem State.characterDue_hm :
    (s.characterDue).hm = s.hm := by
  unfold State.characterDue; (repeat' split) <;> simp

@[simp] theorem State.characterDue_au :
    (s.characterDue).au = s.au := by
  unfold State.characterDue; (repeat' split) <;> simp

@[simp] theorem State.characterDue_al :
    (s.characterDue).al = s.al := by
  unfold State.characterDue; (repeat' split) <;> simp

@[simp] theorem State.characterDue_draws :
    (s.characterDue).draws = s.draws := by
  unfold State.characterDue; (repeat' split) <;> simp

@[simp] theorem State.characterDue_pending :
    (s.characterDue).pending = s.pending := by
  unfold State.characterDue; (repeat' split) <;> simp

@[simp] theorem State.copyStart_sd (id : Nat) :
    (s.copyStart id).sd = s.sd := by
  unfold State.copyStart; simp

@[simp] theorem State.copyStart_ti (id : Nat) :
    (s.copyStart id).ti = s.ti := by
  unfold State.copyStart; simp

@[simp] theorem State.copyStart_pr (id : Nat) :
    (s.copyStart id).pr = s.pr := by
  unfold State.copyStart; simp

@[simp] theorem State.copyStart_ports (id : Nat) :
    (s.copyStart id).ports = s.ports := by
  unfold State.copyStart; simp

@[simp] theorem State.copyStart_hm (id : Nat) :
    (s.copyStart id).hm = s.hm := by
  unfold State.copyStart; simp

@[simp] theorem State.copyStart_au (id : Nat) :
    (s.copyStart id).au = s.au := by
  unfold State.copyStart; simp

@[simp] theorem State.copyStart_al (id : Nat) :
    (s.copyStart id).al = s.al := by
  unfold State.copyStart; simp

@[simp] theorem State.copyStart_draws (id : Nat) :
    (s.copyStart id).draws = s.draws := by
  unfold State.copyStart; simp

@[simp] theorem State.copyStart_pending (id : Nat) :
    (s.copyStart id).pending = s.pending := by
  unfold State.copyStart; simp

@[simp] theorem State.toPageMark_sd (id : Nat) :
    (s.toPageMark id).sd = s.sd := by
  unfold State.toPageMark; simp

@[simp] theorem State.toPageMark_ti (id : Nat) :
    (s.toPageMark id).ti = s.ti := by
  unfold State.toPageMark; simp

@[simp] theorem State.toPageMark_pr (id : Nat) :
    (s.toPageMark id).pr = s.pr := by
  unfold State.toPageMark; simp

@[simp] theorem State.toPageMark_ports (id : Nat) :
    (s.toPageMark id).ports = s.ports := by
  unfold State.toPageMark; simp

@[simp] theorem State.toPageMark_hm (id : Nat) :
    (s.toPageMark id).hm = s.hm := by
  unfold State.toPageMark; simp

@[simp] theorem State.toPageMark_au (id : Nat) :
    (s.toPageMark id).au = s.au := by
  unfold State.toPageMark; simp

@[simp] theorem State.toPageMark_al (id : Nat) :
    (s.toPageMark id).al = s.al := by
  unfold State.toPageMark; simp

@[simp] theorem State.toPageMark_draws (id : Nat) :
    (s.toPageMark id).draws = s.draws := by
  unfold State.toPageMark; simp

@[simp] theorem State.toPageMark_pending (id : Nat) :
    (s.toPageMark id).pending = s.pending := by
  unfold State.toPageMark; simp

@[simp] theorem State.enterRunning_sd :
    (s.enterRunning).sd = s.sd := by
  unfold State.enterRunning; (repeat' split) <;> simp

@[simp] theorem State.enterRunning_ti :
    (s.enterRunning).ti = s.ti := by
  unfold State.enterRunning; (repeat' split) <;> simp

@[simp] theorem State.enterRunning_pr :
    (s.enterRunning).pr = s.pr := by
  unfold State.enterRunning; (repeat' split) <;> simp

@[simp] theorem State.enterRunning_ports :
    (s.enterRunning).ports = s.ports := by
  unfold State.enterRunning; (repeat' split) <;> simp

@[simp] theorem State.enterRunning_hm :
    (s.enterRunning).hm = s.hm := by
  unfold State.enterRunning; (repeat' split) <;> simp

@[simp] theorem State.enterRunning_au :
    (s.enterRunning).au = s.au := by
  unfold State.enterRunning; (repeat' split) <;> simp

@[simp] theorem State.enterRunning_al :
    (s.enterRunning).al = s.al := by
  unfold State.enterRunning; (repeat' split) <;> simp

@[simp] theorem State.enterRunning_draws :
    (s.enterRunning).draws = s.draws := by
  unfold State.enterRunning; (repeat' split) <;> simp

@[simp] theorem State.enterRunning_pending :
    (s.enterRunning).pending = s.pending := by
  unfold State.enterRunning; (repeat' split) <;> simp

@[simp] theorem State.select_sd (j : Job) :
    (s.select j).sd = s.sd := by
  unfold State.select; (repeat' split) <;> simp

@[simp] theorem State.select_ti (j : Job) :
    (s.select j).ti = s.ti := by
  unfold State.select; (repeat' split) <;> simp

@[simp] theorem State.select_pr (j : Job) :
    (s.select j).pr = s.pr := by
  unfold State.select; (repeat' split) <;> simp

@[simp] theorem State.select_hm (j : Job) :
    (s.select j).hm = s.hm := by
  unfold State.select; (repeat' split) <;> simp

@[simp] theorem State.select_au (j : Job) :
    (s.select j).au = s.au := by
  unfold State.select; (repeat' split) <;> simp

@[simp] theorem State.select_al (j : Job) :
    (s.select j).al = s.al := by
  unfold State.select; (repeat' split) <;> simp

@[simp] theorem State.select_draws (j : Job) :
    (s.select j).draws = s.draws := by
  unfold State.select; (repeat' split) <;> simp

@[simp] theorem State.select_pending (j : Job) :
    (s.select j).pending = s.pending := by
  unfold State.select; (repeat' split) <;> simp

@[simp] theorem State.selectIfIdle_sd :
    (s.selectIfIdle).sd = s.sd := by
  unfold State.selectIfIdle; (repeat' split) <;> simp

@[simp] theorem State.selectIfIdle_ti :
    (s.selectIfIdle).ti = s.ti := by
  unfold State.selectIfIdle; (repeat' split) <;> simp

@[simp] theorem State.selectIfIdle_pr :
    (s.selectIfIdle).pr = s.pr := by
  unfold State.selectIfIdle; (repeat' split) <;> simp

@[simp] theorem State.selectIfIdle_hm :
    (s.selectIfIdle).hm = s.hm := by
  unfold State.selectIfIdle; (repeat' split) <;> simp

@[simp] theorem State.selectIfIdle_au :
    (s.selectIfIdle).au = s.au := by
  unfold State.selectIfIdle; (repeat' split) <;> simp

@[simp] theorem State.selectIfIdle_al :
    (s.selectIfIdle).al = s.al := by
  unfold State.selectIfIdle; (repeat' split) <;> simp

@[simp] theorem State.selectIfIdle_draws :
    (s.selectIfIdle).draws = s.draws := by
  unfold State.selectIfIdle; (repeat' split) <;> simp

@[simp] theorem State.selectIfIdle_pending :
    (s.selectIfIdle).pending = s.pending := by
  unfold State.selectIfIdle; (repeat' split) <;> simp

@[simp] theorem State.enterByReadiness_sd :
    (s.enterByReadiness).sd = s.sd := by
  unfold State.enterByReadiness; simp

@[simp] theorem State.enterByReadiness_ti :
    (s.enterByReadiness).ti = s.ti := by
  unfold State.enterByReadiness; simp

@[simp] theorem State.enterByReadiness_pr :
    (s.enterByReadiness).pr = s.pr := by
  unfold State.enterByReadiness; simp

@[simp] theorem State.enterByReadiness_hm :
    (s.enterByReadiness).hm = s.hm := by
  unfold State.enterByReadiness; simp

@[simp] theorem State.enterByReadiness_au :
    (s.enterByReadiness).au = s.au := by
  unfold State.enterByReadiness; simp

@[simp] theorem State.enterByReadiness_al :
    (s.enterByReadiness).al = s.al := by
  unfold State.enterByReadiness; simp

@[simp] theorem State.enterByReadiness_draws :
    (s.enterByReadiness).draws = s.draws := by
  unfold State.enterByReadiness; simp

@[simp] theorem State.enterByReadiness_pending :
    (s.enterByReadiness).pending = s.pending := by
  unfold State.enterByReadiness; simp

@[simp] theorem State.reportEngine_sd (b : EngineState) :
    (s.reportEngine b).sd = s.sd := by
  unfold State.reportEngine; (repeat' split) <;> simp

@[simp] theorem State.reportEngine_ti (b : EngineState) :
    (s.reportEngine b).ti = s.ti := by
  unfold State.reportEngine; (repeat' split) <;> simp

@[simp] theorem State.reportEngine_pr (b : EngineState) :
    (s.reportEngine b).pr = s.pr := by
  unfold State.reportEngine; (repeat' split) <;> simp

@[simp] theorem State.reportEngine_ports (b : EngineState) :
    (s.reportEngine b).ports = s.ports := by
  unfold State.reportEngine; (repeat' split) <;> simp

@[simp] theorem State.reportEngine_sm (b : EngineState) :
    (s.reportEngine b).sm = s.sm := by
  unfold State.reportEngine; (repeat' split) <;> simp

@[simp] theorem State.reportEngine_pe (b : EngineState) :
    (s.reportEngine b).pe = s.pe := by
  unfold State.reportEngine; (repeat' split) <;> simp

@[simp] theorem State.reportEngine_hm (b : EngineState) :
    (s.reportEngine b).hm = s.hm := by
  unfold State.reportEngine; (repeat' split) <;> simp

@[simp] theorem State.reportEngine_al (b : EngineState) :
    (s.reportEngine b).al = s.al := by
  unfold State.reportEngine; (repeat' split) <;> simp

@[simp] theorem State.reportEngine_draws (b : EngineState) :
    (s.reportEngine b).draws = s.draws := by
  unfold State.reportEngine; (repeat' split) <;> simp

@[simp] theorem State.reportEngine_pending (b : EngineState) :
    (s.reportEngine b).pending = s.pending := by
  unfold State.reportEngine; (repeat' split) <;> simp

@[simp] theorem State.proceed_sd :
    (s.proceed).sd = s.sd := by
  unfold State.proceed; (repeat' split) <;> simp

@[simp] theorem State.proceed_ti :
    (s.proceed).ti = s.ti := by
  unfold State.proceed; (repeat' split) <;> simp

@[simp] theorem State.proceed_pr :
    (s.proceed).pr = s.pr := by
  unfold State.proceed; (repeat' split) <;> simp

@[simp] theorem State.proceed_hm :
    (s.proceed).hm = s.hm := by
  unfold State.proceed; (repeat' split) <;> simp

@[simp] theorem State.proceed_au :
    (s.proceed).au = s.au := by
  unfold State.proceed; (repeat' split) <;> simp

@[simp] theorem State.proceed_al :
    (s.proceed).al = s.al := by
  unfold State.proceed; (repeat' split) <;> simp

@[simp] theorem State.proceed_draws :
    (s.proceed).draws = s.draws := by
  unfold State.proceed; (repeat' split) <;> simp

@[simp] theorem State.proceed_pending :
    (s.proceed).pending = s.pending := by
  unfold State.proceed; (repeat' split) <;> simp

@[simp] theorem State.endJob_ti (e : Ending) :
    (s.endJob e).ti = s.ti := by
  unfold State.endJob; (repeat' split) <;> simp

@[simp] theorem State.endJob_pr (e : Ending) :
    (s.endJob e).pr = s.pr := by
  unfold State.endJob; (repeat' split) <;> simp

@[simp] theorem State.endJob_hm (e : Ending) :
    (s.endJob e).hm = s.hm := by
  unfold State.endJob; (repeat' split) <;> simp

@[simp] theorem State.endJob_al (e : Ending) :
    (s.endJob e).al = s.al := by
  unfold State.endJob; (repeat' split) <;> simp

@[simp] theorem State.endJob_draws (e : Ending) :
    (s.endJob e).draws = s.draws := by
  unfold State.endJob; (repeat' split) <;> simp

@[simp] theorem State.endJob_pending (e : Ending) :
    (s.endJob e).pending = s.pending := by
  unfold State.endJob; (repeat' split) <;> simp

@[simp] theorem State.returnToQueue_sd :
    (s.returnToQueue).sd = s.sd := by
  unfold State.returnToQueue; (repeat' split) <;> simp

@[simp] theorem State.returnToQueue_ti :
    (s.returnToQueue).ti = s.ti := by
  unfold State.returnToQueue; (repeat' split) <;> simp

@[simp] theorem State.returnToQueue_pr :
    (s.returnToQueue).pr = s.pr := by
  unfold State.returnToQueue; (repeat' split) <;> simp

@[simp] theorem State.returnToQueue_hm :
    (s.returnToQueue).hm = s.hm := by
  unfold State.returnToQueue; (repeat' split) <;> simp

@[simp] theorem State.returnToQueue_au :
    (s.returnToQueue).au = s.au := by
  unfold State.returnToQueue; (repeat' split) <;> simp

@[simp] theorem State.returnToQueue_al :
    (s.returnToQueue).al = s.al := by
  unfold State.returnToQueue; (repeat' split) <;> simp

@[simp] theorem State.returnToQueue_draws :
    (s.returnToQueue).draws = s.draws := by
  unfold State.returnToQueue; (repeat' split) <;> simp

@[simp] theorem State.returnToQueue_pending :
    (s.returnToQueue).pending = s.pending := by
  unfold State.returnToQueue; (repeat' split) <;> simp

@[simp] theorem State.afterHandshake_sd (u : Option StallReason) :
    (s.afterHandshake u).sd = s.sd := by
  unfold State.afterHandshake; (repeat' split) <;> simp

@[simp] theorem State.afterHandshake_ti (u : Option StallReason) :
    (s.afterHandshake u).ti = s.ti := by
  unfold State.afterHandshake; (repeat' split) <;> simp

@[simp] theorem State.afterHandshake_pr (u : Option StallReason) :
    (s.afterHandshake u).pr = s.pr := by
  unfold State.afterHandshake; (repeat' split) <;> simp

@[simp] theorem State.afterHandshake_hm (u : Option StallReason) :
    (s.afterHandshake u).hm = s.hm := by
  unfold State.afterHandshake; (repeat' split) <;> simp

@[simp] theorem State.afterHandshake_au (u : Option StallReason) :
    (s.afterHandshake u).au = s.au := by
  unfold State.afterHandshake; (repeat' split) <;> simp

@[simp] theorem State.afterHandshake_al (u : Option StallReason) :
    (s.afterHandshake u).al = s.al := by
  unfold State.afterHandshake; (repeat' split) <;> simp

@[simp] theorem State.afterHandshake_draws (u : Option StallReason) :
    (s.afterHandshake u).draws = s.draws := by
  unfold State.afterHandshake; (repeat' split) <;> simp

@[simp] theorem State.afterHandshake_pending (u : Option StallReason) :
    (s.afterHandshake u).pending = s.pending := by
  unfold State.afterHandshake; (repeat' split) <;> simp

@[simp] theorem State.copyEnd_ti (j : Job) :
    (s.copyEnd j).ti = s.ti := by
  unfold State.copyEnd; (repeat' split) <;> simp

@[simp] theorem State.copyEnd_pr (j : Job) :
    (s.copyEnd j).pr = s.pr := by
  unfold State.copyEnd; (repeat' split) <;> simp

@[simp] theorem State.copyEnd_hm (j : Job) :
    (s.copyEnd j).hm = s.hm := by
  unfold State.copyEnd; (repeat' split) <;> simp

@[simp] theorem State.copyEnd_al (j : Job) :
    (s.copyEnd j).al = s.al := by
  unfold State.copyEnd; (repeat' split) <;> simp

@[simp] theorem State.copyEnd_draws (j : Job) :
    (s.copyEnd j).draws = s.draws := by
  unfold State.copyEnd; (repeat' split) <;> simp

@[simp] theorem State.copyEnd_pending (j : Job) :
    (s.copyEnd j).pending = s.pending := by
  unfold State.copyEnd; (repeat' split) <;> simp

@[simp] theorem State.textTaken_ti (j : Job) (p : Position) :
    (s.textTaken j p).ti = s.ti := by
  unfold State.textTaken; (repeat' split) <;> (try dsimp only) <;> (repeat' split) <;> simp

@[simp] theorem State.textTaken_pr (j : Job) (p : Position) :
    (s.textTaken j p).pr = s.pr := by
  unfold State.textTaken; (repeat' split) <;> (try dsimp only) <;> (repeat' split) <;> simp

@[simp] theorem State.textTaken_hm (j : Job) (p : Position) :
    (s.textTaken j p).hm = s.hm := by
  unfold State.textTaken; (repeat' split) <;> (try dsimp only) <;> (repeat' split) <;> simp

@[simp] theorem State.textTaken_al (j : Job) (p : Position) :
    (s.textTaken j p).al = s.al := by
  unfold State.textTaken; (repeat' split) <;> (try dsimp only) <;> (repeat' split) <;> simp

@[simp] theorem State.textTaken_draws (j : Job) (p : Position) :
    (s.textTaken j p).draws = s.draws := by
  unfold State.textTaken; (repeat' split) <;> (try dsimp only) <;> (repeat' split) <;> simp

@[simp] theorem State.textTaken_pending (j : Job) (p : Position) :
    (s.textTaken j p).pending = s.pending := by
  unfold State.textTaken; (repeat' split) <;> (try dsimp only) <;> (repeat' split) <;> simp

@[simp] theorem State.handshakeEnds_sd :
    (s.handshakeEnds).sd = s.sd := by
  unfold State.handshakeEnds; simp

@[simp] theorem State.handshakeEnds_ti :
    (s.handshakeEnds).ti = s.ti := by
  unfold State.handshakeEnds; simp

@[simp] theorem State.handshakeEnds_pr :
    (s.handshakeEnds).pr = s.pr := by
  unfold State.handshakeEnds; simp

@[simp] theorem State.handshakeEnds_ports :
    (s.handshakeEnds).ports = s.ports := by
  unfold State.handshakeEnds; simp

@[simp] theorem State.handshakeEnds_sm :
    (s.handshakeEnds).sm = s.sm := by
  unfold State.handshakeEnds; simp

@[simp] theorem State.handshakeEnds_hm :
    (s.handshakeEnds).hm = s.hm := by
  unfold State.handshakeEnds; simp

@[simp] theorem State.handshakeEnds_au :
    (s.handshakeEnds).au = s.au := by
  unfold State.handshakeEnds; simp

@[simp] theorem State.handshakeEnds_al :
    (s.handshakeEnds).al = s.al := by
  unfold State.handshakeEnds; simp

@[simp] theorem State.handshakeEnds_draws :
    (s.handshakeEnds).draws = s.draws := by
  unfold State.handshakeEnds; simp

@[simp] theorem State.handshakeEnds_pending :
    (s.handshakeEnds).pending = s.pending := by
  unfold State.handshakeEnds; simp

@[simp] theorem State.characterTaken_ti :
    (s.characterTaken).ti = s.ti := by
  unfold State.characterTaken; (repeat' split) <;> (try dsimp only) <;> (repeat' split) <;> simp

@[simp] theorem State.characterTaken_pr :
    (s.characterTaken).pr = s.pr := by
  unfold State.characterTaken; (repeat' split) <;> (try dsimp only) <;> (repeat' split) <;> simp

@[simp] theorem State.characterTaken_hm :
    (s.characterTaken).hm = s.hm := by
  unfold State.characterTaken; (repeat' split) <;> (try dsimp only) <;> (repeat' split) <;> simp

@[simp] theorem State.characterTaken_al :
    (s.characterTaken).al = s.al := by
  unfold State.characterTaken; (repeat' split) <;> (try dsimp only) <;> (repeat' split) <;> simp

@[simp] theorem State.characterTaken_draws :
    (s.characterTaken).draws = s.draws := by
  unfold State.characterTaken; (repeat' split) <;> (try dsimp only) <;> (repeat' split) <;> simp

@[simp] theorem State.characterTaken_pending :
    (s.characterTaken).pending = s.pending := by
  unfold State.characterTaken; (repeat' split) <;> (try dsimp only) <;> (repeat' split) <;> simp

@[simp] theorem State.characterLost_ti :
    (s.characterLost).ti = s.ti := by
  unfold State.characterLost; (repeat' split) <;> simp

@[simp] theorem State.characterLost_pr :
    (s.characterLost).pr = s.pr := by
  unfold State.characterLost; (repeat' split) <;> simp

@[simp] theorem State.characterLost_hm :
    (s.characterLost).hm = s.hm := by
  unfold State.characterLost; (repeat' split) <;> simp

@[simp] theorem State.characterLost_al :
    (s.characterLost).al = s.al := by
  unfold State.characterLost; (repeat' split) <;> simp

@[simp] theorem State.characterLost_draws :
    (s.characterLost).draws = s.draws := by
  unfold State.characterLost; (repeat' split) <;> simp

@[simp] theorem State.characterLost_pending :
    (s.characterLost).pending = s.pending := by
  unfold State.characterLost; (repeat' split) <;> simp

@[simp] theorem State.stopEngine_ti :
    (s.stopEngine).ti = s.ti := by
  unfold State.stopEngine; (repeat' split) <;> simp

@[simp] theorem State.stopEngine_pr :
    (s.stopEngine).pr = s.pr := by
  unfold State.stopEngine; (repeat' split) <;> simp

@[simp] theorem State.stopEngine_hm :
    (s.stopEngine).hm = s.hm := by
  unfold State.stopEngine; (repeat' split) <;> simp

@[simp] theorem State.stopEngine_al :
    (s.stopEngine).al = s.al := by
  unfold State.stopEngine; (repeat' split) <;> simp

@[simp] theorem State.stopEngine_draws :
    (s.stopEngine).draws = s.draws := by
  unfold State.stopEngine; (repeat' split) <;> simp

@[simp] theorem State.stopEngine_pending :
    (s.stopEngine).pending = s.pending := by
  unfold State.stopEngine; (repeat' split) <;> simp

@[simp] theorem State.disableEngine_sd :
    (s.disableEngine).sd = s.sd := by
  unfold State.disableEngine; (repeat' split) <;> simp

@[simp] theorem State.disableEngine_ti :
    (s.disableEngine).ti = s.ti := by
  unfold State.disableEngine; (repeat' split) <;> simp

@[simp] theorem State.disableEngine_pr :
    (s.disableEngine).pr = s.pr := by
  unfold State.disableEngine; (repeat' split) <;> simp

@[simp] theorem State.disableEngine_hm :
    (s.disableEngine).hm = s.hm := by
  unfold State.disableEngine; (repeat' split) <;> simp

@[simp] theorem State.disableEngine_al :
    (s.disableEngine).al = s.al := by
  unfold State.disableEngine; (repeat' split) <;> simp

@[simp] theorem State.disableEngine_draws :
    (s.disableEngine).draws = s.draws := by
  unfold State.disableEngine; (repeat' split) <;> simp

@[simp] theorem State.disableEngine_pending :
    (s.disableEngine).pending = s.pending := by
  unfold State.disableEngine; (repeat' split) <;> simp

@[simp] theorem State.enableEngine_sd :
    (s.enableEngine).sd = s.sd := by
  unfold State.enableEngine; (repeat' split) <;> simp

@[simp] theorem State.enableEngine_ti :
    (s.enableEngine).ti = s.ti := by
  unfold State.enableEngine; (repeat' split) <;> simp

@[simp] theorem State.enableEngine_pr :
    (s.enableEngine).pr = s.pr := by
  unfold State.enableEngine; (repeat' split) <;> simp

@[simp] theorem State.enableEngine_hm :
    (s.enableEngine).hm = s.hm := by
  unfold State.enableEngine; (repeat' split) <;> simp

@[simp] theorem State.enableEngine_al :
    (s.enableEngine).al = s.al := by
  unfold State.enableEngine; (repeat' split) <;> simp

@[simp] theorem State.enableEngine_draws :
    (s.enableEngine).draws = s.draws := by
  unfold State.enableEngine; (repeat' split) <;> simp

@[simp] theorem State.enableEngine_pending :
    (s.enableEngine).pending = s.pending := by
  unfold State.enableEngine; (repeat' split) <;> simp

@[simp] theorem State.offerJobs_sd :
    (s.offerJobs).sd = s.sd := by
  unfold State.offerJobs; simp

@[simp] theorem State.offerJobs_ti :
    (s.offerJobs).ti = s.ti := by
  unfold State.offerJobs; simp

@[simp] theorem State.offerJobs_pr :
    (s.offerJobs).pr = s.pr := by
  unfold State.offerJobs; simp

@[simp] theorem State.offerJobs_hm :
    (s.offerJobs).hm = s.hm := by
  unfold State.offerJobs; simp

@[simp] theorem State.offerJobs_al :
    (s.offerJobs).al = s.al := by
  unfold State.offerJobs; simp

@[simp] theorem State.offerJobs_draws :
    (s.offerJobs).draws = s.draws := by
  unfold State.offerJobs; simp

@[simp] theorem State.offerJobs_pending :
    (s.offerJobs).pending = s.pending := by
  unfold State.offerJobs; simp

@[simp] theorem State.resume_sd :
    (s.resume).sd = s.sd := by
  unfold State.resume; (repeat' split) <;> simp

@[simp] theorem State.resume_ti :
    (s.resume).ti = s.ti := by
  unfold State.resume; (repeat' split) <;> simp

@[simp] theorem State.resume_pr :
    (s.resume).pr = s.pr := by
  unfold State.resume; (repeat' split) <;> simp

@[simp] theorem State.resume_ports :
    (s.resume).ports = s.ports := by
  unfold State.resume; (repeat' split) <;> simp

@[simp] theorem State.resume_sm :
    (s.resume).sm = s.sm := by
  unfold State.resume; (repeat' split) <;> simp

@[simp] theorem State.resume_hm :
    (s.resume).hm = s.hm := by
  unfold State.resume; (repeat' split) <;> simp

@[simp] theorem State.resume_au :
    (s.resume).au = s.au := by
  unfold State.resume; (repeat' split) <;> simp

@[simp] theorem State.resume_al :
    (s.resume).al = s.al := by
  unfold State.resume; (repeat' split) <;> simp

@[simp] theorem State.resume_draws :
    (s.resume).draws = s.draws := by
  unfold State.resume; (repeat' split) <;> simp

@[simp] theorem State.resume_pending :
    (s.resume).pending = s.pending := by
  unfold State.resume; (repeat' split) <;> simp

@[simp] theorem State.rewind_sd :
    (s.rewind).sd = s.sd := by
  unfold State.rewind; (repeat' split) <;> simp

@[simp] theorem State.rewind_ti :
    (s.rewind).ti = s.ti := by
  unfold State.rewind; (repeat' split) <;> simp

@[simp] theorem State.rewind_pr :
    (s.rewind).pr = s.pr := by
  unfold State.rewind; (repeat' split) <;> simp

@[simp] theorem State.rewind_ports :
    (s.rewind).ports = s.ports := by
  unfold State.rewind; (repeat' split) <;> simp

@[simp] theorem State.rewind_hm :
    (s.rewind).hm = s.hm := by
  unfold State.rewind; (repeat' split) <;> simp

@[simp] theorem State.rewind_au :
    (s.rewind).au = s.au := by
  unfold State.rewind; (repeat' split) <;> simp

@[simp] theorem State.rewind_al :
    (s.rewind).al = s.al := by
  unfold State.rewind; (repeat' split) <;> simp

@[simp] theorem State.rewind_draws :
    (s.rewind).draws = s.draws := by
  unfold State.rewind; (repeat' split) <;> simp

@[simp] theorem State.rewind_pending :
    (s.rewind).pending = s.pending := by
  unfold State.rewind; (repeat' split) <;> simp

@[simp] theorem State.resumeFromMark_sd :
    (s.resumeFromMark).sd = s.sd := by
  unfold State.resumeFromMark; simp

@[simp] theorem State.resumeFromMark_ti :
    (s.resumeFromMark).ti = s.ti := by
  unfold State.resumeFromMark; simp

@[simp] theorem State.resumeFromMark_pr :
    (s.resumeFromMark).pr = s.pr := by
  unfold State.resumeFromMark; simp

@[simp] theorem State.resumeFromMark_ports :
    (s.resumeFromMark).ports = s.ports := by
  unfold State.resumeFromMark; simp

@[simp] theorem State.resumeFromMark_hm :
    (s.resumeFromMark).hm = s.hm := by
  unfold State.resumeFromMark; simp

@[simp] theorem State.resumeFromMark_au :
    (s.resumeFromMark).au = s.au := by
  unfold State.resumeFromMark; simp

@[simp] theorem State.resumeFromMark_al :
    (s.resumeFromMark).al = s.al := by
  unfold State.resumeFromMark; simp

@[simp] theorem State.resumeFromMark_draws :
    (s.resumeFromMark).draws = s.draws := by
  unfold State.resumeFromMark; simp

@[simp] theorem State.resumeFromMark_pending :
    (s.resumeFromMark).pending = s.pending := by
  unfold State.resumeFromMark; simp

@[simp] theorem State.resumeByPolicy_sd :
    (s.resumeByPolicy).sd = s.sd := by
  unfold State.resumeByPolicy; (repeat' split) <;> simp

@[simp] theorem State.resumeByPolicy_ti :
    (s.resumeByPolicy).ti = s.ti := by
  unfold State.resumeByPolicy; (repeat' split) <;> simp

@[simp] theorem State.resumeByPolicy_pr :
    (s.resumeByPolicy).pr = s.pr := by
  unfold State.resumeByPolicy; (repeat' split) <;> simp

@[simp] theorem State.resumeByPolicy_ports :
    (s.resumeByPolicy).ports = s.ports := by
  unfold State.resumeByPolicy; (repeat' split) <;> simp

@[simp] theorem State.resumeByPolicy_hm :
    (s.resumeByPolicy).hm = s.hm := by
  unfold State.resumeByPolicy; (repeat' split) <;> simp

@[simp] theorem State.resumeByPolicy_au :
    (s.resumeByPolicy).au = s.au := by
  unfold State.resumeByPolicy; (repeat' split) <;> simp

@[simp] theorem State.resumeByPolicy_al :
    (s.resumeByPolicy).al = s.al := by
  unfold State.resumeByPolicy; (repeat' split) <;> simp

@[simp] theorem State.resumeByPolicy_draws :
    (s.resumeByPolicy).draws = s.draws := by
  unfold State.resumeByPolicy; (repeat' split) <;> simp

@[simp] theorem State.resumeByPolicy_pending :
    (s.resumeByPolicy).pending = s.pending := by
  unfold State.resumeByPolicy; (repeat' split) <;> simp

@[simp] theorem State.resumePrinter_sd :
    (s.resumePrinter).sd = s.sd := by
  unfold State.resumePrinter; (repeat' split) <;> simp

@[simp] theorem State.resumePrinter_ti :
    (s.resumePrinter).ti = s.ti := by
  unfold State.resumePrinter; (repeat' split) <;> simp

@[simp] theorem State.resumePrinter_pr :
    (s.resumePrinter).pr = s.pr := by
  unfold State.resumePrinter; (repeat' split) <;> simp

@[simp] theorem State.resumePrinter_ports :
    (s.resumePrinter).ports = s.ports := by
  unfold State.resumePrinter; (repeat' split) <;> simp

@[simp] theorem State.resumePrinter_hm :
    (s.resumePrinter).hm = s.hm := by
  unfold State.resumePrinter; (repeat' split) <;> simp

@[simp] theorem State.resumePrinter_al :
    (s.resumePrinter).al = s.al := by
  unfold State.resumePrinter; (repeat' split) <;> simp

@[simp] theorem State.resumePrinter_draws :
    (s.resumePrinter).draws = s.draws := by
  unfold State.resumePrinter; (repeat' split) <;> simp

@[simp] theorem State.resumePrinter_pending :
    (s.resumePrinter).pending = s.pending := by
  unfold State.resumePrinter; (repeat' split) <;> simp

@[simp] theorem State.lineChanged_sd (l : PrinterLine) (h : Bool) :
    (s.lineChanged l h).sd = s.sd := by
  unfold State.lineChanged; (repeat' split) <;> (try dsimp only) <;> (repeat' split) <;> simp

@[simp] theorem State.lineChanged_ti (l : PrinterLine) (h : Bool) :
    (s.lineChanged l h).ti = s.ti := by
  unfold State.lineChanged; (repeat' split) <;> (try dsimp only) <;> (repeat' split) <;> simp

@[simp] theorem State.lineChanged_pr (l : PrinterLine) (h : Bool) :
    (s.lineChanged l h).pr = s.pr := by
  unfold State.lineChanged; (repeat' split) <;> (try dsimp only) <;> (repeat' split) <;> simp

@[simp] theorem State.lineChanged_hm (l : PrinterLine) (h : Bool) :
    (s.lineChanged l h).hm = s.hm := by
  unfold State.lineChanged; (repeat' split) <;> (try dsimp only) <;> (repeat' split) <;> simp

@[simp] theorem State.lineChanged_au (l : PrinterLine) (h : Bool) :
    (s.lineChanged l h).au = s.au := by
  unfold State.lineChanged; (repeat' split) <;> (try dsimp only) <;> (repeat' split) <;> simp

@[simp] theorem State.lineChanged_al (l : PrinterLine) (h : Bool) :
    (s.lineChanged l h).al = s.al := by
  unfold State.lineChanged; (repeat' split) <;> (try dsimp only) <;> (repeat' split) <;> simp

@[simp] theorem State.lineChanged_draws (l : PrinterLine) (h : Bool) :
    (s.lineChanged l h).draws = s.draws := by
  unfold State.lineChanged; (repeat' split) <;> (try dsimp only) <;> (repeat' split) <;> simp

@[simp] theorem State.lineChanged_pending (l : PrinterLine) (h : Bool) :
    (s.lineChanged l h).pending = s.pending := by
  unfold State.lineChanged; (repeat' split) <;> (try dsimp only) <;> (repeat' split) <;> simp

@[simp] theorem State.grantChanged_sd (h : Bool) :
    (s.grantChanged h).sd = s.sd := by
  unfold State.grantChanged; (repeat' split) <;> simp

@[simp] theorem State.grantChanged_ti (h : Bool) :
    (s.grantChanged h).ti = s.ti := by
  unfold State.grantChanged; (repeat' split) <;> simp

@[simp] theorem State.grantChanged_pr (h : Bool) :
    (s.grantChanged h).pr = s.pr := by
  unfold State.grantChanged; (repeat' split) <;> simp

@[simp] theorem State.grantChanged_ports (h : Bool) :
    (s.grantChanged h).ports = s.ports := by
  unfold State.grantChanged; (repeat' split) <;> simp

@[simp] theorem State.grantChanged_hm (h : Bool) :
    (s.grantChanged h).hm = s.hm := by
  unfold State.grantChanged; (repeat' split) <;> simp

@[simp] theorem State.grantChanged_au (h : Bool) :
    (s.grantChanged h).au = s.au := by
  unfold State.grantChanged; (repeat' split) <;> simp

@[simp] theorem State.grantChanged_al (h : Bool) :
    (s.grantChanged h).al = s.al := by
  unfold State.grantChanged; (repeat' split) <;> simp

@[simp] theorem State.grantChanged_draws (h : Bool) :
    (s.grantChanged h).draws = s.draws := by
  unfold State.grantChanged; (repeat' split) <;> simp

@[simp] theorem State.grantChanged_pending (h : Bool) :
    (s.grantChanged h).pending = s.pending := by
  unfold State.grantChanged; (repeat' split) <;> simp

/-! ### Submissions and jobs -/

@[simp] theorem State.closeJob_ti (j : Job) :
    (s.closeJob j).ti = s.ti := by
  unfold State.closeJob; (repeat' split) <;> simp

@[simp] theorem State.closeJob_pr (j : Job) :
    (s.closeJob j).pr = s.pr := by
  unfold State.closeJob; (repeat' split) <;> simp

@[simp] theorem State.closeJob_hm (j : Job) :
    (s.closeJob j).hm = s.hm := by
  unfold State.closeJob; (repeat' split) <;> simp

@[simp] theorem State.closeJob_al (j : Job) :
    (s.closeJob j).al = s.al := by
  unfold State.closeJob; (repeat' split) <;> simp

@[simp] theorem State.closeJob_draws (j : Job) :
    (s.closeJob j).draws = s.draws := by
  unfold State.closeJob; (repeat' split) <;> simp

@[simp] theorem State.closeJob_pending (j : Job) :
    (s.closeJob j).pending = s.pending := by
  unfold State.closeJob; (repeat' split) <;> simp

@[simp] theorem State.cancelJob_ti (j : Job) :
    (s.cancelJob j).ti = s.ti := by
  unfold State.cancelJob; (repeat' split) <;> simp

@[simp] theorem State.cancelJob_pr (j : Job) :
    (s.cancelJob j).pr = s.pr := by
  unfold State.cancelJob; (repeat' split) <;> simp

@[simp] theorem State.cancelJob_hm (j : Job) :
    (s.cancelJob j).hm = s.hm := by
  unfold State.cancelJob; (repeat' split) <;> simp

@[simp] theorem State.cancelJob_al (j : Job) :
    (s.cancelJob j).al = s.al := by
  unfold State.cancelJob; (repeat' split) <;> simp

@[simp] theorem State.cancelJob_draws (j : Job) :
    (s.cancelJob j).draws = s.draws := by
  unfold State.cancelJob; (repeat' split) <;> simp

@[simp] theorem State.cancelJob_pending (j : Job) :
    (s.cancelJob j).pending = s.pending := by
  unfold State.cancelJob; (repeat' split) <;> simp

@[simp] theorem State.idleExpired_ti (j : Job) :
    (s.idleExpired j).ti = s.ti := by
  unfold State.idleExpired; (repeat' split) <;> simp

@[simp] theorem State.idleExpired_pr (j : Job) :
    (s.idleExpired j).pr = s.pr := by
  unfold State.idleExpired; (repeat' split) <;> simp

@[simp] theorem State.idleExpired_hm (j : Job) :
    (s.idleExpired j).hm = s.hm := by
  unfold State.idleExpired; (repeat' split) <;> simp

@[simp] theorem State.idleExpired_al (j : Job) :
    (s.idleExpired j).al = s.al := by
  unfold State.idleExpired; (repeat' split) <;> simp

@[simp] theorem State.idleExpired_draws (j : Job) :
    (s.idleExpired j).draws = s.draws := by
  unfold State.idleExpired; (repeat' split) <;> simp

@[simp] theorem State.idleExpired_pending (j : Job) :
    (s.idleExpired j).pending = s.pending := by
  unfold State.idleExpired; (repeat' split) <;> simp

@[simp] theorem State.printEffect_ti (src : Source) (k : Byte) (p : List Byte) :
    (s.printEffect src k p).ti = s.ti := by
  unfold State.printEffect; (repeat' split) <;> simp

@[simp] theorem State.printEffect_pr (src : Source) (k : Byte) (p : List Byte) :
    (s.printEffect src k p).pr = s.pr := by
  unfold State.printEffect; (repeat' split) <;> simp

@[simp] theorem State.printEffect_hm (src : Source) (k : Byte) (p : List Byte) :
    (s.printEffect src k p).hm = s.hm := by
  unfold State.printEffect; (repeat' split) <;> simp

@[simp] theorem State.printEffect_al (src : Source) (k : Byte) (p : List Byte) :
    (s.printEffect src k p).al = s.al := by
  unfold State.printEffect; (repeat' split) <;> simp

@[simp] theorem State.printEffect_draws (src : Source) (k : Byte) (p : List Byte) :
    (s.printEffect src k p).draws = s.draws := by
  unfold State.printEffect; (repeat' split) <;> simp

@[simp] theorem State.printEffect_pending (src : Source) (k : Byte) (p : List Byte) :
    (s.printEffect src k p).pending = s.pending := by
  unfold State.printEffect; (repeat' split) <;> simp

@[simp] theorem State.primaryClose_ti :
    (s.primaryClose).ti = s.ti := by
  unfold State.primaryClose; (repeat' split) <;> simp

@[simp] theorem State.primaryClose_pr :
    (s.primaryClose).pr = s.pr := by
  unfold State.primaryClose; (repeat' split) <;> simp

@[simp] theorem State.primaryClose_hm :
    (s.primaryClose).hm = s.hm := by
  unfold State.primaryClose; (repeat' split) <;> simp

@[simp] theorem State.primaryClose_al :
    (s.primaryClose).al = s.al := by
  unfold State.primaryClose; (repeat' split) <;> simp

@[simp] theorem State.primaryClose_draws :
    (s.primaryClose).draws = s.draws := by
  unfold State.primaryClose; (repeat' split) <;> simp

@[simp] theorem State.primaryClose_pending :
    (s.primaryClose).pending = s.pending := by
  unfold State.primaryClose; (repeat' split) <;> simp

@[simp] theorem State.setJobState_sd (j : Job) (st : JobState) (x : NoticeState) :
    (s.setJobState j st x).sd = s.sd := by
  unfold State.setJobState; simp

@[simp] theorem State.setJobState_ti (j : Job) (st : JobState) (x : NoticeState) :
    (s.setJobState j st x).ti = s.ti := by
  unfold State.setJobState; simp

@[simp] theorem State.setJobState_pr (j : Job) (st : JobState) (x : NoticeState) :
    (s.setJobState j st x).pr = s.pr := by
  unfold State.setJobState; simp

@[simp] theorem State.setJobState_pe (j : Job) (st : JobState) (x : NoticeState) :
    (s.setJobState j st x).pe = s.pe := by
  unfold State.setJobState; simp

@[simp] theorem State.setJobState_hm (j : Job) (st : JobState) (x : NoticeState) :
    (s.setJobState j st x).hm = s.hm := by
  unfold State.setJobState; simp

@[simp] theorem State.setJobState_au (j : Job) (st : JobState) (x : NoticeState) :
    (s.setJobState j st x).au = s.au := by
  unfold State.setJobState; simp

@[simp] theorem State.setJobState_al (j : Job) (st : JobState) (x : NoticeState) :
    (s.setJobState j st x).al = s.al := by
  unfold State.setJobState; simp

@[simp] theorem State.setJobState_draws (j : Job) (st : JobState) (x : NoticeState) :
    (s.setJobState j st x).draws = s.draws := by
  unfold State.setJobState; simp

@[simp] theorem State.setJobState_pending (j : Job) (st : JobState) (x : NoticeState) :
    (s.setJobState j st x).pending = s.pending := by
  unfold State.setJobState; simp

@[simp] theorem State.promote_sd (j : Job) :
    (s.promote j).sd = s.sd := by
  unfold State.promote; (repeat' split) <;> simp

@[simp] theorem State.promote_ti (j : Job) :
    (s.promote j).ti = s.ti := by
  unfold State.promote; (repeat' split) <;> simp

@[simp] theorem State.promote_pr (j : Job) :
    (s.promote j).pr = s.pr := by
  unfold State.promote; (repeat' split) <;> simp

@[simp] theorem State.promote_pe (j : Job) :
    (s.promote j).pe = s.pe := by
  unfold State.promote; (repeat' split) <;> simp

@[simp] theorem State.promote_hm (j : Job) :
    (s.promote j).hm = s.hm := by
  unfold State.promote; (repeat' split) <;> simp

@[simp] theorem State.promote_au (j : Job) :
    (s.promote j).au = s.au := by
  unfold State.promote; (repeat' split) <;> simp

@[simp] theorem State.promote_al (j : Job) :
    (s.promote j).al = s.al := by
  unfold State.promote; (repeat' split) <;> simp

@[simp] theorem State.promote_draws (j : Job) :
    (s.promote j).draws = s.draws := by
  unfold State.promote; (repeat' split) <;> simp

@[simp] theorem State.promote_pending (j : Job) :
    (s.promote j).pending = s.pending := by
  unfold State.promote; (repeat' split) <;> simp

/-! ### The trunk -/

@[simp] theorem State.reachBoundary_sd (g : Seg) :
    (s.reachBoundary g).sd = s.sd := by
  unfold State.reachBoundary; (repeat' split) <;> simp

@[simp] theorem State.reachBoundary_pr (g : Seg) :
    (s.reachBoundary g).pr = s.pr := by
  unfold State.reachBoundary; (repeat' split) <;> simp

@[simp] theorem State.reachBoundary_ports (g : Seg) :
    (s.reachBoundary g).ports = s.ports := by
  unfold State.reachBoundary; (repeat' split) <;> simp

@[simp] theorem State.reachBoundary_sm (g : Seg) :
    (s.reachBoundary g).sm = s.sm := by
  unfold State.reachBoundary; (repeat' split) <;> simp

@[simp] theorem State.reachBoundary_pe (g : Seg) :
    (s.reachBoundary g).pe = s.pe := by
  unfold State.reachBoundary; (repeat' split) <;> simp

@[simp] theorem State.reachBoundary_hm (g : Seg) :
    (s.reachBoundary g).hm = s.hm := by
  unfold State.reachBoundary; (repeat' split) <;> simp

@[simp] theorem State.reachBoundary_au (g : Seg) :
    (s.reachBoundary g).au = s.au := by
  unfold State.reachBoundary; (repeat' split) <;> simp

@[simp] theorem State.reachBoundary_al (g : Seg) :
    (s.reachBoundary g).al = s.al := by
  unfold State.reachBoundary; (repeat' split) <;> simp

@[simp] theorem State.reachBoundary_draws (g : Seg) :
    (s.reachBoundary g).draws = s.draws := by
  unfold State.reachBoundary; (repeat' split) <;> simp

@[simp] theorem State.reachBoundary_pending (g : Seg) :
    (s.reachBoundary g).pending = s.pending := by
  unfold State.reachBoundary; (repeat' split) <;> simp

@[simp] theorem State.takeUp_sd (g : Seg) :
    (s.takeUp g).sd = s.sd := by
  unfold State.takeUp; (repeat' split) <;> simp

@[simp] theorem State.takeUp_pr (g : Seg) :
    (s.takeUp g).pr = s.pr := by
  unfold State.takeUp; (repeat' split) <;> simp

@[simp] theorem State.takeUp_ports (g : Seg) :
    (s.takeUp g).ports = s.ports := by
  unfold State.takeUp; (repeat' split) <;> simp

@[simp] theorem State.takeUp_sm (g : Seg) :
    (s.takeUp g).sm = s.sm := by
  unfold State.takeUp; (repeat' split) <;> simp

@[simp] theorem State.takeUp_pe (g : Seg) :
    (s.takeUp g).pe = s.pe := by
  unfold State.takeUp; (repeat' split) <;> simp

@[simp] theorem State.takeUp_hm (g : Seg) :
    (s.takeUp g).hm = s.hm := by
  unfold State.takeUp; (repeat' split) <;> simp

@[simp] theorem State.takeUp_au (g : Seg) :
    (s.takeUp g).au = s.au := by
  unfold State.takeUp; (repeat' split) <;> simp

@[simp] theorem State.takeUp_al (g : Seg) :
    (s.takeUp g).al = s.al := by
  unfold State.takeUp; (repeat' split) <;> simp

@[simp] theorem State.takeUp_draws (g : Seg) :
    (s.takeUp g).draws = s.draws := by
  unfold State.takeUp; (repeat' split) <;> simp

@[simp] theorem State.takeUp_pending (g : Seg) :
    (s.takeUp g).pending = s.pending := by
  unfold State.takeUp; (repeat' split) <;> simp

@[simp] theorem State.takeUpBoth_sd :
    (s.takeUpBoth).sd = s.sd := by
  unfold State.takeUpBoth; (try dsimp only); split <;> simp

@[simp] theorem State.takeUpBoth_pr :
    (s.takeUpBoth).pr = s.pr := by
  unfold State.takeUpBoth; (try dsimp only); split <;> simp

@[simp] theorem State.takeUpBoth_ports :
    (s.takeUpBoth).ports = s.ports := by
  unfold State.takeUpBoth; (try dsimp only); split <;> simp

@[simp] theorem State.takeUpBoth_sm :
    (s.takeUpBoth).sm = s.sm := by
  unfold State.takeUpBoth; (try dsimp only); split <;> simp

@[simp] theorem State.takeUpBoth_pe :
    (s.takeUpBoth).pe = s.pe := by
  unfold State.takeUpBoth; (try dsimp only); split <;> simp

@[simp] theorem State.takeUpBoth_hm :
    (s.takeUpBoth).hm = s.hm := by
  unfold State.takeUpBoth; (try dsimp only); split <;> simp

@[simp] theorem State.takeUpBoth_au :
    (s.takeUpBoth).au = s.au := by
  unfold State.takeUpBoth; (try dsimp only); split <;> simp

@[simp] theorem State.takeUpBoth_al :
    (s.takeUpBoth).al = s.al := by
  unfold State.takeUpBoth; (try dsimp only); split <;> simp

@[simp] theorem State.takeUpBoth_draws :
    (s.takeUpBoth).draws = s.draws := by
  unfold State.takeUpBoth; (try dsimp only); split <;> simp

@[simp] theorem State.takeUpBoth_pending :
    (s.takeUpBoth).pending = s.pending := by
  unfold State.takeUpBoth; (try dsimp only); split <;> simp

@[simp] theorem State.writeTrunkProfile_sd (p : TrunkProfile) :
    (s.writeTrunkProfile p).sd = s.sd := by
  unfold State.writeTrunkProfile; simp

@[simp] theorem State.writeTrunkProfile_pr (p : TrunkProfile) :
    (s.writeTrunkProfile p).pr = s.pr := by
  unfold State.writeTrunkProfile; simp

@[simp] theorem State.writeTrunkProfile_ports (p : TrunkProfile) :
    (s.writeTrunkProfile p).ports = s.ports := by
  unfold State.writeTrunkProfile; simp

@[simp] theorem State.writeTrunkProfile_sm (p : TrunkProfile) :
    (s.writeTrunkProfile p).sm = s.sm := by
  unfold State.writeTrunkProfile; simp

@[simp] theorem State.writeTrunkProfile_pe (p : TrunkProfile) :
    (s.writeTrunkProfile p).pe = s.pe := by
  unfold State.writeTrunkProfile; simp

@[simp] theorem State.writeTrunkProfile_hm (p : TrunkProfile) :
    (s.writeTrunkProfile p).hm = s.hm := by
  unfold State.writeTrunkProfile; simp

@[simp] theorem State.writeTrunkProfile_au (p : TrunkProfile) :
    (s.writeTrunkProfile p).au = s.au := by
  unfold State.writeTrunkProfile; simp

@[simp] theorem State.writeTrunkProfile_al (p : TrunkProfile) :
    (s.writeTrunkProfile p).al = s.al := by
  unfold State.writeTrunkProfile; simp

@[simp] theorem State.writeTrunkProfile_draws (p : TrunkProfile) :
    (s.writeTrunkProfile p).draws = s.draws := by
  unfold State.writeTrunkProfile; simp

@[simp] theorem State.writeTrunkProfile_pending (p : TrunkProfile) :
    (s.writeTrunkProfile p).pending = s.pending := by
  unfold State.writeTrunkProfile; simp

@[simp] theorem State.forwardChar_sd (g : Seg) (ch : TrunkChar) :
    (s.forwardChar g ch).sd = s.sd := by
  unfold State.forwardChar; (repeat' split) <;> (try dsimp only) <;> (repeat' split) <;> simp

@[simp] theorem State.forwardChar_pr (g : Seg) (ch : TrunkChar) :
    (s.forwardChar g ch).pr = s.pr := by
  unfold State.forwardChar; (repeat' split) <;> (try dsimp only) <;> (repeat' split) <;> simp

@[simp] theorem State.forwardChar_ports (g : Seg) (ch : TrunkChar) :
    (s.forwardChar g ch).ports = s.ports := by
  unfold State.forwardChar; (repeat' split) <;> (try dsimp only) <;> (repeat' split) <;> simp

@[simp] theorem State.forwardChar_sm (g : Seg) (ch : TrunkChar) :
    (s.forwardChar g ch).sm = s.sm := by
  unfold State.forwardChar; (repeat' split) <;> (try dsimp only) <;> (repeat' split) <;> simp

@[simp] theorem State.forwardChar_pe (g : Seg) (ch : TrunkChar) :
    (s.forwardChar g ch).pe = s.pe := by
  unfold State.forwardChar; (repeat' split) <;> (try dsimp only) <;> (repeat' split) <;> simp

@[simp] theorem State.forwardChar_hm (g : Seg) (ch : TrunkChar) :
    (s.forwardChar g ch).hm = s.hm := by
  unfold State.forwardChar; (repeat' split) <;> (try dsimp only) <;> (repeat' split) <;> simp

@[simp] theorem State.forwardChar_au (g : Seg) (ch : TrunkChar) :
    (s.forwardChar g ch).au = s.au := by
  unfold State.forwardChar; (repeat' split) <;> (try dsimp only) <;> (repeat' split) <;> simp

@[simp] theorem State.forwardChar_al (g : Seg) (ch : TrunkChar) :
    (s.forwardChar g ch).al = s.al := by
  unfold State.forwardChar; (repeat' split) <;> (try dsimp only) <;> (repeat' split) <;> simp

@[simp] theorem State.forwardChar_pending (g : Seg) (ch : TrunkChar) :
    (s.forwardChar g ch).pending = s.pending := by
  unfold State.forwardChar; (repeat' split) <;> (try dsimp only) <;> (repeat' split) <;> simp

@[simp] theorem State.endSource_sd (g : Seg) :
    (s.endSource g).sd = s.sd := by
  unfold State.endSource; (repeat' split) <;> simp

@[simp] theorem State.endSource_pr (g : Seg) :
    (s.endSource g).pr = s.pr := by
  unfold State.endSource; (repeat' split) <;> simp

@[simp] theorem State.endSource_ports (g : Seg) :
    (s.endSource g).ports = s.ports := by
  unfold State.endSource; (repeat' split) <;> simp

@[simp] theorem State.endSource_sm (g : Seg) :
    (s.endSource g).sm = s.sm := by
  unfold State.endSource; (repeat' split) <;> simp

@[simp] theorem State.endSource_pe (g : Seg) :
    (s.endSource g).pe = s.pe := by
  unfold State.endSource; (repeat' split) <;> simp

@[simp] theorem State.endSource_hm (g : Seg) :
    (s.endSource g).hm = s.hm := by
  unfold State.endSource; (repeat' split) <;> simp

@[simp] theorem State.endSource_au (g : Seg) :
    (s.endSource g).au = s.au := by
  unfold State.endSource; (repeat' split) <;> simp

@[simp] theorem State.endSource_al (g : Seg) :
    (s.endSource g).al = s.al := by
  unfold State.endSource; (repeat' split) <;> simp

@[simp] theorem State.endSource_draws (g : Seg) :
    (s.endSource g).draws = s.draws := by
  unfold State.endSource; (repeat' split) <;> simp

@[simp] theorem State.endSource_pending (g : Seg) :
    (s.endSource g).pending = s.pending := by
  unfold State.endSource; (repeat' split) <;> simp

@[simp] theorem State.stopCopy_sd (g : Seg) :
    (s.stopCopy g).sd = s.sd := by
  unfold State.stopCopy; simp

@[simp] theorem State.stopCopy_pr (g : Seg) :
    (s.stopCopy g).pr = s.pr := by
  unfold State.stopCopy; simp

@[simp] theorem State.stopCopy_ports (g : Seg) :
    (s.stopCopy g).ports = s.ports := by
  unfold State.stopCopy; simp

@[simp] theorem State.stopCopy_sm (g : Seg) :
    (s.stopCopy g).sm = s.sm := by
  unfold State.stopCopy; simp

@[simp] theorem State.stopCopy_pe (g : Seg) :
    (s.stopCopy g).pe = s.pe := by
  unfold State.stopCopy; simp

@[simp] theorem State.stopCopy_hm (g : Seg) :
    (s.stopCopy g).hm = s.hm := by
  unfold State.stopCopy; simp

@[simp] theorem State.stopCopy_au (g : Seg) :
    (s.stopCopy g).au = s.au := by
  unfold State.stopCopy; simp

@[simp] theorem State.stopCopy_al (g : Seg) :
    (s.stopCopy g).al = s.al := by
  unfold State.stopCopy; simp

@[simp] theorem State.stopCopy_draws (g : Seg) :
    (s.stopCopy g).draws = s.draws := by
  unfold State.stopCopy; simp

@[simp] theorem State.stopCopy_pending (g : Seg) :
    (s.stopCopy g).pending = s.pending := by
  unfold State.stopCopy; simp

@[simp] theorem State.disarmStation_sd (g : Seg) (a : Address) :
    (s.disarmStation g a).sd = s.sd := by
  unfold State.disarmStation; (repeat' split) <;> (try dsimp only) <;> (repeat' split) <;> simp

@[simp] theorem State.disarmStation_pr (g : Seg) (a : Address) :
    (s.disarmStation g a).pr = s.pr := by
  unfold State.disarmStation; (repeat' split) <;> (try dsimp only) <;> (repeat' split) <;> simp

@[simp] theorem State.disarmStation_ports (g : Seg) (a : Address) :
    (s.disarmStation g a).ports = s.ports := by
  unfold State.disarmStation; (repeat' split) <;> (try dsimp only) <;> (repeat' split) <;> simp

@[simp] theorem State.disarmStation_sm (g : Seg) (a : Address) :
    (s.disarmStation g a).sm = s.sm := by
  unfold State.disarmStation; (repeat' split) <;> (try dsimp only) <;> (repeat' split) <;> simp

@[simp] theorem State.disarmStation_pe (g : Seg) (a : Address) :
    (s.disarmStation g a).pe = s.pe := by
  unfold State.disarmStation; (repeat' split) <;> (try dsimp only) <;> (repeat' split) <;> simp

@[simp] theorem State.disarmStation_hm (g : Seg) (a : Address) :
    (s.disarmStation g a).hm = s.hm := by
  unfold State.disarmStation; (repeat' split) <;> (try dsimp only) <;> (repeat' split) <;> simp

@[simp] theorem State.disarmStation_au (g : Seg) (a : Address) :
    (s.disarmStation g a).au = s.au := by
  unfold State.disarmStation; (repeat' split) <;> (try dsimp only) <;> (repeat' split) <;> simp

@[simp] theorem State.disarmStation_al (g : Seg) (a : Address) :
    (s.disarmStation g a).al = s.al := by
  unfold State.disarmStation; (repeat' split) <;> (try dsimp only) <;> (repeat' split) <;> simp

@[simp] theorem State.disarmStation_draws (g : Seg) (a : Address) :
    (s.disarmStation g a).draws = s.draws := by
  unfold State.disarmStation; (repeat' split) <;> (try dsimp only) <;> (repeat' split) <;> simp

@[simp] theorem State.disarmStation_pending (g : Seg) (a : Address) :
    (s.disarmStation g a).pending = s.pending := by
  unfold State.disarmStation; (repeat' split) <;> (try dsimp only) <;> (repeat' split) <;> simp

@[simp] theorem State.abandonStationProbe_sd :
    (s.abandonStationProbe).sd = s.sd := by
  unfold State.abandonStationProbe; (repeat' split) <;> simp

@[simp] theorem State.abandonStationProbe_pr :
    (s.abandonStationProbe).pr = s.pr := by
  unfold State.abandonStationProbe; (repeat' split) <;> simp

@[simp] theorem State.abandonStationProbe_ports :
    (s.abandonStationProbe).ports = s.ports := by
  unfold State.abandonStationProbe; (repeat' split) <;> simp

@[simp] theorem State.abandonStationProbe_sm :
    (s.abandonStationProbe).sm = s.sm := by
  unfold State.abandonStationProbe; (repeat' split) <;> simp

@[simp] theorem State.abandonStationProbe_pe :
    (s.abandonStationProbe).pe = s.pe := by
  unfold State.abandonStationProbe; (repeat' split) <;> simp

@[simp] theorem State.abandonStationProbe_au :
    (s.abandonStationProbe).au = s.au := by
  unfold State.abandonStationProbe; (repeat' split) <;> simp

@[simp] theorem State.abandonStationProbe_al :
    (s.abandonStationProbe).al = s.al := by
  unfold State.abandonStationProbe; (repeat' split) <;> simp

@[simp] theorem State.abandonStationProbe_draws :
    (s.abandonStationProbe).draws = s.draws := by
  unfold State.abandonStationProbe; (repeat' split) <;> simp

@[simp] theorem State.abandonStationProbe_pending :
    (s.abandonStationProbe).pending = s.pending := by
  unfold State.abandonStationProbe; (repeat' split) <;> simp

@[simp] theorem State.cutSegmentB_sd :
    (s.cutSegmentB).sd = s.sd := by
  unfold State.cutSegmentB; simp

@[simp] theorem State.cutSegmentB_pr :
    (s.cutSegmentB).pr = s.pr := by
  unfold State.cutSegmentB; simp

@[simp] theorem State.cutSegmentB_ports :
    (s.cutSegmentB).ports = s.ports := by
  unfold State.cutSegmentB; simp

@[simp] theorem State.cutSegmentB_sm :
    (s.cutSegmentB).sm = s.sm := by
  unfold State.cutSegmentB; simp

@[simp] theorem State.cutSegmentB_pe :
    (s.cutSegmentB).pe = s.pe := by
  unfold State.cutSegmentB; simp

@[simp] theorem State.cutSegmentB_au :
    (s.cutSegmentB).au = s.au := by
  unfold State.cutSegmentB; simp

@[simp] theorem State.cutSegmentB_al :
    (s.cutSegmentB).al = s.al := by
  unfold State.cutSegmentB; simp

@[simp] theorem State.cutSegmentB_draws :
    (s.cutSegmentB).draws = s.draws := by
  unfold State.cutSegmentB; simp

@[simp] theorem State.cutSegmentB_pending :
    (s.cutSegmentB).pending = s.pending := by
  unfold State.cutSegmentB; simp

@[simp] theorem State.cutStation_sd (a : Address) :
    (s.cutStation a).sd = s.sd := by
  unfold State.cutStation; simp

@[simp] theorem State.cutStation_pr (a : Address) :
    (s.cutStation a).pr = s.pr := by
  unfold State.cutStation; simp

@[simp] theorem State.cutStation_ports (a : Address) :
    (s.cutStation a).ports = s.ports := by
  unfold State.cutStation; simp

@[simp] theorem State.cutStation_sm (a : Address) :
    (s.cutStation a).sm = s.sm := by
  unfold State.cutStation; simp

@[simp] theorem State.cutStation_pe (a : Address) :
    (s.cutStation a).pe = s.pe := by
  unfold State.cutStation; simp

@[simp] theorem State.cutStation_hm (a : Address) :
    (s.cutStation a).hm = s.hm := by
  unfold State.cutStation; simp

@[simp] theorem State.cutStation_au (a : Address) :
    (s.cutStation a).au = s.au := by
  unfold State.cutStation; simp

@[simp] theorem State.cutStation_al (a : Address) :
    (s.cutStation a).al = s.al := by
  unfold State.cutStation; simp

@[simp] theorem State.cutStation_draws (a : Address) :
    (s.cutStation a).draws = s.draws := by
  unfold State.cutStation; simp

@[simp] theorem State.cutStation_pending (a : Address) :
    (s.cutStation a).pending = s.pending := by
  unfold State.cutStation; simp

@[simp] theorem State.restoreSegmentB_sd :
    (s.restoreSegmentB).sd = s.sd := by
  unfold State.restoreSegmentB; (repeat' split) <;> simp

@[simp] theorem State.restoreSegmentB_pr :
    (s.restoreSegmentB).pr = s.pr := by
  unfold State.restoreSegmentB; (repeat' split) <;> simp

@[simp] theorem State.restoreSegmentB_ports :
    (s.restoreSegmentB).ports = s.ports := by
  unfold State.restoreSegmentB; (repeat' split) <;> simp

@[simp] theorem State.restoreSegmentB_sm :
    (s.restoreSegmentB).sm = s.sm := by
  unfold State.restoreSegmentB; (repeat' split) <;> simp

@[simp] theorem State.restoreSegmentB_pe :
    (s.restoreSegmentB).pe = s.pe := by
  unfold State.restoreSegmentB; (repeat' split) <;> simp

@[simp] theorem State.restoreSegmentB_au :
    (s.restoreSegmentB).au = s.au := by
  unfold State.restoreSegmentB; (repeat' split) <;> simp

@[simp] theorem State.restoreSegmentB_al :
    (s.restoreSegmentB).al = s.al := by
  unfold State.restoreSegmentB; (repeat' split) <;> simp

@[simp] theorem State.restoreSegmentB_draws :
    (s.restoreSegmentB).draws = s.draws := by
  unfold State.restoreSegmentB; (repeat' split) <;> simp

@[simp] theorem State.restoreSegmentB_pending :
    (s.restoreSegmentB).pending = s.pending := by
  unfold State.restoreSegmentB; (repeat' split) <;> simp

@[simp] theorem State.restoreStation_sd (a : Address) :
    (s.restoreStation a).sd = s.sd := by
  unfold State.restoreStation; (repeat' split) <;> simp

@[simp] theorem State.restoreStation_ti (a : Address) :
    (s.restoreStation a).ti = s.ti := by
  unfold State.restoreStation; (repeat' split) <;> simp

@[simp] theorem State.restoreStation_pr (a : Address) :
    (s.restoreStation a).pr = s.pr := by
  unfold State.restoreStation; (repeat' split) <;> simp

@[simp] theorem State.restoreStation_ports (a : Address) :
    (s.restoreStation a).ports = s.ports := by
  unfold State.restoreStation; (repeat' split) <;> simp

@[simp] theorem State.restoreStation_sm (a : Address) :
    (s.restoreStation a).sm = s.sm := by
  unfold State.restoreStation; (repeat' split) <;> simp

@[simp] theorem State.restoreStation_pe (a : Address) :
    (s.restoreStation a).pe = s.pe := by
  unfold State.restoreStation; (repeat' split) <;> simp

@[simp] theorem State.restoreStation_au (a : Address) :
    (s.restoreStation a).au = s.au := by
  unfold State.restoreStation; (repeat' split) <;> simp

@[simp] theorem State.restoreStation_al (a : Address) :
    (s.restoreStation a).al = s.al := by
  unfold State.restoreStation; (repeat' split) <;> simp

@[simp] theorem State.restoreStation_draws (a : Address) :
    (s.restoreStation a).draws = s.draws := by
  unfold State.restoreStation; (repeat' split) <;> simp

@[simp] theorem State.restoreStation_pending (a : Address) :
    (s.restoreStation a).pending = s.pending := by
  unfold State.restoreStation; (repeat' split) <;> simp

/-- All that a millisecond of the fill does (R51): nothing outside FILLING, and in FILLING the same number of FILL characters joins the
line and the count, short of the budget. -/
theorem State.sendFills_cases :
    ((∀ t n, s.pr ≠ .filling t n) ∧ s.sendFills = s) ∨
    ∃ t n more, s.pr = .filling t n ∧ more ≤ s.ti.segA.profile.fill - 1 - n ∧
      s.sendFills = { s with
        pr := .filling t (n + more), draws := s.draws + 1
        ti := { s.ti with segA := { s.ti.segA with line := s.ti.segA.line ++ List.replicate more 0x1FE } } } := by
  unfold State.sendFills
  split
  · exact .inr ⟨_, _, _, ‹_›, Nat.min_le_right .., rfl⟩
  · exact .inl ⟨‹_›, rfl⟩

@[simp] theorem State.sendFills_sd : s.sendFills.sd = s.sd := by
  unfold State.sendFills; split <;> rfl

@[simp] theorem State.sendFills_ports : s.sendFills.ports = s.ports := by
  unfold State.sendFills; split <;> rfl

@[simp] theorem State.sendFills_sm : s.sendFills.sm = s.sm := by
  unfold State.sendFills; split <;> rfl

@[simp] theorem State.sendFills_pe : s.sendFills.pe = s.pe := by
  unfold State.sendFills; split <;> rfl

@[simp] theorem State.sendFills_hm : s.sendFills.hm = s.hm := by
  unfold State.sendFills; split <;> rfl

@[simp] theorem State.sendFills_au : s.sendFills.au = s.au := by
  unfold State.sendFills; split <;> rfl

@[simp] theorem State.sendFills_al : s.sendFills.al = s.al := by
  unfold State.sendFills; split <;> rfl

@[simp] theorem State.sendFills_pending : s.sendFills.pending = s.pending := by
  unfold State.sendFills; split <;> rfl

@[simp] theorem State.commit_sd (t : Taking) (k : Nat) (c : ReplyCode) (m : List Byte) :
    (s.commit t k c m).sd = s.sd := by simp [State.commit]

@[simp] theorem State.commit_ports (t : Taking) (k : Nat) (c : ReplyCode) (m : List Byte) :
    (s.commit t k c m).ports = s.ports := by simp [State.commit]

@[simp] theorem State.commit_sm (t : Taking) (k : Nat) (c : ReplyCode) (m : List Byte) :
    (s.commit t k c m).sm = s.sm := by simp [State.commit]

@[simp] theorem State.commit_pe (t : Taking) (k : Nat) (c : ReplyCode) (m : List Byte) :
    (s.commit t k c m).pe = s.pe := by simp [State.commit]

@[simp] theorem State.commit_hm (t : Taking) (k : Nat) (c : ReplyCode) (m : List Byte) :
    (s.commit t k c m).hm = s.hm := by simp [State.commit]

@[simp] theorem State.commit_au (t : Taking) (k : Nat) (c : ReplyCode) (m : List Byte) :
    (s.commit t k c m).au = s.au := by simp [State.commit]

@[simp] theorem State.commit_al (t : Taking) (k : Nat) (c : ReplyCode) (m : List Byte) :
    (s.commit t k c m).al = s.al := by simp [State.commit]

@[simp] theorem State.commit_draws (t : Taking) (k : Nat) (c : ReplyCode) (m : List Byte) :
    (s.commit t k c m).draws = s.draws := by simp [State.commit]

@[simp] theorem State.commit_pending (t : Taking) (k : Nat) (c : ReplyCode) (m : List Byte) :
    (s.commit t k c m).pending = s.pending := by simp [State.commit]

@[simp] theorem State.commitEarly_sd (t : Taking) (c : ReplyCode) (m : List Byte) :
    (s.commitEarly t c m).sd = s.sd := by
  unfold State.commitEarly; simp

@[simp] theorem State.commitEarly_ports (t : Taking) (c : ReplyCode) (m : List Byte) :
    (s.commitEarly t c m).ports = s.ports := by
  unfold State.commitEarly; simp

@[simp] theorem State.commitEarly_sm (t : Taking) (c : ReplyCode) (m : List Byte) :
    (s.commitEarly t c m).sm = s.sm := by
  unfold State.commitEarly; simp

@[simp] theorem State.commitEarly_pe (t : Taking) (c : ReplyCode) (m : List Byte) :
    (s.commitEarly t c m).pe = s.pe := by
  unfold State.commitEarly; simp

@[simp] theorem State.commitEarly_hm (t : Taking) (c : ReplyCode) (m : List Byte) :
    (s.commitEarly t c m).hm = s.hm := by
  unfold State.commitEarly; simp

@[simp] theorem State.commitEarly_au (t : Taking) (c : ReplyCode) (m : List Byte) :
    (s.commitEarly t c m).au = s.au := by
  unfold State.commitEarly; simp

@[simp] theorem State.commitEarly_al (t : Taking) (c : ReplyCode) (m : List Byte) :
    (s.commitEarly t c m).al = s.al := by
  unfold State.commitEarly; simp

@[simp] theorem State.commitEarly_pending (t : Taking) (c : ReplyCode) (m : List Byte) :
    (s.commitEarly t c m).pending = s.pending := by
  unfold State.commitEarly; simp

@[simp] theorem State.fillNil_sd (n : PortNo) :
    (s.fillNil n).sd = s.sd := by
  unfold State.fillNil; (repeat' split) <;> simp

@[simp] theorem State.fillNil_ports (n : PortNo) :
    (s.fillNil n).ports = s.ports := by
  unfold State.fillNil; (repeat' split) <;> simp

@[simp] theorem State.fillNil_sm (n : PortNo) :
    (s.fillNil n).sm = s.sm := by
  unfold State.fillNil; (repeat' split) <;> simp

@[simp] theorem State.fillNil_pe (n : PortNo) :
    (s.fillNil n).pe = s.pe := by
  unfold State.fillNil; (repeat' split) <;> simp

@[simp] theorem State.fillNil_hm (n : PortNo) :
    (s.fillNil n).hm = s.hm := by
  unfold State.fillNil; (repeat' split) <;> simp

@[simp] theorem State.fillNil_au (n : PortNo) :
    (s.fillNil n).au = s.au := by
  unfold State.fillNil; (repeat' split) <;> simp

@[simp] theorem State.fillNil_al (n : PortNo) :
    (s.fillNil n).al = s.al := by
  unfold State.fillNil; (repeat' split) <;> simp

@[simp] theorem State.fillNil_pending (n : PortNo) :
    (s.fillNil n).pending = s.pending := by
  unfold State.fillNil; (repeat' split) <;> simp

@[simp] theorem State.fillOffline_sd (n : PortNo) :
    (s.fillOffline n).sd = s.sd := by
  unfold State.fillOffline; (repeat' split) <;> simp

@[simp] theorem State.fillOffline_ports (n : PortNo) :
    (s.fillOffline n).ports = s.ports := by
  unfold State.fillOffline; (repeat' split) <;> simp

@[simp] theorem State.fillOffline_sm (n : PortNo) :
    (s.fillOffline n).sm = s.sm := by
  unfold State.fillOffline; (repeat' split) <;> simp

@[simp] theorem State.fillOffline_pe (n : PortNo) :
    (s.fillOffline n).pe = s.pe := by
  unfold State.fillOffline; (repeat' split) <;> simp

@[simp] theorem State.fillOffline_hm (n : PortNo) :
    (s.fillOffline n).hm = s.hm := by
  unfold State.fillOffline; (repeat' split) <;> simp

@[simp] theorem State.fillOffline_au (n : PortNo) :
    (s.fillOffline n).au = s.au := by
  unfold State.fillOffline; (repeat' split) <;> simp

@[simp] theorem State.fillOffline_al (n : PortNo) :
    (s.fillOffline n).al = s.al := by
  unfold State.fillOffline; (repeat' split) <;> simp

@[simp] theorem State.fillOffline_pending (n : PortNo) :
    (s.fillOffline n).pending = s.pending := by
  unfold State.fillOffline; (repeat' split) <;> simp

@[simp] theorem State.fillData_sd (n : PortNo) (m : List Byte) :
    (s.fillData n m).sd = s.sd := by
  unfold State.fillData; (repeat' split) <;> simp

@[simp] theorem State.fillData_sm (n : PortNo) (m : List Byte) :
    (s.fillData n m).sm = s.sm := by
  unfold State.fillData; (repeat' split) <;> simp

@[simp] theorem State.fillData_pe (n : PortNo) (m : List Byte) :
    (s.fillData n m).pe = s.pe := by
  unfold State.fillData; (repeat' split) <;> simp

@[simp] theorem State.fillData_hm (n : PortNo) (m : List Byte) :
    (s.fillData n m).hm = s.hm := by
  unfold State.fillData; (repeat' split) <;> simp

@[simp] theorem State.fillData_au (n : PortNo) (m : List Byte) :
    (s.fillData n m).au = s.au := by
  unfold State.fillData; (repeat' split) <;> simp

@[simp] theorem State.fillData_al (n : PortNo) (m : List Byte) :
    (s.fillData n m).al = s.al := by
  unfold State.fillData; (repeat' split) <;> simp

@[simp] theorem State.fillData_pending (n : PortNo) (m : List Byte) :
    (s.fillData n m).pending = s.pending := by
  unfold State.fillData; (repeat' split) <;> simp

/-! ### Health -/

@[simp] theorem State.isolatePort_pe (n : PortNo) :
    (s.isolatePort n).pe = s.pe := by
  unfold State.isolatePort; (repeat' split) <;> simp

@[simp] theorem State.isolatePort_hm (n : PortNo) :
    (s.isolatePort n).hm = s.hm := by
  unfold State.isolatePort; (repeat' split) <;> simp

@[simp] theorem State.isolatePort_al (n : PortNo) :
    (s.isolatePort n).al = s.al := by
  unfold State.isolatePort; (repeat' split) <;> simp

@[simp] theorem State.isolatePort_pending (n : PortNo) :
    (s.isolatePort n).pending = s.pending := by
  unfold State.isolatePort; (repeat' split) <;> simp

@[simp] theorem State.readmitPort_sd (n : PortNo) :
    (s.readmitPort n).sd = s.sd := by
  unfold State.readmitPort; (repeat' split) <;> simp

@[simp] theorem State.readmitPort_ti (n : PortNo) :
    (s.readmitPort n).ti = s.ti := by
  unfold State.readmitPort; (repeat' split) <;> simp

@[simp] theorem State.readmitPort_pr (n : PortNo) :
    (s.readmitPort n).pr = s.pr := by
  unfold State.readmitPort; (repeat' split) <;> simp

@[simp] theorem State.readmitPort_sm (n : PortNo) :
    (s.readmitPort n).sm = s.sm := by
  unfold State.readmitPort; (repeat' split) <;> simp

@[simp] theorem State.readmitPort_pe (n : PortNo) :
    (s.readmitPort n).pe = s.pe := by
  unfold State.readmitPort; (repeat' split) <;> simp

@[simp] theorem State.readmitPort_hm (n : PortNo) :
    (s.readmitPort n).hm = s.hm := by
  unfold State.readmitPort; (repeat' split) <;> simp

@[simp] theorem State.readmitPort_au (n : PortNo) :
    (s.readmitPort n).au = s.au := by
  unfold State.readmitPort; (repeat' split) <;> simp

@[simp] theorem State.readmitPort_al (n : PortNo) :
    (s.readmitPort n).al = s.al := by
  unfold State.readmitPort; (repeat' split) <;> simp

@[simp] theorem State.readmitPort_draws (n : PortNo) :
    (s.readmitPort n).draws = s.draws := by
  unfold State.readmitPort; (repeat' split) <;> simp

@[simp] theorem State.readmitPort_pending (n : PortNo) :
    (s.readmitPort n).pending = s.pending := by
  unfold State.readmitPort; (repeat' split) <;> simp

@[simp] theorem State.reportObject_sd (o : ObjectId) (d : HealthDetail) (l : PortState) :
    (s.reportObject o d l).sd = s.sd := by
  unfold State.reportObject; (repeat' split) <;> simp

@[simp] theorem State.reportObject_ti (o : ObjectId) (d : HealthDetail) (l : PortState) :
    (s.reportObject o d l).ti = s.ti := by
  unfold State.reportObject; (repeat' split) <;> simp

@[simp] theorem State.reportObject_pr (o : ObjectId) (d : HealthDetail) (l : PortState) :
    (s.reportObject o d l).pr = s.pr := by
  unfold State.reportObject; (repeat' split) <;> simp

@[simp] theorem State.reportObject_ports (o : ObjectId) (d : HealthDetail) (l : PortState) :
    (s.reportObject o d l).ports = s.ports := by
  unfold State.reportObject; (repeat' split) <;> simp

@[simp] theorem State.reportObject_sm (o : ObjectId) (d : HealthDetail) (l : PortState) :
    (s.reportObject o d l).sm = s.sm := by
  unfold State.reportObject; (repeat' split) <;> simp

@[simp] theorem State.reportObject_pe (o : ObjectId) (d : HealthDetail) (l : PortState) :
    (s.reportObject o d l).pe = s.pe := by
  unfold State.reportObject; (repeat' split) <;> simp

@[simp] theorem State.reportObject_hm (o : ObjectId) (d : HealthDetail) (l : PortState) :
    (s.reportObject o d l).hm = s.hm := by
  unfold State.reportObject; (repeat' split) <;> simp

@[simp] theorem State.reportObject_al (o : ObjectId) (d : HealthDetail) (l : PortState) :
    (s.reportObject o d l).al = s.al := by
  unfold State.reportObject; (repeat' split) <;> simp

@[simp] theorem State.reportObject_draws (o : ObjectId) (d : HealthDetail) (l : PortState) :
    (s.reportObject o d l).draws = s.draws := by
  unfold State.reportObject; (repeat' split) <;> simp

@[simp] theorem State.reportObject_pending (o : ObjectId) (d : HealthDetail) (l : PortState) :
    (s.reportObject o d l).pending = s.pending := by
  unfold State.reportObject; (repeat' split) <;> simp

@[simp] theorem State.isolateObject_pe (o : ObjectId) :
    (s.isolateObject o).pe = s.pe := by
  unfold State.isolateObject; (repeat' split) <;> simp

@[simp] theorem State.isolateObject_al (o : ObjectId) :
    (s.isolateObject o).al = s.al := by
  unfold State.isolateObject; (repeat' split) <;> simp

@[simp] theorem State.isolateObject_pending (o : ObjectId) :
    (s.isolateObject o).pending = s.pending := by
  unfold State.isolateObject; (repeat' split) <;> simp

@[simp] theorem State.readmissionOrder_sd (o : ObjectId) :
    (s.readmissionOrder o).sd = s.sd := by
  unfold State.readmissionOrder; (repeat' split) <;> simp

@[simp] theorem State.readmissionOrder_pr (o : ObjectId) :
    (s.readmissionOrder o).pr = s.pr := by
  unfold State.readmissionOrder; (repeat' split) <;> simp

@[simp] theorem State.readmissionOrder_sm (o : ObjectId) :
    (s.readmissionOrder o).sm = s.sm := by
  unfold State.readmissionOrder; (repeat' split) <;> simp

@[simp] theorem State.readmissionOrder_pe (o : ObjectId) :
    (s.readmissionOrder o).pe = s.pe := by
  unfold State.readmissionOrder; (repeat' split) <;> simp

@[simp] theorem State.readmissionOrder_au (o : ObjectId) :
    (s.readmissionOrder o).au = s.au := by
  unfold State.readmissionOrder; (repeat' split) <;> simp

@[simp] theorem State.readmissionOrder_al (o : ObjectId) :
    (s.readmissionOrder o).al = s.al := by
  unfold State.readmissionOrder; (repeat' split) <;> simp

@[simp] theorem State.readmissionOrder_draws (o : ObjectId) :
    (s.readmissionOrder o).draws = s.draws := by
  unfold State.readmissionOrder; (repeat' split) <;> simp

@[simp] theorem State.readmissionOrder_pending (o : ObjectId) :
    (s.readmissionOrder o).pending = s.pending := by
  unfold State.readmissionOrder; (repeat' split) <;> simp

@[simp] theorem State.readmitObject_sd (o : ObjectId) (h : Health) :
    (s.readmitObject o h).sd = s.sd := by
  unfold State.readmitObject; simp

@[simp] theorem State.readmitObject_pr (o : ObjectId) (h : Health) :
    (s.readmitObject o h).pr = s.pr := by
  unfold State.readmitObject; simp

@[simp] theorem State.readmitObject_sm (o : ObjectId) (h : Health) :
    (s.readmitObject o h).sm = s.sm := by
  unfold State.readmitObject; simp

@[simp] theorem State.readmitObject_pe (o : ObjectId) (h : Health) :
    (s.readmitObject o h).pe = s.pe := by
  unfold State.readmitObject; simp

@[simp] theorem State.readmitObject_al (o : ObjectId) (h : Health) :
    (s.readmitObject o h).al = s.al := by
  unfold State.readmitObject; simp

@[simp] theorem State.readmitObject_draws (o : ObjectId) (h : Health) :
    (s.readmitObject o h).draws = s.draws := by
  unfold State.readmitObject; simp

@[simp] theorem State.readmitObject_pending (o : ObjectId) (h : Health) :
    (s.readmitObject o h).pending = s.pending := by
  unfold State.readmitObject; simp

@[simp] theorem State.evaluateMark_sd (o : ObjectId) :
    (s.evaluateMark o).sd = s.sd := by
  unfold State.evaluateMark; (repeat' split) <;> (try dsimp only) <;> (repeat' split) <;> simp

@[simp] theorem State.evaluateMark_ti (o : ObjectId) :
    (s.evaluateMark o).ti = s.ti := by
  unfold State.evaluateMark; (repeat' split) <;> (try dsimp only) <;> (repeat' split) <;> simp

@[simp] theorem State.evaluateMark_pr (o : ObjectId) :
    (s.evaluateMark o).pr = s.pr := by
  unfold State.evaluateMark; (repeat' split) <;> (try dsimp only) <;> (repeat' split) <;> simp

@[simp] theorem State.evaluateMark_ports (o : ObjectId) :
    (s.evaluateMark o).ports = s.ports := by
  unfold State.evaluateMark; (repeat' split) <;> (try dsimp only) <;> (repeat' split) <;> simp

@[simp] theorem State.evaluateMark_sm (o : ObjectId) :
    (s.evaluateMark o).sm = s.sm := by
  unfold State.evaluateMark; (repeat' split) <;> (try dsimp only) <;> (repeat' split) <;> simp

@[simp] theorem State.evaluateMark_pe (o : ObjectId) :
    (s.evaluateMark o).pe = s.pe := by
  unfold State.evaluateMark; (repeat' split) <;> (try dsimp only) <;> (repeat' split) <;> simp

@[simp] theorem State.evaluateMark_al (o : ObjectId) :
    (s.evaluateMark o).al = s.al := by
  unfold State.evaluateMark; (repeat' split) <;> (try dsimp only) <;> (repeat' split) <;> simp

@[simp] theorem State.evaluateMark_draws (o : ObjectId) :
    (s.evaluateMark o).draws = s.draws := by
  unfold State.evaluateMark; (repeat' split) <;> (try dsimp only) <;> (repeat' split) <;> simp

@[simp] theorem State.evaluateMark_pending (o : ObjectId) :
    (s.evaluateMark o).pending = s.pending := by
  unfold State.evaluateMark; (repeat' split) <;> (try dsimp only) <;> (repeat' split) <;> simp

@[simp] theorem State.evaluate_pe (o : ObjectId) :
    (s.evaluate o).pe = s.pe := by
  unfold State.evaluate; (repeat' split) <;> (try dsimp only) <;> (repeat' split) <;> simp

@[simp] theorem State.evaluate_al (o : ObjectId) :
    (s.evaluate o).al = s.al := by
  unfold State.evaluate; (repeat' split) <;> (try dsimp only) <;> (repeat' split) <;> simp

@[simp] theorem State.evaluate_pending (o : ObjectId) :
    (s.evaluate o).pending = s.pending := by
  unfold State.evaluate; (repeat' split) <;> (try dsimp only) <;> (repeat' split) <;> simp

@[simp] theorem State.addScore_pe (o : ObjectId) (w : Nat) :
    (s.addScore o w).pe = s.pe := by
  unfold State.addScore; simp

@[simp] theorem State.addScore_al (o : ObjectId) (w : Nat) :
    (s.addScore o w).al = s.al := by
  unfold State.addScore; simp

@[simp] theorem State.addScore_pending (o : ObjectId) (w : Nat) :
    (s.addScore o w).pending = s.pending := by
  unfold State.addScore; simp

@[simp] theorem State.chargeStation_pe (a : Address) (w : Byte) :
    (s.chargeStation a w).pe = s.pe := by
  unfold State.chargeStation; (repeat' split) <;> simp

@[simp] theorem State.chargeStation_al (a : Address) (w : Byte) :
    (s.chargeStation a w).al = s.al := by
  unfold State.chargeStation; (repeat' split) <;> simp

@[simp] theorem State.chargeStation_pending (a : Address) (w : Byte) :
    (s.chargeStation a w).pending = s.pending := by
  unfold State.chargeStation; (repeat' split) <;> simp

@[simp] theorem State.chargeSegment_pe (g : Seg) (w : Byte) :
    (s.chargeSegment g w).pe = s.pe := by
  unfold State.chargeSegment; simp

@[simp] theorem State.chargeSegment_al (g : Seg) (w : Byte) :
    (s.chargeSegment g w).al = s.al := by
  unfold State.chargeSegment; simp

@[simp] theorem State.chargeSegment_pending (g : Seg) (w : Byte) :
    (s.chargeSegment g w).pending = s.pending := by
  unfold State.chargeSegment; simp

@[simp] theorem State.chargePort_pe (n : PortNo) (w : Byte) :
    (s.chargePort n w).pe = s.pe := by
  unfold State.chargePort; simp

@[simp] theorem State.chargePort_al (n : PortNo) (w : Byte) :
    (s.chargePort n w).al = s.al := by
  unfold State.chargePort; simp

@[simp] theorem State.chargePort_pending (n : PortNo) (w : Byte) :
    (s.chargePort n w).pending = s.pending := by
  unfold State.chargePort; simp

@[simp] theorem State.probeFailure_pe (o : ObjectId) :
    (s.probeFailure o).pe = s.pe := by
  unfold State.probeFailure; (repeat' split) <;> simp

@[simp] theorem State.probeFailure_al (o : ObjectId) :
    (s.probeFailure o).al = s.al := by
  unfold State.probeFailure; (repeat' split) <;> simp

@[simp] theorem State.probeFailure_pending (o : ObjectId) :
    (s.probeFailure o).pending = s.pending := by
  unfold State.probeFailure; (repeat' split) <;> simp

@[simp] theorem State.probeCredit_pe (o : ObjectId) :
    (s.probeCredit o).pe = s.pe := by
  unfold State.probeCredit; (repeat' split) <;> simp

@[simp] theorem State.probeCredit_al (o : ObjectId) :
    (s.probeCredit o).al = s.al := by
  unfold State.probeCredit; (repeat' split) <;> simp

@[simp] theorem State.probeCredit_pending (o : ObjectId) :
    (s.probeCredit o).pending = s.pending := by
  unfold State.probeCredit; (repeat' split) <;> simp

@[simp] theorem State.pollMiss_pe (g : Seg) (a : Address) :
    (s.pollMiss g a).pe = s.pe := by
  unfold State.pollMiss; simp

@[simp] theorem State.pollMiss_al (g : Seg) (a : Address) :
    (s.pollMiss g a).al = s.al := by
  unfold State.pollMiss; simp

@[simp] theorem State.pollMiss_pending (g : Seg) (a : Address) :
    (s.pollMiss g a).pending = s.pending := by
  unfold State.pollMiss; simp

@[simp] theorem State.chargeConflict_pe (g : Seg) :
    (s.chargeConflict g).pe = s.pe := by
  unfold State.chargeConflict; simp

@[simp] theorem State.chargeConflict_al (g : Seg) :
    (s.chargeConflict g).al = s.al := by
  unfold State.chargeConflict; simp

@[simp] theorem State.chargeConflict_pending (g : Seg) :
    (s.chargeConflict g).pending = s.pending := by
  unfold State.chargeConflict; simp

@[simp] theorem State.clearObject_sd (o : ObjectId) (m : Bool) :
    (s.clearObject o m).sd = s.sd := by
  unfold State.clearObject; (repeat' split) <;> (try dsimp only) <;> (repeat' split) <;> simp

@[simp] theorem State.clearObject_pr (o : ObjectId) (m : Bool) :
    (s.clearObject o m).pr = s.pr := by
  unfold State.clearObject; (repeat' split) <;> (try dsimp only) <;> (repeat' split) <;> simp

@[simp] theorem State.clearObject_sm (o : ObjectId) (m : Bool) :
    (s.clearObject o m).sm = s.sm := by
  unfold State.clearObject; (repeat' split) <;> (try dsimp only) <;> (repeat' split) <;> simp

@[simp] theorem State.clearObject_pe (o : ObjectId) (m : Bool) :
    (s.clearObject o m).pe = s.pe := by
  unfold State.clearObject; (repeat' split) <;> (try dsimp only) <;> (repeat' split) <;> simp

@[simp] theorem State.clearObject_al (o : ObjectId) (m : Bool) :
    (s.clearObject o m).al = s.al := by
  unfold State.clearObject; (repeat' split) <;> (try dsimp only) <;> (repeat' split) <;> simp

@[simp] theorem State.clearObject_draws (o : ObjectId) (m : Bool) :
    (s.clearObject o m).draws = s.draws := by
  unfold State.clearObject; (repeat' split) <;> (try dsimp only) <;> (repeat' split) <;> simp

@[simp] theorem State.clearObject_pending (o : ObjectId) (m : Bool) :
    (s.clearObject o m).pending = s.pending := by
  unfold State.clearObject; (repeat' split) <;> (try dsimp only) <;> (repeat' split) <;> simp

@[simp] theorem State.clearKeeping_sd (o : ObjectId) :
    (s.clearKeeping o).sd = s.sd := by
  unfold State.clearKeeping; simp

@[simp] theorem State.clearKeeping_pr (o : ObjectId) :
    (s.clearKeeping o).pr = s.pr := by
  unfold State.clearKeeping; simp

@[simp] theorem State.clearKeeping_sm (o : ObjectId) :
    (s.clearKeeping o).sm = s.sm := by
  unfold State.clearKeeping; simp

@[simp] theorem State.clearKeeping_pe (o : ObjectId) :
    (s.clearKeeping o).pe = s.pe := by
  unfold State.clearKeeping; simp

@[simp] theorem State.clearKeeping_al (o : ObjectId) :
    (s.clearKeeping o).al = s.al := by
  unfold State.clearKeeping; simp

@[simp] theorem State.clearKeeping_draws (o : ObjectId) :
    (s.clearKeeping o).draws = s.draws := by
  unfold State.clearKeeping; simp

@[simp] theorem State.clearKeeping_pending (o : ObjectId) :
    (s.clearKeeping o).pending = s.pending := by
  unfold State.clearKeeping; simp

@[simp] theorem State.enterStandby_pr (n : PortNo) :
    (s.enterStandby n).pr = s.pr := by
  unfold State.enterStandby; simp

@[simp] theorem State.enterStandby_pe (n : PortNo) :
    (s.enterStandby n).pe = s.pe := by
  unfold State.enterStandby; simp

@[simp] theorem State.enterStandby_al (n : PortNo) :
    (s.enterStandby n).al = s.al := by
  unfold State.enterStandby; simp

@[simp] theorem State.enterStandby_draws (n : PortNo) :
    (s.enterStandby n).draws = s.draws := by
  unfold State.enterStandby; simp

@[simp] theorem State.enterStandby_pending (n : PortNo) :
    (s.enterStandby n).pending = s.pending := by
  unfold State.enterStandby; simp

@[simp] theorem State.finishStopping_pr (n : PortNo) :
    (s.finishStopping n).pr = s.pr := by
  unfold State.finishStopping; (repeat' split) <;> simp

@[simp] theorem State.finishStopping_pe (n : PortNo) :
    (s.finishStopping n).pe = s.pe := by
  unfold State.finishStopping; (repeat' split) <;> simp

@[simp] theorem State.finishStopping_al (n : PortNo) :
    (s.finishStopping n).al = s.al := by
  unfold State.finishStopping; (repeat' split) <;> simp

@[simp] theorem State.finishStopping_draws (n : PortNo) :
    (s.finishStopping n).draws = s.draws := by
  unfold State.finishStopping; (repeat' split) <;> simp

@[simp] theorem State.finishStopping_pending (n : PortNo) :
    (s.finishStopping n).pending = s.pending := by
  unfold State.finishStopping; (repeat' split) <;> simp

/-! ### The directory -/

@[simp] theorem State.move_pe (g : Seg) (a : Address) :
    (s.move g a).pe = s.pe := by
  unfold State.move; simp

@[simp] theorem State.move_al (g : Seg) (a : Address) :
    (s.move g a).al = s.al := by
  unfold State.move; simp

@[simp] theorem State.move_pending (g : Seg) (a : Address) :
    (s.move g a).pending = s.pending := by
  unfold State.move; simp

@[simp] theorem State.conflict_pe (g : Seg) (a : Address) :
    (s.conflict g a).pe = s.pe := by
  unfold State.conflict; simp

@[simp] theorem State.conflict_al (g : Seg) (a : Address) :
    (s.conflict g a).al = s.al := by
  unfold State.conflict; simp

@[simp] theorem State.conflict_pending (g : Seg) (a : Address) :
    (s.conflict g a).pending = s.pending := by
  unfold State.conflict; simp

@[simp] theorem State.learn_pe (g : Seg) (a : Address) :
    (s.learn g a).pe = s.pe := by
  unfold State.learn; (repeat' split) <;> (try dsimp only) <;> (repeat' split) <;> simp

@[simp] theorem State.learn_al (g : Seg) (a : Address) :
    (s.learn g a).al = s.al := by
  unfold State.learn; (repeat' split) <;> (try dsimp only) <;> (repeat' split) <;> simp

@[simp] theorem State.learn_pending (g : Seg) (a : Address) :
    (s.learn g a).pending = s.pending := by
  unfold State.learn; (repeat' split) <;> (try dsimp only) <;> (repeat' split) <;> simp

@[simp] theorem State.ageEntry_pr (a : Address) :
    (s.ageEntry a).pr = s.pr := by
  unfold State.ageEntry; (repeat' split) <;> (try dsimp only) <;> (repeat' split) <;> simp

@[simp] theorem State.ageEntry_sm (a : Address) :
    (s.ageEntry a).sm = s.sm := by
  unfold State.ageEntry; (repeat' split) <;> (try dsimp only) <;> (repeat' split) <;> simp

@[simp] theorem State.ageEntry_pe (a : Address) :
    (s.ageEntry a).pe = s.pe := by
  unfold State.ageEntry; (repeat' split) <;> (try dsimp only) <;> (repeat' split) <;> simp

@[simp] theorem State.ageEntry_al (a : Address) :
    (s.ageEntry a).al = s.al := by
  unfold State.ageEntry; (repeat' split) <;> (try dsimp only) <;> (repeat' split) <;> simp

@[simp] theorem State.ageEntry_draws (a : Address) :
    (s.ageEntry a).draws = s.draws := by
  unfold State.ageEntry; (repeat' split) <;> (try dsimp only) <;> (repeat' split) <;> simp

@[simp] theorem State.ageEntry_pending (a : Address) :
    (s.ageEntry a).pending = s.pending := by
  unfold State.ageEntry; (repeat' split) <;> (try dsimp only) <;> (repeat' split) <;> simp

end Sys2Proof.Machine
end

