-- ==== Sys2Proof/Laws/Views.lean ====
section
/-! SUPPORT. The same frames for the views of the state: an operation that never changes a block leaves every entry, port,
segment, health object and job record that is read from it. -/

namespace Sys2Proof.Machine

variable (s : State)

theorem State.object_congr {s t : State} (h : t.hm = s.hm) (o : ObjectId) : t.object o = s.object o := by
  rcases o with (_ | _) | _ | _ <;> simp only [State.object, h]

theorem State.entry_congr {s t : State} (h : t.sd = s.sd) (a : Address) : t.entry a = s.entry a := by
  simp only [State.entry, h]

theorem State.port_congr {s t : State} (h : t.ports = s.ports) (n : PortNo) : t.port n = s.port n := by
  simp only [State.port, h]

theorem State.seg_congr {s t : State} (h : t.ti = s.ti) (g : Seg) : t.seg g = s.seg g := by
  cases g <;> simp only [State.seg, h]

theorem State.job?_congr {s t : State} (h : t.sm = s.sm) (id : Nat) : t.job? id = s.job? id := by
  simp only [State.job?, h]

theorem State.job?_congr' {s t : State} (h : t.sm.jobs = s.sm.jobs) (id : Nat) : t.job? id = s.job? id := by
  simp only [State.job?, h]

@[simp] theorem State.object_respond (n : PortNo) (r : Response) (o' : ObjectId) :
    (s.respond n r).object o' = s.object o' :=
  State.object_congr (s.respond_hm n r) o'

@[simp] theorem State.entry_respond (n : PortNo) (r : Response) (a' : Address) :
    (s.respond n r).entry a' = s.entry a' :=
  State.entry_congr (s.respond_sd n r) a'

@[simp] theorem State.seg_respond (n : PortNo) (r : Response) (g' : Seg) :
    (s.respond n r).seg g' = s.seg g' :=
  State.seg_congr (s.respond_ti n r) g'

@[simp] theorem State.job?_respond (n : PortNo) (r : Response) (i' : Nat) :
    (s.respond n r).job? i' = s.job? i' :=
  State.job?_congr (s.respond_sm n r) i'

@[simp] theorem State.object_notify (n : PortNo) (x : Notice) (o' : ObjectId) :
    (s.notify n x).object o' = s.object o' :=
  State.object_congr (s.notify_hm n x) o'

@[simp] theorem State.entry_notify (n : PortNo) (x : Notice) (a' : Address) :
    (s.notify n x).entry a' = s.entry a' :=
  State.entry_congr (s.notify_sd n x) a'

@[simp] theorem State.seg_notify (n : PortNo) (x : Notice) (g' : Seg) :
    (s.notify n x).seg g' = s.seg g' :=
  State.seg_congr (s.notify_ti n x) g'

@[simp] theorem State.job?_notify (n : PortNo) (x : Notice) (i' : Nat) :
    (s.notify n x).job? i' = s.job? i' :=
  State.job?_congr (s.notify_sm n x) i'

@[simp] theorem State.object_notifyLink (n : PortNo) (o' : ObjectId) :
    (s.notifyLink n).object o' = s.object o' :=
  State.object_congr (s.notifyLink_hm n) o'

@[simp] theorem State.entry_notifyLink (n : PortNo) (a' : Address) :
    (s.notifyLink n).entry a' = s.entry a' :=
  State.entry_congr (s.notifyLink_sd n) a'

@[simp] theorem State.seg_notifyLink (n : PortNo) (g' : Seg) :
    (s.notifyLink n).seg g' = s.seg g' :=
  State.seg_congr (s.notifyLink_ti n) g'

@[simp] theorem State.job?_notifyLink (n : PortNo) (i' : Nat) :
    (s.notifyLink n).job? i' = s.job? i' :=
  State.job?_congr (s.notifyLink_sm n) i'

@[simp] theorem State.object_notifyJob (src : Source) (id : Nat) (st : NoticeState) (k : Nat) (o' : ObjectId) :
    (s.notifyJob src id st k).object o' = s.object o' :=
  State.object_congr (s.notifyJob_hm src id st k) o'

@[simp] theorem State.entry_notifyJob (src : Source) (id : Nat) (st : NoticeState) (k : Nat) (a' : Address) :
    (s.notifyJob src id st k).entry a' = s.entry a' :=
  State.entry_congr (s.notifyJob_sd src id st k) a'

@[simp] theorem State.seg_notifyJob (src : Source) (id : Nat) (st : NoticeState) (k : Nat) (g' : Seg) :
    (s.notifyJob src id st k).seg g' = s.seg g' :=
  State.seg_congr (s.notifyJob_ti src id st k) g'

@[simp] theorem State.job?_notifyJob (src : Source) (id : Nat) (st : NoticeState) (k : Nat) (i' : Nat) :
    (s.notifyJob src id st k).job? i' = s.job? i' :=
  State.job?_congr (s.notifyJob_sm src id st k) i'

@[simp] theorem State.object_reportPort (n : PortNo) (o' : ObjectId) :
    (s.reportPort n).object o' = s.object o' :=
  State.object_congr (s.reportPort_hm n) o'

@[simp] theorem State.entry_reportPort (n : PortNo) (a' : Address) :
    (s.reportPort n).entry a' = s.entry a' :=
  State.entry_congr (s.reportPort_sd n) a'

@[simp] theorem State.port_reportPort (n : PortNo) (n' : PortNo) :
    (s.reportPort n).port n' = s.port n' :=
  State.port_congr (s.reportPort_ports n) n'

@[simp] theorem State.seg_reportPort (n : PortNo) (g' : Seg) :
    (s.reportPort n).seg g' = s.seg g' :=
  State.seg_congr (s.reportPort_ti n) g'

@[simp] theorem State.job?_reportPort (n : PortNo) (i' : Nat) :
    (s.reportPort n).job? i' = s.job? i' :=
  State.job?_congr (s.reportPort_sm n) i'

@[simp] theorem State.object_raiseLow (k : Nat) (o' : ObjectId) :
    (s.raiseLow k).object o' = s.object o' :=
  State.object_congr (s.raiseLow_hm k) o'

@[simp] theorem State.entry_raiseLow (k : Nat) (a' : Address) :
    (s.raiseLow k).entry a' = s.entry a' :=
  State.entry_congr (s.raiseLow_sd k) a'

@[simp] theorem State.port_raiseLow (k : Nat) (n' : PortNo) :
    (s.raiseLow k).port n' = s.port n' :=
  State.port_congr (s.raiseLow_ports k) n'

@[simp] theorem State.seg_raiseLow (k : Nat) (g' : Seg) :
    (s.raiseLow k).seg g' = s.seg g' :=
  State.seg_congr (s.raiseLow_ti k) g'

@[simp] theorem State.job?_raiseLow (k : Nat) (i' : Nat) :
    (s.raiseLow k).job? i' = s.job? i' :=
  State.job?_congr (s.raiseLow_sm k) i'

@[simp] theorem State.object_admitText (j : Job) (text : List Byte) (o' : ObjectId) :
    (s.admitText j text).object o' = s.object o' :=
  State.object_congr (s.admitText_hm j text) o'

@[simp] theorem State.port_admitText (j : Job) (text : List Byte) (n' : PortNo) :
    (s.admitText j text).port n' = s.port n' :=
  State.port_congr (s.admitText_ports j text) n'

@[simp] theorem State.seg_admitText (j : Job) (text : List Byte) (g' : Seg) :
    (s.admitText j text).seg g' = s.seg g' :=
  State.seg_congr (s.admitText_ti j text) g'

@[simp] theorem State.object_openJob (src : Source) (copies : Nat) (p : Priority) (o' : ObjectId) :
    (s.openJob src copies p).object o' = s.object o' :=
  State.object_congr (s.openJob_hm src copies p) o'

@[simp] theorem State.entry_openJob (src : Source) (copies : Nat) (p : Priority) (a' : Address) :
    (s.openJob src copies p).entry a' = s.entry a' :=
  State.entry_congr (s.openJob_sd src copies p) a'

@[simp] theorem State.seg_openJob (src : Source) (copies : Nat) (p : Priority) (g' : Seg) :
    (s.openJob src copies p).seg g' = s.seg g' :=
  State.seg_congr (s.openJob_ti src copies p) g'

@[simp] theorem State.object_removeJob (j : Job) (e : Ending) (o' : ObjectId) :
    (s.removeJob j e).object o' = s.object o' :=
  State.object_congr (s.removeJob_hm j e) o'

@[simp] theorem State.seg_removeJob (j : Job) (e : Ending) (g' : Seg) :
    (s.removeJob j e).seg g' = s.seg g' :=
  State.seg_congr (s.removeJob_ti j e) g'

@[simp] theorem State.object_discardOpen (n : PortNo) (o' : ObjectId) :
    (s.discardOpen n).object o' = s.object o' :=
  State.object_congr (s.discardOpen_hm n) o'

@[simp] theorem State.seg_discardOpen (n : PortNo) (g' : Seg) :
    (s.discardOpen n).seg g' = s.seg g' :=
  State.seg_congr (s.discardOpen_ti n) g'

@[simp] theorem State.object_enqueue (j : Job) (o' : ObjectId) :
    (s.enqueue j).object o' = s.object o' :=
  State.object_congr (s.enqueue_hm j) o'

@[simp] theorem State.entry_enqueue (j : Job) (a' : Address) :
    (s.enqueue j).entry a' = s.entry a' :=
  State.entry_congr (s.enqueue_sd j) a'

@[simp] theorem State.seg_enqueue (j : Job) (g' : Seg) :
    (s.enqueue j).seg g' = s.seg g' :=
  State.seg_congr (s.enqueue_ti j) g'

@[simp] theorem State.object_tryStrobe (o' : ObjectId) :
    (s.tryStrobe).object o' = s.object o' :=
  State.object_congr (s.tryStrobe_hm) o'

@[simp] theorem State.entry_tryStrobe (a' : Address) :
    (s.tryStrobe).entry a' = s.entry a' :=
  State.entry_congr (s.tryStrobe_sd) a'

@[simp] theorem State.port_tryStrobe (n' : PortNo) :
    (s.tryStrobe).port n' = s.port n' :=
  State.port_congr (s.tryStrobe_ports) n'

@[simp] theorem State.seg_tryStrobe (g' : Seg) :
    (s.tryStrobe).seg g' = s.seg g' :=
  State.seg_congr (s.tryStrobe_ti) g'

@[simp] theorem State.job?_tryStrobe (i' : Nat) :
    (s.tryStrobe).job? i' = s.job? i' :=
  State.job?_congr (s.tryStrobe_sm) i'

@[simp] theorem State.object_stall (r : StallReason) (o' : ObjectId) :
    (s.stall r).object o' = s.object o' :=
  State.object_congr (s.stall_hm r) o'

@[simp] theorem State.entry_stall (r : StallReason) (a' : Address) :
    (s.stall r).entry a' = s.entry a' :=
  State.entry_congr (s.stall_sd r) a'

@[simp] theorem State.port_stall (r : StallReason) (n' : PortNo) :
    (s.stall r).port n' = s.port n' :=
  State.port_congr (s.stall_ports r) n'

@[simp] theorem State.seg_stall (r : StallReason) (g' : Seg) :
    (s.stall r).seg g' = s.seg g' :=
  State.seg_congr (s.stall_ti r) g'

@[simp] theorem State.job?_stall (r : StallReason) (i' : Nat) :
    (s.stall r).job? i' = s.job? i' :=
  State.job?_congr (s.stall_sm r) i'

@[simp] theorem State.object_characterDue (o' : ObjectId) :
    (s.characterDue).object o' = s.object o' :=
  State.object_congr (s.characterDue_hm) o'

@[simp] theorem State.entry_characterDue (a' : Address) :
    (s.characterDue).entry a' = s.entry a' :=
  State.entry_congr (s.characterDue_sd) a'

@[simp] theorem State.port_characterDue (n' : PortNo) :
    (s.characterDue).port n' = s.port n' :=
  State.port_congr (s.characterDue_ports) n'

@[simp] theorem State.seg_characterDue (g' : Seg) :
    (s.characterDue).seg g' = s.seg g' :=
  State.seg_congr (s.characterDue_ti) g'

@[simp] theorem State.job?_characterDue (i' : Nat) :
    (s.characterDue).job? i' = s.job? i' :=
  State.job?_congr (s.characterDue_sm) i'

@[simp] theorem State.object_copyStart (id : Nat) (o' : ObjectId) :
    (s.copyStart id).object o' = s.object o' :=
  State.object_congr (s.copyStart_hm id) o'

@[simp] theorem State.entry_copyStart (id : Nat) (a' : Address) :
    (s.copyStart id).entry a' = s.entry a' :=
  State.entry_congr (s.copyStart_sd id) a'

@[simp] theorem State.port_copyStart (id : Nat) (n' : PortNo) :
    (s.copyStart id).port n' = s.port n' :=
  State.port_congr (s.copyStart_ports id) n'

@[simp] theorem State.seg_copyStart (id : Nat) (g' : Seg) :
    (s.copyStart id).seg g' = s.seg g' :=
  State.seg_congr (s.copyStart_ti id) g'

@[simp] theorem State.object_toPageMark (id : Nat) (o' : ObjectId) :
    (s.toPageMark id).object o' = s.object o' :=
  State.object_congr (s.toPageMark_hm id) o'

@[simp] theorem State.entry_toPageMark (id : Nat) (a' : Address) :
    (s.toPageMark id).entry a' = s.entry a' :=
  State.entry_congr (s.toPageMark_sd id) a'

@[simp] theorem State.port_toPageMark (id : Nat) (n' : PortNo) :
    (s.toPageMark id).port n' = s.port n' :=
  State.port_congr (s.toPageMark_ports id) n'

@[simp] theorem State.seg_toPageMark (id : Nat) (g' : Seg) :
    (s.toPageMark id).seg g' = s.seg g' :=
  State.seg_congr (s.toPageMark_ti id) g'

@[simp] theorem State.object_enterRunning (o' : ObjectId) :
    (s.enterRunning).object o' = s.object o' :=
  State.object_congr (s.enterRunning_hm) o'

@[simp] theorem State.entry_enterRunning (a' : Address) :
    (s.enterRunning).entry a' = s.entry a' :=
  State.entry_congr (s.enterRunning_sd) a'

@[simp] theorem State.port_enterRunning (n' : PortNo) :
    (s.enterRunning).port n' = s.port n' :=
  State.port_congr (s.enterRunning_ports) n'

@[simp] theorem State.seg_enterRunning (g' : Seg) :
    (s.enterRunning).seg g' = s.seg g' :=
  State.seg_congr (s.enterRunning_ti) g'

@[simp] theorem State.object_select (j : Job) (o' : ObjectId) :
    (s.select j).object o' = s.object o' :=
  State.object_congr (s.select_hm j) o'

@[simp] theorem State.entry_select (j : Job) (a' : Address) :
    (s.select j).entry a' = s.entry a' :=
  State.entry_congr (s.select_sd j) a'

@[simp] theorem State.seg_select (j : Job) (g' : Seg) :
    (s.select j).seg g' = s.seg g' :=
  State.seg_congr (s.select_ti j) g'

@[simp] theorem State.object_selectIfIdle (o' : ObjectId) :
    (s.selectIfIdle).object o' = s.object o' :=
  State.object_congr (s.selectIfIdle_hm) o'

@[simp] theorem State.entry_selectIfIdle (a' : Address) :
    (s.selectIfIdle).entry a' = s.entry a' :=
  State.entry_congr (s.selectIfIdle_sd) a'

@[simp] theorem State.seg_selectIfIdle (g' : Seg) :
    (s.selectIfIdle).seg g' = s.seg g' :=
  State.seg_congr (s.selectIfIdle_ti) g'

@[simp] theorem State.object_enterByReadiness (o' : ObjectId) :
    (s.enterByReadiness).object o' = s.object o' :=
  State.object_congr (s.enterByReadiness_hm) o'

@[simp] theorem State.entry_enterByReadiness (a' : Address) :
    (s.enterByReadiness).entry a' = s.entry a' :=
  State.entry_congr (s.enterByReadiness_sd) a'

@[simp] theorem State.seg_enterByReadiness (g' : Seg) :
    (s.enterByReadiness).seg g' = s.seg g' :=
  State.seg_congr (s.enterByReadiness_ti) g'

@[simp] theorem State.object_reportEngine (b : EngineState) (o' : ObjectId) :
    (s.reportEngine b).object o' = s.object o' :=
  State.object_congr (s.reportEngine_hm b) o'

@[simp] theorem State.entry_reportEngine (b : EngineState) (a' : Address) :
    (s.reportEngine b).entry a' = s.entry a' :=
  State.entry_congr (s.reportEngine_sd b) a'

@[simp] theorem State.port_reportEngine (b : EngineState) (n' : PortNo) :
    (s.reportEngine b).port n' = s.port n' :=
  State.port_congr (s.reportEngine_ports b) n'

@[simp] theorem State.seg_reportEngine (b : EngineState) (g' : Seg) :
    (s.reportEngine b).seg g' = s.seg g' :=
  State.seg_congr (s.reportEngine_ti b) g'

@[simp] theorem State.job?_reportEngine (b : EngineState) (i' : Nat) :
    (s.reportEngine b).job? i' = s.job? i' :=
  State.job?_congr (s.reportEngine_sm b) i'

@[simp] theorem State.object_proceed (o' : ObjectId) :
    (s.proceed).object o' = s.object o' :=
  State.object_congr (s.proceed_hm) o'

@[simp] theorem State.entry_proceed (a' : Address) :
    (s.proceed).entry a' = s.entry a' :=
  State.entry_congr (s.proceed_sd) a'

@[simp] theorem State.seg_proceed (g' : Seg) :
    (s.proceed).seg g' = s.seg g' :=
  State.seg_congr (s.proceed_ti) g'

@[simp] theorem State.object_endJob (e : Ending) (o' : ObjectId) :
    (s.endJob e).object o' = s.object o' :=
  State.object_congr (s.endJob_hm e) o'

@[simp] theorem State.seg_endJob (e : Ending) (g' : Seg) :
    (s.endJob e).seg g' = s.seg g' :=
  State.seg_congr (s.endJob_ti e) g'

@[simp] theorem State.object_returnToQueue (o' : ObjectId) :
    (s.returnToQueue).object o' = s.object o' :=
  State.object_congr (s.returnToQueue_hm) o'

@[simp] theorem State.entry_returnToQueue (a' : Address) :
    (s.returnToQueue).entry a' = s.entry a' :=
  State.entry_congr (s.returnToQueue_sd) a'

@[simp] theorem State.seg_returnToQueue (g' : Seg) :
    (s.returnToQueue).seg g' = s.seg g' :=
  State.seg_congr (s.returnToQueue_ti) g'

@[simp] theorem State.object_afterHandshake (u : Option StallReason) (o' : ObjectId) :
    (s.afterHandshake u).object o' = s.object o' :=
  State.object_congr (s.afterHandshake_hm u) o'

@[simp] theorem State.entry_afterHandshake (u : Option StallReason) (a' : Address) :
    (s.afterHandshake u).entry a' = s.entry a' :=
  State.entry_congr (s.afterHandshake_sd u) a'

@[simp] theorem State.seg_afterHandshake (u : Option StallReason) (g' : Seg) :
    (s.afterHandshake u).seg g' = s.seg g' :=
  State.seg_congr (s.afterHandshake_ti u) g'

@[simp] theorem State.object_copyEnd (j : Job) (o' : ObjectId) :
    (s.copyEnd j).object o' = s.object o' :=
  State.object_congr (s.copyEnd_hm j) o'

@[simp] theorem State.seg_copyEnd (j : Job) (g' : Seg) :
    (s.copyEnd j).seg g' = s.seg g' :=
  State.seg_congr (s.copyEnd_ti j) g'

@[simp] theorem State.object_textTaken (j : Job) (p : Position) (o' : ObjectId) :
    (s.textTaken j p).object o' = s.object o' :=
  State.object_congr (s.textTaken_hm j p) o'

@[simp] theorem State.seg_textTaken (j : Job) (p : Position) (g' : Seg) :
    (s.textTaken j p).seg g' = s.seg g' :=
  State.seg_congr (s.textTaken_ti j p) g'

@[simp] theorem State.object_handshakeEnds (o' : ObjectId) :
    (s.handshakeEnds).object o' = s.object o' :=
  State.object_congr (s.handshakeEnds_hm) o'

@[simp] theorem State.entry_handshakeEnds (a' : Address) :
    (s.handshakeEnds).entry a' = s.entry a' :=
  State.entry_congr (s.handshakeEnds_sd) a'

@[simp] theorem State.port_handshakeEnds (n' : PortNo) :
    (s.handshakeEnds).port n' = s.port n' :=
  State.port_congr (s.handshakeEnds_ports) n'

@[simp] theorem State.seg_handshakeEnds (g' : Seg) :
    (s.handshakeEnds).seg g' = s.seg g' :=
  State.seg_congr (s.handshakeEnds_ti) g'

@[simp] theorem State.job?_handshakeEnds (i' : Nat) :
    (s.handshakeEnds).job? i' = s.job? i' :=
  State.job?_congr (s.handshakeEnds_sm) i'

@[simp] theorem State.object_characterTaken (o' : ObjectId) :
    (s.characterTaken).object o' = s.object o' :=
  State.object_congr (s.characterTaken_hm) o'

@[simp] theorem State.seg_characterTaken (g' : Seg) :
    (s.characterTaken).seg g' = s.seg g' :=
  State.seg_congr (s.characterTaken_ti) g'

@[simp] theorem State.object_characterLost (o' : ObjectId) :
    (s.characterLost).object o' = s.object o' :=
  State.object_congr (s.characterLost_hm) o'

@[simp] theorem State.seg_characterLost (g' : Seg) :
    (s.characterLost).seg g' = s.seg g' :=
  State.seg_congr (s.characterLost_ti) g'

@[simp] theorem State.object_stopEngine (o' : ObjectId) :
    (s.stopEngine).object o' = s.object o' :=
  State.object_congr (s.stopEngine_hm) o'

@[simp] theorem State.seg_stopEngine (g' : Seg) :
    (s.stopEngine).seg g' = s.seg g' :=
  State.seg_congr (s.stopEngine_ti) g'

@[simp] theorem State.object_disableEngine (o' : ObjectId) :
    (s.disableEngine).object o' = s.object o' :=
  State.object_congr (s.disableEngine_hm) o'

@[simp] theorem State.entry_disableEngine (a' : Address) :
    (s.disableEngine).entry a' = s.entry a' :=
  State.entry_congr (s.disableEngine_sd) a'

@[simp] theorem State.seg_disableEngine (g' : Seg) :
    (s.disableEngine).seg g' = s.seg g' :=
  State.seg_congr (s.disableEngine_ti) g'

@[simp] theorem State.object_enableEngine (o' : ObjectId) :
    (s.enableEngine).object o' = s.object o' :=
  State.object_congr (s.enableEngine_hm) o'

@[simp] theorem State.entry_enableEngine (a' : Address) :
    (s.enableEngine).entry a' = s.entry a' :=
  State.entry_congr (s.enableEngine_sd) a'

@[simp] theorem State.seg_enableEngine (g' : Seg) :
    (s.enableEngine).seg g' = s.seg g' :=
  State.seg_congr (s.enableEngine_ti) g'

@[simp] theorem State.object_offerJobs (o' : ObjectId) :
    (s.offerJobs).object o' = s.object o' :=
  State.object_congr (s.offerJobs_hm) o'

@[simp] theorem State.entry_offerJobs (a' : Address) :
    (s.offerJobs).entry a' = s.entry a' :=
  State.entry_congr (s.offerJobs_sd) a'

@[simp] theorem State.seg_offerJobs (g' : Seg) :
    (s.offerJobs).seg g' = s.seg g' :=
  State.seg_congr (s.offerJobs_ti) g'

@[simp] theorem State.object_resume (o' : ObjectId) :
    (s.resume).object o' = s.object o' :=
  State.object_congr (s.resume_hm) o'

@[simp] theorem State.entry_resume (a' : Address) :
    (s.resume).entry a' = s.entry a' :=
  State.entry_congr (s.resume_sd) a'

@[simp] theorem State.port_resume (n' : PortNo) :
    (s.resume).port n' = s.port n' :=
  State.port_congr (s.resume_ports) n'

@[simp] theorem State.seg_resume (g' : Seg) :
    (s.resume).seg g' = s.seg g' :=
  State.seg_congr (s.resume_ti) g'

@[simp] theorem State.job?_resume (i' : Nat) :
    (s.resume).job? i' = s.job? i' :=
  State.job?_congr (s.resume_sm) i'

@[simp] theorem State.object_rewind (o' : ObjectId) :
    (s.rewind).object o' = s.object o' :=
  State.object_congr (s.rewind_hm) o'

@[simp] theorem State.entry_rewind (a' : Address) :
    (s.rewind).entry a' = s.entry a' :=
  State.entry_congr (s.rewind_sd) a'

@[simp] theorem State.port_rewind (n' : PortNo) :
    (s.rewind).port n' = s.port n' :=
  State.port_congr (s.rewind_ports) n'

@[simp] theorem State.seg_rewind (g' : Seg) :
    (s.rewind).seg g' = s.seg g' :=
  State.seg_congr (s.rewind_ti) g'

@[simp] theorem State.object_resumeFromMark (o' : ObjectId) :
    (s.resumeFromMark).object o' = s.object o' :=
  State.object_congr (s.resumeFromMark_hm) o'

@[simp] theorem State.entry_resumeFromMark (a' : Address) :
    (s.resumeFromMark).entry a' = s.entry a' :=
  State.entry_congr (s.resumeFromMark_sd) a'

@[simp] theorem State.port_resumeFromMark (n' : PortNo) :
    (s.resumeFromMark).port n' = s.port n' :=
  State.port_congr (s.resumeFromMark_ports) n'

@[simp] theorem State.seg_resumeFromMark (g' : Seg) :
    (s.resumeFromMark).seg g' = s.seg g' :=
  State.seg_congr (s.resumeFromMark_ti) g'

@[simp] theorem State.object_resumeByPolicy (o' : ObjectId) :
    (s.resumeByPolicy).object o' = s.object o' :=
  State.object_congr (s.resumeByPolicy_hm) o'

@[simp] theorem State.entry_resumeByPolicy (a' : Address) :
    (s.resumeByPolicy).entry a' = s.entry a' :=
  State.entry_congr (s.resumeByPolicy_sd) a'

@[simp] theorem State.port_resumeByPolicy (n' : PortNo) :
    (s.resumeByPolicy).port n' = s.port n' :=
  State.port_congr (s.resumeByPolicy_ports) n'

@[simp] theorem State.seg_resumeByPolicy (g' : Seg) :
    (s.resumeByPolicy).seg g' = s.seg g' :=
  State.seg_congr (s.resumeByPolicy_ti) g'

@[simp] theorem State.object_resumePrinter (o' : ObjectId) :
    (s.resumePrinter).object o' = s.object o' :=
  State.object_congr (s.resumePrinter_hm) o'

@[simp] theorem State.entry_resumePrinter (a' : Address) :
    (s.resumePrinter).entry a' = s.entry a' :=
  State.entry_congr (s.resumePrinter_sd) a'

@[simp] theorem State.port_resumePrinter (n' : PortNo) :
    (s.resumePrinter).port n' = s.port n' :=
  State.port_congr (s.resumePrinter_ports) n'

@[simp] theorem State.seg_resumePrinter (g' : Seg) :
    (s.resumePrinter).seg g' = s.seg g' :=
  State.seg_congr (s.resumePrinter_ti) g'

@[simp] theorem State.object_lineChanged (l : PrinterLine) (h : Bool) (o' : ObjectId) :
    (s.lineChanged l h).object o' = s.object o' :=
  State.object_congr (s.lineChanged_hm l h) o'

@[simp] theorem State.entry_lineChanged (l : PrinterLine) (h : Bool) (a' : Address) :
    (s.lineChanged l h).entry a' = s.entry a' :=
  State.entry_congr (s.lineChanged_sd l h) a'

@[simp] theorem State.seg_lineChanged (l : PrinterLine) (h : Bool) (g' : Seg) :
    (s.lineChanged l h).seg g' = s.seg g' :=
  State.seg_congr (s.lineChanged_ti l h) g'

@[simp] theorem State.object_grantChanged (h : Bool) (o' : ObjectId) :
    (s.grantChanged h).object o' = s.object o' :=
  State.object_congr (s.grantChanged_hm h) o'

@[simp] theorem State.entry_grantChanged (h : Bool) (a' : Address) :
    (s.grantChanged h).entry a' = s.entry a' :=
  State.entry_congr (s.grantChanged_sd h) a'

@[simp] theorem State.port_grantChanged (h : Bool) (n' : PortNo) :
    (s.grantChanged h).port n' = s.port n' :=
  State.port_congr (s.grantChanged_ports h) n'

@[simp] theorem State.seg_grantChanged (h : Bool) (g' : Seg) :
    (s.grantChanged h).seg g' = s.seg g' :=
  State.seg_congr (s.grantChanged_ti h) g'

@[simp] theorem State.object_closeJob (j : Job) (o' : ObjectId) :
    (s.closeJob j).object o' = s.object o' :=
  State.object_congr (s.closeJob_hm j) o'

@[simp] theorem State.seg_closeJob (j : Job) (g' : Seg) :
    (s.closeJob j).seg g' = s.seg g' :=
  State.seg_congr (s.closeJob_ti j) g'

@[simp] theorem State.object_cancelJob (j : Job) (o' : ObjectId) :
    (s.cancelJob j).object o' = s.object o' :=
  State.object_congr (s.cancelJob_hm j) o'

@[simp] theorem State.seg_cancelJob (j : Job) (g' : Seg) :
    (s.cancelJob j).seg g' = s.seg g' :=
  State.seg_congr (s.cancelJob_ti j) g'

@[simp] theorem State.object_idleExpired (j : Job) (o' : ObjectId) :
    (s.idleExpired j).object o' = s.object o' :=
  State.object_congr (s.idleExpired_hm j) o'

@[simp] theorem State.seg_idleExpired (j : Job) (g' : Seg) :
    (s.idleExpired j).seg g' = s.seg g' :=
  State.seg_congr (s.idleExpired_ti j) g'

@[simp] theorem State.object_printEffect (src : Source) (k : Byte) (p : List Byte) (o' : ObjectId) :
    (s.printEffect src k p).object o' = s.object o' :=
  State.object_congr (s.printEffect_hm src k p) o'

@[simp] theorem State.seg_printEffect (src : Source) (k : Byte) (p : List Byte) (g' : Seg) :
    (s.printEffect src k p).seg g' = s.seg g' :=
  State.seg_congr (s.printEffect_ti src k p) g'

@[simp] theorem State.object_primaryClose (o' : ObjectId) :
    (s.primaryClose).object o' = s.object o' :=
  State.object_congr (s.primaryClose_hm) o'

@[simp] theorem State.seg_primaryClose (g' : Seg) :
    (s.primaryClose).seg g' = s.seg g' :=
  State.seg_congr (s.primaryClose_ti) g'

@[simp] theorem State.object_setJobState (j : Job) (st : JobState) (x : NoticeState) (o' : ObjectId) :
    (s.setJobState j st x).object o' = s.object o' :=
  State.object_congr (s.setJobState_hm j st x) o'

@[simp] theorem State.entry_setJobState (j : Job) (st : JobState) (x : NoticeState) (a' : Address) :
    (s.setJobState j st x).entry a' = s.entry a' :=
  State.entry_congr (s.setJobState_sd j st x) a'

@[simp] theorem State.seg_setJobState (j : Job) (st : JobState) (x : NoticeState) (g' : Seg) :
    (s.setJobState j st x).seg g' = s.seg g' :=
  State.seg_congr (s.setJobState_ti j st x) g'

@[simp] theorem State.object_promote (j : Job) (o' : ObjectId) :
    (s.promote j).object o' = s.object o' :=
  State.object_congr (s.promote_hm j) o'

@[simp] theorem State.entry_promote (j : Job) (a' : Address) :
    (s.promote j).entry a' = s.entry a' :=
  State.entry_congr (s.promote_sd j) a'

@[simp] theorem State.seg_promote (j : Job) (g' : Seg) :
    (s.promote j).seg g' = s.seg g' :=
  State.seg_congr (s.promote_ti j) g'

@[simp] theorem State.object_reachBoundary (g : Seg) (o' : ObjectId) :
    (s.reachBoundary g).object o' = s.object o' :=
  State.object_congr (s.reachBoundary_hm g) o'

@[simp] theorem State.entry_reachBoundary (g : Seg) (a' : Address) :
    (s.reachBoundary g).entry a' = s.entry a' :=
  State.entry_congr (s.reachBoundary_sd g) a'

@[simp] theorem State.port_reachBoundary (g : Seg) (n' : PortNo) :
    (s.reachBoundary g).port n' = s.port n' :=
  State.port_congr (s.reachBoundary_ports g) n'

@[simp] theorem State.job?_reachBoundary (g : Seg) (i' : Nat) :
    (s.reachBoundary g).job? i' = s.job? i' :=
  State.job?_congr (s.reachBoundary_sm g) i'

@[simp] theorem State.object_takeUp (g : Seg) (o' : ObjectId) :
    (s.takeUp g).object o' = s.object o' :=
  State.object_congr (s.takeUp_hm g) o'

@[simp] theorem State.entry_takeUp (g : Seg) (a' : Address) :
    (s.takeUp g).entry a' = s.entry a' :=
  State.entry_congr (s.takeUp_sd g) a'

@[simp] theorem State.port_takeUp (g : Seg) (n' : PortNo) :
    (s.takeUp g).port n' = s.port n' :=
  State.port_congr (s.takeUp_ports g) n'

@[simp] theorem State.job?_takeUp (g : Seg) (i' : Nat) :
    (s.takeUp g).job? i' = s.job? i' :=
  State.job?_congr (s.takeUp_sm g) i'

@[simp] theorem State.object_takeUpBoth (o' : ObjectId) :
    (s.takeUpBoth).object o' = s.object o' :=
  State.object_congr (s.takeUpBoth_hm) o'

@[simp] theorem State.entry_takeUpBoth (a' : Address) :
    (s.takeUpBoth).entry a' = s.entry a' :=
  State.entry_congr (s.takeUpBoth_sd) a'

@[simp] theorem State.port_takeUpBoth (n' : PortNo) :
    (s.takeUpBoth).port n' = s.port n' :=
  State.port_congr (s.takeUpBoth_ports) n'

@[simp] theorem State.job?_takeUpBoth (i' : Nat) :
    (s.takeUpBoth).job? i' = s.job? i' :=
  State.job?_congr (s.takeUpBoth_sm) i'

@[simp] theorem State.object_writeTrunkProfile (p : TrunkProfile) (o' : ObjectId) :
    (s.writeTrunkProfile p).object o' = s.object o' :=
  State.object_congr (s.writeTrunkProfile_hm p) o'

@[simp] theorem State.entry_writeTrunkProfile (p : TrunkProfile) (a' : Address) :
    (s.writeTrunkProfile p).entry a' = s.entry a' :=
  State.entry_congr (s.writeTrunkProfile_sd p) a'

@[simp] theorem State.port_writeTrunkProfile (p : TrunkProfile) (n' : PortNo) :
    (s.writeTrunkProfile p).port n' = s.port n' :=
  State.port_congr (s.writeTrunkProfile_ports p) n'

@[simp] theorem State.job?_writeTrunkProfile (p : TrunkProfile) (i' : Nat) :
    (s.writeTrunkProfile p).job? i' = s.job? i' :=
  State.job?_congr (s.writeTrunkProfile_sm p) i'

@[simp] theorem State.object_forwardChar (g : Seg) (ch : TrunkChar) (o' : ObjectId) :
    (s.forwardChar g ch).object o' = s.object o' :=
  State.object_congr (s.forwardChar_hm g ch) o'

@[simp] theorem State.entry_forwardChar (g : Seg) (ch : TrunkChar) (a' : Address) :
    (s.forwardChar g ch).entry a' = s.entry a' :=
  State.entry_congr (s.forwardChar_sd g ch) a'

@[simp] theorem State.port_forwardChar (g : Seg) (ch : TrunkChar) (n' : PortNo) :
    (s.forwardChar g ch).port n' = s.port n' :=
  State.port_congr (s.forwardChar_ports g ch) n'

@[simp] theorem State.job?_forwardChar (g : Seg) (ch : TrunkChar) (i' : Nat) :
    (s.forwardChar g ch).job? i' = s.job? i' :=
  State.job?_congr (s.forwardChar_sm g ch) i'

@[simp] theorem State.object_endSource (g : Seg) (o' : ObjectId) :
    (s.endSource g).object o' = s.object o' :=
  State.object_congr (s.endSource_hm g) o'

@[simp] theorem State.entry_endSource (g : Seg) (a' : Address) :
    (s.endSource g).entry a' = s.entry a' :=
  State.entry_congr (s.endSource_sd g) a'

@[simp] theorem State.port_endSource (g : Seg) (n' : PortNo) :
    (s.endSource g).port n' = s.port n' :=
  State.port_congr (s.endSource_ports g) n'

@[simp] theorem State.job?_endSource (g : Seg) (i' : Nat) :
    (s.endSource g).job? i' = s.job? i' :=
  State.job?_congr (s.endSource_sm g) i'

@[simp] theorem State.object_stopCopy (g : Seg) (o' : ObjectId) :
    (s.stopCopy g).object o' = s.object o' :=
  State.object_congr (s.stopCopy_hm g) o'

@[simp] theorem State.entry_stopCopy (g : Seg) (a' : Address) :
    (s.stopCopy g).entry a' = s.entry a' :=
  State.entry_congr (s.stopCopy_sd g) a'

@[simp] theorem State.port_stopCopy (g : Seg) (n' : PortNo) :
    (s.stopCopy g).port n' = s.port n' :=
  State.port_congr (s.stopCopy_ports g) n'

@[simp] theorem State.job?_stopCopy (g : Seg) (i' : Nat) :
    (s.stopCopy g).job? i' = s.job? i' :=
  State.job?_congr (s.stopCopy_sm g) i'

@[simp] theorem State.object_disarmStation (g : Seg) (a : Address) (o' : ObjectId) :
    (s.disarmStation g a).object o' = s.object o' :=
  State.object_congr (s.disarmStation_hm g a) o'

@[simp] theorem State.entry_disarmStation (g : Seg) (a : Address) (a' : Address) :
    (s.disarmStation g a).entry a' = s.entry a' :=
  State.entry_congr (s.disarmStation_sd g a) a'

@[simp] theorem State.port_disarmStation (g : Seg) (a : Address) (n' : PortNo) :
    (s.disarmStation g a).port n' = s.port n' :=
  State.port_congr (s.disarmStation_ports g a) n'

@[simp] theorem State.job?_disarmStation (g : Seg) (a : Address) (i' : Nat) :
    (s.disarmStation g a).job? i' = s.job? i' :=
  State.job?_congr (s.disarmStation_sm g a) i'

@[simp] theorem State.entry_abandonStationProbe (a' : Address) :
    (s.abandonStationProbe).entry a' = s.entry a' :=
  State.entry_congr (s.abandonStationProbe_sd) a'

@[simp] theorem State.port_abandonStationProbe (n' : PortNo) :
    (s.abandonStationProbe).port n' = s.port n' :=
  State.port_congr (s.abandonStationProbe_ports) n'

@[simp] theorem State.job?_abandonStationProbe (i' : Nat) :
    (s.abandonStationProbe).job? i' = s.job? i' :=
  State.job?_congr (s.abandonStationProbe_sm) i'

@[simp] theorem State.entry_cutSegmentB (a' : Address) :
    (s.cutSegmentB).entry a' = s.entry a' :=
  State.entry_congr (s.cutSegmentB_sd) a'

@[simp] theorem State.port_cutSegmentB (n' : PortNo) :
    (s.cutSegmentB).port n' = s.port n' :=
  State.port_congr (s.cutSegmentB_ports) n'

@[simp] theorem State.job?_cutSegmentB (i' : Nat) :
    (s.cutSegmentB).job? i' = s.job? i' :=
  State.job?_congr (s.cutSegmentB_sm) i'

@[simp] theorem State.object_cutStation (a : Address) (o' : ObjectId) :
    (s.cutStation a).object o' = s.object o' :=
  State.object_congr (s.cutStation_hm a) o'

@[simp] theorem State.entry_cutStation (a : Address) (a' : Address) :
    (s.cutStation a).entry a' = s.entry a' :=
  State.entry_congr (s.cutStation_sd a) a'

@[simp] theorem State.port_cutStation (a : Address) (n' : PortNo) :
    (s.cutStation a).port n' = s.port n' :=
  State.port_congr (s.cutStation_ports a) n'

@[simp] theorem State.job?_cutStation (a : Address) (i' : Nat) :
    (s.cutStation a).job? i' = s.job? i' :=
  State.job?_congr (s.cutStation_sm a) i'

@[simp] theorem State.entry_restoreSegmentB (a' : Address) :
    (s.restoreSegmentB).entry a' = s.entry a' :=
  State.entry_congr (s.restoreSegmentB_sd) a'

@[simp] theorem State.port_restoreSegmentB (n' : PortNo) :
    (s.restoreSegmentB).port n' = s.port n' :=
  State.port_congr (s.restoreSegmentB_ports) n'

@[simp] theorem State.job?_restoreSegmentB (i' : Nat) :
    (s.restoreSegmentB).job? i' = s.job? i' :=
  State.job?_congr (s.restoreSegmentB_sm) i'

@[simp] theorem State.entry_restoreStation (a : Address) (a' : Address) :
    (s.restoreStation a).entry a' = s.entry a' :=
  State.entry_congr (s.restoreStation_sd a) a'

@[simp] theorem State.port_restoreStation (a : Address) (n' : PortNo) :
    (s.restoreStation a).port n' = s.port n' :=
  State.port_congr (s.restoreStation_ports a) n'

@[simp] theorem State.seg_restoreStation (a : Address) (g' : Seg) :
    (s.restoreStation a).seg g' = s.seg g' :=
  State.seg_congr (s.restoreStation_ti a) g'

@[simp] theorem State.job?_restoreStation (a : Address) (i' : Nat) :
    (s.restoreStation a).job? i' = s.job? i' :=
  State.job?_congr (s.restoreStation_sm a) i'

@[simp] theorem State.object_commit (t : Taking) (k : Nat) (c : ReplyCode) (m : List Byte) (o' : ObjectId) :
    (s.commit t k c m).object o' = s.object o' :=
  State.object_congr (s.commit_hm t k c m) o'

@[simp] theorem State.entry_commit (t : Taking) (k : Nat) (c : ReplyCode) (m : List Byte) (a' : Address) :
    (s.commit t k c m).entry a' = s.entry a' :=
  State.entry_congr (s.commit_sd t k c m) a'

@[simp] theorem State.port_commit (t : Taking) (k : Nat) (c : ReplyCode) (m : List Byte) (n' : PortNo) :
    (s.commit t k c m).port n' = s.port n' :=
  State.port_congr (s.commit_ports t k c m) n'

@[simp] theorem State.job?_commit (t : Taking) (k : Nat) (c : ReplyCode) (m : List Byte) (i' : Nat) :
    (s.commit t k c m).job? i' = s.job? i' :=
  State.job?_congr (s.commit_sm t k c m) i'

@[simp] theorem State.object_commitEarly (t : Taking) (c : ReplyCode) (m : List Byte) (o' : ObjectId) :
    (s.commitEarly t c m).object o' = s.object o' :=
  State.object_congr (s.commitEarly_hm t c m) o'

@[simp] theorem State.entry_commitEarly (t : Taking) (c : ReplyCode) (m : List Byte) (a' : Address) :
    (s.commitEarly t c m).entry a' = s.entry a' :=
  State.entry_congr (s.commitEarly_sd t c m) a'

@[simp] theorem State.port_commitEarly (t : Taking) (c : ReplyCode) (m : List Byte) (n' : PortNo) :
    (s.commitEarly t c m).port n' = s.port n' :=
  State.port_congr (s.commitEarly_ports t c m) n'

@[simp] theorem State.job?_commitEarly (t : Taking) (c : ReplyCode) (m : List Byte) (i' : Nat) :
    (s.commitEarly t c m).job? i' = s.job? i' :=
  State.job?_congr (s.commitEarly_sm t c m) i'

@[simp] theorem State.object_fillNil (n : PortNo) (o' : ObjectId) :
    (s.fillNil n).object o' = s.object o' :=
  State.object_congr (s.fillNil_hm n) o'

@[simp] theorem State.entry_fillNil (n : PortNo) (a' : Address) :
    (s.fillNil n).entry a' = s.entry a' :=
  State.entry_congr (s.fillNil_sd n) a'

@[simp] theorem State.port_fillNil (n : PortNo) (n' : PortNo) :
    (s.fillNil n).port n' = s.port n' :=
  State.port_congr (s.fillNil_ports n) n'

@[simp] theorem State.job?_fillNil (n : PortNo) (i' : Nat) :
    (s.fillNil n).job? i' = s.job? i' :=
  State.job?_congr (s.fillNil_sm n) i'

@[simp] theorem State.object_fillOffline (n : PortNo) (o' : ObjectId) :
    (s.fillOffline n).object o' = s.object o' :=
  State.object_congr (s.fillOffline_hm n) o'

@[simp] theorem State.entry_fillOffline (n : PortNo) (a' : Address) :
    (s.fillOffline n).entry a' = s.entry a' :=
  State.entry_congr (s.fillOffline_sd n) a'

@[simp] theorem State.port_fillOffline (n : PortNo) (n' : PortNo) :
    (s.fillOffline n).port n' = s.port n' :=
  State.port_congr (s.fillOffline_ports n) n'

@[simp] theorem State.job?_fillOffline (n : PortNo) (i' : Nat) :
    (s.fillOffline n).job? i' = s.job? i' :=
  State.job?_congr (s.fillOffline_sm n) i'

@[simp] theorem State.object_fillData (n : PortNo) (m : List Byte) (o' : ObjectId) :
    (s.fillData n m).object o' = s.object o' :=
  State.object_congr (s.fillData_hm n m) o'

@[simp] theorem State.entry_fillData (n : PortNo) (m : List Byte) (a' : Address) :
    (s.fillData n m).entry a' = s.entry a' :=
  State.entry_congr (s.fillData_sd n m) a'

@[simp] theorem State.job?_fillData (n : PortNo) (m : List Byte) (i' : Nat) :
    (s.fillData n m).job? i' = s.job? i' :=
  State.job?_congr (s.fillData_sm n m) i'

@[simp] theorem State.object_isolatePort (n : PortNo) (o' : ObjectId) :
    (s.isolatePort n).object o' = s.object o' :=
  State.object_congr (s.isolatePort_hm n) o'

@[simp] theorem State.object_readmitPort (n : PortNo) (o' : ObjectId) :
    (s.readmitPort n).object o' = s.object o' :=
  State.object_congr (s.readmitPort_hm n) o'

@[simp] theorem State.entry_readmitPort (n : PortNo) (a' : Address) :
    (s.readmitPort n).entry a' = s.entry a' :=
  State.entry_congr (s.readmitPort_sd n) a'

@[simp] theorem State.seg_readmitPort (n : PortNo) (g' : Seg) :
    (s.readmitPort n).seg g' = s.seg g' :=
  State.seg_congr (s.readmitPort_ti n) g'

@[simp] theorem State.job?_readmitPort (n : PortNo) (i' : Nat) :
    (s.readmitPort n).job? i' = s.job? i' :=
  State.job?_congr (s.readmitPort_sm n) i'

@[simp] theorem State.object_reportObject (o : ObjectId) (d : HealthDetail) (l : PortState) (o' : ObjectId) :
    (s.reportObject o d l).object o' = s.object o' :=
  State.object_congr (s.reportObject_hm o d l) o'

@[simp] theorem State.entry_reportObject (o : ObjectId) (d : HealthDetail) (l : PortState) (a' : Address) :
    (s.reportObject o d l).entry a' = s.entry a' :=
  State.entry_congr (s.reportObject_sd o d l) a'

@[simp] theorem State.port_reportObject (o : ObjectId) (d : HealthDetail) (l : PortState) (n' : PortNo) :
    (s.reportObject o d l).port n' = s.port n' :=
  State.port_congr (s.reportObject_ports o d l) n'

@[simp] theorem State.seg_reportObject (o : ObjectId) (d : HealthDetail) (l : PortState) (g' : Seg) :
    (s.reportObject o d l).seg g' = s.seg g' :=
  State.seg_congr (s.reportObject_ti o d l) g'

@[simp] theorem State.job?_reportObject (o : ObjectId) (d : HealthDetail) (l : PortState) (i' : Nat) :
    (s.reportObject o d l).job? i' = s.job? i' :=
  State.job?_congr (s.reportObject_sm o d l) i'

@[simp] theorem State.entry_readmissionOrder (o : ObjectId) (a' : Address) :
    (s.readmissionOrder o).entry a' = s.entry a' :=
  State.entry_congr (s.readmissionOrder_sd o) a'

@[simp] theorem State.job?_readmissionOrder (o : ObjectId) (i' : Nat) :
    (s.readmissionOrder o).job? i' = s.job? i' :=
  State.job?_congr (s.readmissionOrder_sm o) i'

@[simp] theorem State.entry_readmitObject (o : ObjectId) (h : Health) (a' : Address) :
    (s.readmitObject o h).entry a' = s.entry a' :=
  State.entry_congr (s.readmitObject_sd o h) a'

@[simp] theorem State.job?_readmitObject (o : ObjectId) (h : Health) (i' : Nat) :
    (s.readmitObject o h).job? i' = s.job? i' :=
  State.job?_congr (s.readmitObject_sm o h) i'

@[simp] theorem State.entry_evaluateMark (o : ObjectId) (a' : Address) :
    (s.evaluateMark o).entry a' = s.entry a' :=
  State.entry_congr (s.evaluateMark_sd o) a'

@[simp] theorem State.port_evaluateMark (o : ObjectId) (n' : PortNo) :
    (s.evaluateMark o).port n' = s.port n' :=
  State.port_congr (s.evaluateMark_ports o) n'

@[simp] theorem State.seg_evaluateMark (o : ObjectId) (g' : Seg) :
    (s.evaluateMark o).seg g' = s.seg g' :=
  State.seg_congr (s.evaluateMark_ti o) g'

@[simp] theorem State.job?_evaluateMark (o : ObjectId) (i' : Nat) :
    (s.evaluateMark o).job? i' = s.job? i' :=
  State.job?_congr (s.evaluateMark_sm o) i'

@[simp] theorem State.entry_clearObject (o : ObjectId) (m : Bool) (a' : Address) :
    (s.clearObject o m).entry a' = s.entry a' :=
  State.entry_congr (s.clearObject_sd o m) a'

@[simp] theorem State.job?_clearObject (o : ObjectId) (m : Bool) (i' : Nat) :
    (s.clearObject o m).job? i' = s.job? i' :=
  State.job?_congr (s.clearObject_sm o m) i'

@[simp] theorem State.entry_clearKeeping (o : ObjectId) (a' : Address) :
    (s.clearKeeping o).entry a' = s.entry a' :=
  State.entry_congr (s.clearKeeping_sd o) a'

@[simp] theorem State.job?_clearKeeping (o : ObjectId) (i' : Nat) :
    (s.clearKeeping o).job? i' = s.job? i' :=
  State.job?_congr (s.clearKeeping_sm o) i'

@[simp] theorem State.job?_ageEntry (a : Address) (i' : Nat) :
    (s.ageEntry a).job? i' = s.job? i' :=
  State.job?_congr (s.ageEntry_sm a) i'

@[simp] theorem State.job?_raise (c : Cause) (n : Nat) (d : Detail) (i' : Nat) :
    (s.raise c n d).job? i' = s.job? i' := State.job?_congr (s.raise_sm c n d) i'

@[simp] theorem State.job?_setEntry (a : Address) (e : Entry) (i' : Nat) :
    (s.setEntry a e).job? i' = s.job? i' := State.job?_congr (s.setEntry_sm a e) i'

@[simp] theorem State.job?_setPort (n : PortNo) (p : Port) (i' : Nat) :
    (s.setPort n p).job? i' = s.job? i' := State.job?_congr (s.setPort_sm n p) i'

@[simp] theorem State.job?_mapPort (n : PortNo) (f : Port → Port) (i' : Nat) :
    (s.mapPort n f).job? i' = s.job? i' := State.job?_congr (s.mapPort_sm n f) i'

@[simp] theorem State.job?_setSeg (g : Seg) (x : Segment) (i' : Nat) :
    (s.setSeg g x).job? i' = s.job? i' := State.job?_congr (s.setSeg_sm g x) i'

@[simp] theorem State.job?_setObject (o : ObjectId) (h : HealthObject) (i' : Nat) :
    (s.setObject o h).job? i' = s.job? i' := State.job?_congr (s.setObject_sm o h) i'

@[simp] theorem State.job?_setHeld (src : Source) (n : Nat) (i' : Nat) :
    (s.setHeld src n).job? i' = s.job? i' := State.job?_congr (s.setHeld_sm src n) i'

@[simp] theorem State.job?_mapPe (f : Engine → Engine) (i' : Nat) :
    (s.mapPe f).job? i' = s.job? i' := State.job?_congr (s.mapPe_sm f) i'

@[simp] theorem State.job?_mapAl (f : AdminLink → AdminLink) (i' : Nat) :
    (s.mapAl f).job? i' = s.job? i' := State.job?_congr (s.mapAl_sm f) i'

@[simp] theorem State.job?_setProbe (p : Option Probe) (i' : Nat) :
    (s.setProbe p).job? i' = s.job? i' := State.job?_congr (s.setProbe_sm p) i'

@[simp] theorem State.job?_setGate (c : Bool) (i' : Nat) :
    (s.setGate c).job? i' = s.job? i' := State.job?_congr (s.setGate_sm c) i'

end Sys2Proof.Machine
end

