-- ==== Sys2Proof/Laws/HealthFrames.lean ====
section
/-! SUPPORT. What the orders and the evaluations of the Health Monitor leave: the health objects (orders), the settings, and
every field of the directory but the held counts. -/

set_option linter.unnecessarySeqFocus false
set_option linter.unusedTactic false
set_option linter.unreachableTactic false

namespace Sys2Proof.Machine

variable (s : State)

/-! ### Orders keep every score, state, flag and setting -/

@[simp] theorem State.object_abandonStationProbe (o' : ObjectId) :
    (s.abandonStationProbe).object o' = s.object o' := by
  unfold State.abandonStationProbe; (repeat' split) <;> (try dsimp only) <;> (repeat' split) <;> simp

@[simp] theorem State.abandonStationProbe_hm_suspect :
    (s.abandonStationProbe).hm.suspect = s.hm.suspect := by
  unfold State.abandonStationProbe; (repeat' split) <;> (try dsimp only) <;> (repeat' split) <;> simp

@[simp] theorem State.abandonStationProbe_hm_isolate :
    (s.abandonStationProbe).hm.isolate = s.hm.isolate := by
  unfold State.abandonStationProbe; (repeat' split) <;> (try dsimp only) <;> (repeat' split) <;> simp

@[simp] theorem State.abandonStationProbe_hm_readmit :
    (s.abandonStationProbe).hm.readmit = s.hm.readmit := by
  unfold State.abandonStationProbe; (repeat' split) <;> (try dsimp only) <;> (repeat' split) <;> simp

@[simp] theorem State.abandonStationProbe_hm_shift :
    (s.abandonStationProbe).hm.shift = s.hm.shift := by
  unfold State.abandonStationProbe; (repeat' split) <;> (try dsimp only) <;> (repeat' split) <;> simp

@[simp] theorem State.abandonStationProbe_hm_decayInterval :
    (s.abandonStationProbe).hm.decayInterval = s.hm.decayInterval := by
  unfold State.abandonStationProbe; (repeat' split) <;> (try dsimp only) <;> (repeat' split) <;> simp

@[simp] theorem State.abandonStationProbe_hm_probeInterval :
    (s.abandonStationProbe).hm.probeInterval = s.hm.probeInterval := by
  unfold State.abandonStationProbe; (repeat' split) <;> (try dsimp only) <;> (repeat' split) <;> simp

@[simp] theorem State.abandonStationProbe_hm_weights :
    (s.abandonStationProbe).hm.weights = s.hm.weights := by
  unfold State.abandonStationProbe; (repeat' split) <;> (try dsimp only) <;> (repeat' split) <;> simp

@[simp] theorem State.abandonStationProbe_hm_decayTimer :
    (s.abandonStationProbe).hm.decayTimer = s.hm.decayTimer := by
  unfold State.abandonStationProbe; (repeat' split) <;> (try dsimp only) <;> (repeat' split) <;> simp

@[simp] theorem State.abandonStationProbe_hm_probeTimer :
    (s.abandonStationProbe).hm.probeTimer = s.hm.probeTimer := by
  unfold State.abandonStationProbe; (repeat' split) <;> (try dsimp only) <;> (repeat' split) <;> simp

@[simp] theorem State.abandonStationProbe_hm_segmentPointer :
    (s.abandonStationProbe).hm.segmentPointer = s.hm.segmentPointer := by
  unfold State.abandonStationProbe; (repeat' split) <;> (try dsimp only) <;> (repeat' split) <;> simp

@[simp] theorem State.abandonStationProbe_hm_stationPointer :
    (s.abandonStationProbe).hm.stationPointer = s.hm.stationPointer := by
  unfold State.abandonStationProbe; (repeat' split) <;> (try dsimp only) <;> (repeat' split) <;> simp

@[simp] theorem State.abandonStationProbe_hm_jabberMark :
    (s.abandonStationProbe).hm.jabberMark = s.hm.jabberMark := by
  unfold State.abandonStationProbe; (repeat' split) <;> (try dsimp only) <;> (repeat' split) <;> simp

@[simp] theorem State.object_cutSegmentB (o' : ObjectId) :
    (s.cutSegmentB).object o' = s.object o' := by
  unfold State.cutSegmentB; (repeat' split) <;> (try dsimp only) <;> (repeat' split) <;> simp

@[simp] theorem State.cutSegmentB_hm_suspect :
    (s.cutSegmentB).hm.suspect = s.hm.suspect := by
  unfold State.cutSegmentB; (repeat' split) <;> (try dsimp only) <;> (repeat' split) <;> simp

@[simp] theorem State.cutSegmentB_hm_isolate :
    (s.cutSegmentB).hm.isolate = s.hm.isolate := by
  unfold State.cutSegmentB; (repeat' split) <;> (try dsimp only) <;> (repeat' split) <;> simp

@[simp] theorem State.cutSegmentB_hm_readmit :
    (s.cutSegmentB).hm.readmit = s.hm.readmit := by
  unfold State.cutSegmentB; (repeat' split) <;> (try dsimp only) <;> (repeat' split) <;> simp

@[simp] theorem State.cutSegmentB_hm_shift :
    (s.cutSegmentB).hm.shift = s.hm.shift := by
  unfold State.cutSegmentB; (repeat' split) <;> (try dsimp only) <;> (repeat' split) <;> simp

@[simp] theorem State.cutSegmentB_hm_decayInterval :
    (s.cutSegmentB).hm.decayInterval = s.hm.decayInterval := by
  unfold State.cutSegmentB; (repeat' split) <;> (try dsimp only) <;> (repeat' split) <;> simp

@[simp] theorem State.cutSegmentB_hm_probeInterval :
    (s.cutSegmentB).hm.probeInterval = s.hm.probeInterval := by
  unfold State.cutSegmentB; (repeat' split) <;> (try dsimp only) <;> (repeat' split) <;> simp

@[simp] theorem State.cutSegmentB_hm_weights :
    (s.cutSegmentB).hm.weights = s.hm.weights := by
  unfold State.cutSegmentB; (repeat' split) <;> (try dsimp only) <;> (repeat' split) <;> simp

@[simp] theorem State.cutSegmentB_hm_decayTimer :
    (s.cutSegmentB).hm.decayTimer = s.hm.decayTimer := by
  unfold State.cutSegmentB; (repeat' split) <;> (try dsimp only) <;> (repeat' split) <;> simp

@[simp] theorem State.cutSegmentB_hm_probeTimer :
    (s.cutSegmentB).hm.probeTimer = s.hm.probeTimer := by
  unfold State.cutSegmentB; (repeat' split) <;> (try dsimp only) <;> (repeat' split) <;> simp

@[simp] theorem State.cutSegmentB_hm_segmentPointer :
    (s.cutSegmentB).hm.segmentPointer = s.hm.segmentPointer := by
  unfold State.cutSegmentB; (repeat' split) <;> (try dsimp only) <;> (repeat' split) <;> simp

@[simp] theorem State.cutSegmentB_hm_stationPointer :
    (s.cutSegmentB).hm.stationPointer = s.hm.stationPointer := by
  unfold State.cutSegmentB; (repeat' split) <;> (try dsimp only) <;> (repeat' split) <;> simp

@[simp] theorem State.cutSegmentB_hm_jabberMark :
    (s.cutSegmentB).hm.jabberMark = s.hm.jabberMark := by
  unfold State.cutSegmentB; (repeat' split) <;> (try dsimp only) <;> (repeat' split) <;> simp

@[simp] theorem State.object_restoreSegmentB (o' : ObjectId) :
    (s.restoreSegmentB).object o' = s.object o' := by
  unfold State.restoreSegmentB; (repeat' split) <;> (try dsimp only) <;> (repeat' split) <;> simp

@[simp] theorem State.restoreSegmentB_hm_suspect :
    (s.restoreSegmentB).hm.suspect = s.hm.suspect := by
  unfold State.restoreSegmentB; (repeat' split) <;> (try dsimp only) <;> (repeat' split) <;> simp

@[simp] theorem State.restoreSegmentB_hm_isolate :
    (s.restoreSegmentB).hm.isolate = s.hm.isolate := by
  unfold State.restoreSegmentB; (repeat' split) <;> (try dsimp only) <;> (repeat' split) <;> simp

@[simp] theorem State.restoreSegmentB_hm_readmit :
    (s.restoreSegmentB).hm.readmit = s.hm.readmit := by
  unfold State.restoreSegmentB; (repeat' split) <;> (try dsimp only) <;> (repeat' split) <;> simp

@[simp] theorem State.restoreSegmentB_hm_shift :
    (s.restoreSegmentB).hm.shift = s.hm.shift := by
  unfold State.restoreSegmentB; (repeat' split) <;> (try dsimp only) <;> (repeat' split) <;> simp

@[simp] theorem State.restoreSegmentB_hm_decayInterval :
    (s.restoreSegmentB).hm.decayInterval = s.hm.decayInterval := by
  unfold State.restoreSegmentB; (repeat' split) <;> (try dsimp only) <;> (repeat' split) <;> simp

@[simp] theorem State.restoreSegmentB_hm_probeInterval :
    (s.restoreSegmentB).hm.probeInterval = s.hm.probeInterval := by
  unfold State.restoreSegmentB; (repeat' split) <;> (try dsimp only) <;> (repeat' split) <;> simp

@[simp] theorem State.restoreSegmentB_hm_weights :
    (s.restoreSegmentB).hm.weights = s.hm.weights := by
  unfold State.restoreSegmentB; (repeat' split) <;> (try dsimp only) <;> (repeat' split) <;> simp

@[simp] theorem State.restoreSegmentB_hm_decayTimer :
    (s.restoreSegmentB).hm.decayTimer = s.hm.decayTimer := by
  unfold State.restoreSegmentB; (repeat' split) <;> (try dsimp only) <;> (repeat' split) <;> simp

@[simp] theorem State.restoreSegmentB_hm_probeTimer :
    (s.restoreSegmentB).hm.probeTimer = s.hm.probeTimer := by
  unfold State.restoreSegmentB; (repeat' split) <;> (try dsimp only) <;> (repeat' split) <;> simp

@[simp] theorem State.restoreSegmentB_hm_segmentPointer :
    (s.restoreSegmentB).hm.segmentPointer = s.hm.segmentPointer := by
  unfold State.restoreSegmentB; (repeat' split) <;> (try dsimp only) <;> (repeat' split) <;> simp

@[simp] theorem State.restoreSegmentB_hm_stationPointer :
    (s.restoreSegmentB).hm.stationPointer = s.hm.stationPointer := by
  unfold State.restoreSegmentB; (repeat' split) <;> (try dsimp only) <;> (repeat' split) <;> simp

@[simp] theorem State.restoreSegmentB_hm_jabberMark :
    (s.restoreSegmentB).hm.jabberMark = s.hm.jabberMark := by
  unfold State.restoreSegmentB; (repeat' split) <;> (try dsimp only) <;> (repeat' split) <;> simp

@[simp] theorem State.object_restoreStation (a : Address) (o' : ObjectId) :
    (s.restoreStation a).object o' = s.object o' := by
  unfold State.restoreStation; (repeat' split) <;> (try dsimp only) <;> (repeat' split) <;> simp

@[simp] theorem State.restoreStation_hm_suspect (a : Address) :
    (s.restoreStation a).hm.suspect = s.hm.suspect := by
  unfold State.restoreStation; (repeat' split) <;> (try dsimp only) <;> (repeat' split) <;> simp

@[simp] theorem State.restoreStation_hm_isolate (a : Address) :
    (s.restoreStation a).hm.isolate = s.hm.isolate := by
  unfold State.restoreStation; (repeat' split) <;> (try dsimp only) <;> (repeat' split) <;> simp

@[simp] theorem State.restoreStation_hm_readmit (a : Address) :
    (s.restoreStation a).hm.readmit = s.hm.readmit := by
  unfold State.restoreStation; (repeat' split) <;> (try dsimp only) <;> (repeat' split) <;> simp

@[simp] theorem State.restoreStation_hm_shift (a : Address) :
    (s.restoreStation a).hm.shift = s.hm.shift := by
  unfold State.restoreStation; (repeat' split) <;> (try dsimp only) <;> (repeat' split) <;> simp

@[simp] theorem State.restoreStation_hm_decayInterval (a : Address) :
    (s.restoreStation a).hm.decayInterval = s.hm.decayInterval := by
  unfold State.restoreStation; (repeat' split) <;> (try dsimp only) <;> (repeat' split) <;> simp

@[simp] theorem State.restoreStation_hm_probeInterval (a : Address) :
    (s.restoreStation a).hm.probeInterval = s.hm.probeInterval := by
  unfold State.restoreStation; (repeat' split) <;> (try dsimp only) <;> (repeat' split) <;> simp

@[simp] theorem State.restoreStation_hm_weights (a : Address) :
    (s.restoreStation a).hm.weights = s.hm.weights := by
  unfold State.restoreStation; (repeat' split) <;> (try dsimp only) <;> (repeat' split) <;> simp

@[simp] theorem State.restoreStation_hm_decayTimer (a : Address) :
    (s.restoreStation a).hm.decayTimer = s.hm.decayTimer := by
  unfold State.restoreStation; (repeat' split) <;> (try dsimp only) <;> (repeat' split) <;> simp

@[simp] theorem State.restoreStation_hm_probeTimer (a : Address) :
    (s.restoreStation a).hm.probeTimer = s.hm.probeTimer := by
  unfold State.restoreStation; (repeat' split) <;> (try dsimp only) <;> (repeat' split) <;> simp

@[simp] theorem State.restoreStation_hm_segmentPointer (a : Address) :
    (s.restoreStation a).hm.segmentPointer = s.hm.segmentPointer := by
  unfold State.restoreStation; (repeat' split) <;> (try dsimp only) <;> (repeat' split) <;> simp

@[simp] theorem State.restoreStation_hm_stationPointer (a : Address) :
    (s.restoreStation a).hm.stationPointer = s.hm.stationPointer := by
  unfold State.restoreStation; (repeat' split) <;> (try dsimp only) <;> (repeat' split) <;> simp

@[simp] theorem State.restoreStation_hm_jabberMark (a : Address) :
    (s.restoreStation a).hm.jabberMark = s.hm.jabberMark := by
  unfold State.restoreStation; (repeat' split) <;> (try dsimp only) <;> (repeat' split) <;> simp

@[simp] theorem State.object_isolateObject (o : ObjectId) (o' : ObjectId) :
    (s.isolateObject o).object o' = s.object o' := by
  unfold State.isolateObject; (repeat' split) <;> (try dsimp only) <;> (repeat' split) <;> simp

@[simp] theorem State.isolateObject_hm_suspect (o : ObjectId) :
    (s.isolateObject o).hm.suspect = s.hm.suspect := by
  unfold State.isolateObject; (repeat' split) <;> (try dsimp only) <;> (repeat' split) <;> simp

@[simp] theorem State.isolateObject_hm_isolate (o : ObjectId) :
    (s.isolateObject o).hm.isolate = s.hm.isolate := by
  unfold State.isolateObject; (repeat' split) <;> (try dsimp only) <;> (repeat' split) <;> simp

@[simp] theorem State.isolateObject_hm_readmit (o : ObjectId) :
    (s.isolateObject o).hm.readmit = s.hm.readmit := by
  unfold State.isolateObject; (repeat' split) <;> (try dsimp only) <;> (repeat' split) <;> simp

@[simp] theorem State.isolateObject_hm_shift (o : ObjectId) :
    (s.isolateObject o).hm.shift = s.hm.shift := by
  unfold State.isolateObject; (repeat' split) <;> (try dsimp only) <;> (repeat' split) <;> simp

@[simp] theorem State.isolateObject_hm_decayInterval (o : ObjectId) :
    (s.isolateObject o).hm.decayInterval = s.hm.decayInterval := by
  unfold State.isolateObject; (repeat' split) <;> (try dsimp only) <;> (repeat' split) <;> simp

@[simp] theorem State.isolateObject_hm_probeInterval (o : ObjectId) :
    (s.isolateObject o).hm.probeInterval = s.hm.probeInterval := by
  unfold State.isolateObject; (repeat' split) <;> (try dsimp only) <;> (repeat' split) <;> simp

@[simp] theorem State.isolateObject_hm_weights (o : ObjectId) :
    (s.isolateObject o).hm.weights = s.hm.weights := by
  unfold State.isolateObject; (repeat' split) <;> (try dsimp only) <;> (repeat' split) <;> simp

@[simp] theorem State.isolateObject_hm_decayTimer (o : ObjectId) :
    (s.isolateObject o).hm.decayTimer = s.hm.decayTimer := by
  unfold State.isolateObject; (repeat' split) <;> (try dsimp only) <;> (repeat' split) <;> simp

@[simp] theorem State.isolateObject_hm_probeTimer (o : ObjectId) :
    (s.isolateObject o).hm.probeTimer = s.hm.probeTimer := by
  unfold State.isolateObject; (repeat' split) <;> (try dsimp only) <;> (repeat' split) <;> simp

@[simp] theorem State.isolateObject_hm_segmentPointer (o : ObjectId) :
    (s.isolateObject o).hm.segmentPointer = s.hm.segmentPointer := by
  unfold State.isolateObject; (repeat' split) <;> (try dsimp only) <;> (repeat' split) <;> simp

@[simp] theorem State.isolateObject_hm_stationPointer (o : ObjectId) :
    (s.isolateObject o).hm.stationPointer = s.hm.stationPointer := by
  unfold State.isolateObject; (repeat' split) <;> (try dsimp only) <;> (repeat' split) <;> simp

@[simp] theorem State.isolateObject_hm_jabberMark (o : ObjectId) :
    (s.isolateObject o).hm.jabberMark = s.hm.jabberMark := by
  unfold State.isolateObject; (repeat' split) <;> (try dsimp only) <;> (repeat' split) <;> simp

@[simp] theorem State.object_readmissionOrder (o : ObjectId) (o' : ObjectId) :
    (s.readmissionOrder o).object o' = s.object o' := by
  unfold State.readmissionOrder; (repeat' split) <;> (try dsimp only) <;> (repeat' split) <;> simp

@[simp] theorem State.readmissionOrder_hm_suspect (o : ObjectId) :
    (s.readmissionOrder o).hm.suspect = s.hm.suspect := by
  unfold State.readmissionOrder; (repeat' split) <;> (try dsimp only) <;> (repeat' split) <;> simp

@[simp] theorem State.readmissionOrder_hm_isolate (o : ObjectId) :
    (s.readmissionOrder o).hm.isolate = s.hm.isolate := by
  unfold State.readmissionOrder; (repeat' split) <;> (try dsimp only) <;> (repeat' split) <;> simp

@[simp] theorem State.readmissionOrder_hm_readmit (o : ObjectId) :
    (s.readmissionOrder o).hm.readmit = s.hm.readmit := by
  unfold State.readmissionOrder; (repeat' split) <;> (try dsimp only) <;> (repeat' split) <;> simp

@[simp] theorem State.readmissionOrder_hm_shift (o : ObjectId) :
    (s.readmissionOrder o).hm.shift = s.hm.shift := by
  unfold State.readmissionOrder; (repeat' split) <;> (try dsimp only) <;> (repeat' split) <;> simp

@[simp] theorem State.readmissionOrder_hm_decayInterval (o : ObjectId) :
    (s.readmissionOrder o).hm.decayInterval = s.hm.decayInterval := by
  unfold State.readmissionOrder; (repeat' split) <;> (try dsimp only) <;> (repeat' split) <;> simp

@[simp] theorem State.readmissionOrder_hm_probeInterval (o : ObjectId) :
    (s.readmissionOrder o).hm.probeInterval = s.hm.probeInterval := by
  unfold State.readmissionOrder; (repeat' split) <;> (try dsimp only) <;> (repeat' split) <;> simp

@[simp] theorem State.readmissionOrder_hm_weights (o : ObjectId) :
    (s.readmissionOrder o).hm.weights = s.hm.weights := by
  unfold State.readmissionOrder; (repeat' split) <;> (try dsimp only) <;> (repeat' split) <;> simp

@[simp] theorem State.readmissionOrder_hm_decayTimer (o : ObjectId) :
    (s.readmissionOrder o).hm.decayTimer = s.hm.decayTimer := by
  unfold State.readmissionOrder; (repeat' split) <;> (try dsimp only) <;> (repeat' split) <;> simp

@[simp] theorem State.readmissionOrder_hm_probeTimer (o : ObjectId) :
    (s.readmissionOrder o).hm.probeTimer = s.hm.probeTimer := by
  unfold State.readmissionOrder; (repeat' split) <;> (try dsimp only) <;> (repeat' split) <;> simp

@[simp] theorem State.readmissionOrder_hm_segmentPointer (o : ObjectId) :
    (s.readmissionOrder o).hm.segmentPointer = s.hm.segmentPointer := by
  unfold State.readmissionOrder; (repeat' split) <;> (try dsimp only) <;> (repeat' split) <;> simp

@[simp] theorem State.readmissionOrder_hm_stationPointer (o : ObjectId) :
    (s.readmissionOrder o).hm.stationPointer = s.hm.stationPointer := by
  unfold State.readmissionOrder; (repeat' split) <;> (try dsimp only) <;> (repeat' split) <;> simp

@[simp] theorem State.readmissionOrder_hm_jabberMark (o : ObjectId) :
    (s.readmissionOrder o).hm.jabberMark = s.hm.jabberMark := by
  unfold State.readmissionOrder; (repeat' split) <;> (try dsimp only) <;> (repeat' split) <;> simp

@[simp] theorem State.object_readmitObject (o : ObjectId) (h : Health) (o' : ObjectId) :
    (s.readmitObject o h).object o' = s.object o' := by
  unfold State.readmitObject; (repeat' split) <;> (try dsimp only) <;> (repeat' split) <;> simp

@[simp] theorem State.readmitObject_hm_suspect (o : ObjectId) (h : Health) :
    (s.readmitObject o h).hm.suspect = s.hm.suspect := by
  unfold State.readmitObject; (repeat' split) <;> (try dsimp only) <;> (repeat' split) <;> simp

@[simp] theorem State.readmitObject_hm_isolate (o : ObjectId) (h : Health) :
    (s.readmitObject o h).hm.isolate = s.hm.isolate := by
  unfold State.readmitObject; (repeat' split) <;> (try dsimp only) <;> (repeat' split) <;> simp

@[simp] theorem State.readmitObject_hm_readmit (o : ObjectId) (h : Health) :
    (s.readmitObject o h).hm.readmit = s.hm.readmit := by
  unfold State.readmitObject; (repeat' split) <;> (try dsimp only) <;> (repeat' split) <;> simp

@[simp] theorem State.readmitObject_hm_shift (o : ObjectId) (h : Health) :
    (s.readmitObject o h).hm.shift = s.hm.shift := by
  unfold State.readmitObject; (repeat' split) <;> (try dsimp only) <;> (repeat' split) <;> simp

@[simp] theorem State.readmitObject_hm_decayInterval (o : ObjectId) (h : Health) :
    (s.readmitObject o h).hm.decayInterval = s.hm.decayInterval := by
  unfold State.readmitObject; (repeat' split) <;> (try dsimp only) <;> (repeat' split) <;> simp

@[simp] theorem State.readmitObject_hm_probeInterval (o : ObjectId) (h : Health) :
    (s.readmitObject o h).hm.probeInterval = s.hm.probeInterval := by
  unfold State.readmitObject; (repeat' split) <;> (try dsimp only) <;> (repeat' split) <;> simp

@[simp] theorem State.readmitObject_hm_weights (o : ObjectId) (h : Health) :
    (s.readmitObject o h).hm.weights = s.hm.weights := by
  unfold State.readmitObject; (repeat' split) <;> (try dsimp only) <;> (repeat' split) <;> simp

@[simp] theorem State.readmitObject_hm_decayTimer (o : ObjectId) (h : Health) :
    (s.readmitObject o h).hm.decayTimer = s.hm.decayTimer := by
  unfold State.readmitObject; (repeat' split) <;> (try dsimp only) <;> (repeat' split) <;> simp

@[simp] theorem State.readmitObject_hm_probeTimer (o : ObjectId) (h : Health) :
    (s.readmitObject o h).hm.probeTimer = s.hm.probeTimer := by
  unfold State.readmitObject; (repeat' split) <;> (try dsimp only) <;> (repeat' split) <;> simp

@[simp] theorem State.readmitObject_hm_segmentPointer (o : ObjectId) (h : Health) :
    (s.readmitObject o h).hm.segmentPointer = s.hm.segmentPointer := by
  unfold State.readmitObject; (repeat' split) <;> (try dsimp only) <;> (repeat' split) <;> simp

@[simp] theorem State.readmitObject_hm_stationPointer (o : ObjectId) (h : Health) :
    (s.readmitObject o h).hm.stationPointer = s.hm.stationPointer := by
  unfold State.readmitObject; (repeat' split) <;> (try dsimp only) <;> (repeat' split) <;> simp

@[simp] theorem State.readmitObject_hm_jabberMark (o : ObjectId) (h : Health) :
    (s.readmitObject o h).hm.jabberMark = s.hm.jabberMark := by
  unfold State.readmitObject; (repeat' split) <;> (try dsimp only) <;> (repeat' split) <;> simp

/-! ### Evaluations and charges keep every setting -/

@[simp] theorem State.evaluateMark_hm_suspect (o : ObjectId) :
    (s.evaluateMark o).hm.suspect = s.hm.suspect := by
  unfold State.evaluateMark; (repeat' split) <;> (try dsimp only) <;> (repeat' split) <;> simp

@[simp] theorem State.evaluateMark_hm_isolate (o : ObjectId) :
    (s.evaluateMark o).hm.isolate = s.hm.isolate := by
  unfold State.evaluateMark; (repeat' split) <;> (try dsimp only) <;> (repeat' split) <;> simp

@[simp] theorem State.evaluateMark_hm_readmit (o : ObjectId) :
    (s.evaluateMark o).hm.readmit = s.hm.readmit := by
  unfold State.evaluateMark; (repeat' split) <;> (try dsimp only) <;> (repeat' split) <;> simp

@[simp] theorem State.evaluateMark_hm_shift (o : ObjectId) :
    (s.evaluateMark o).hm.shift = s.hm.shift := by
  unfold State.evaluateMark; (repeat' split) <;> (try dsimp only) <;> (repeat' split) <;> simp

@[simp] theorem State.evaluateMark_hm_decayInterval (o : ObjectId) :
    (s.evaluateMark o).hm.decayInterval = s.hm.decayInterval := by
  unfold State.evaluateMark; (repeat' split) <;> (try dsimp only) <;> (repeat' split) <;> simp

@[simp] theorem State.evaluateMark_hm_probeInterval (o : ObjectId) :
    (s.evaluateMark o).hm.probeInterval = s.hm.probeInterval := by
  unfold State.evaluateMark; (repeat' split) <;> (try dsimp only) <;> (repeat' split) <;> simp

@[simp] theorem State.evaluateMark_hm_weights (o : ObjectId) :
    (s.evaluateMark o).hm.weights = s.hm.weights := by
  unfold State.evaluateMark; (repeat' split) <;> (try dsimp only) <;> (repeat' split) <;> simp

@[simp] theorem State.evaluateMark_hm_decayTimer (o : ObjectId) :
    (s.evaluateMark o).hm.decayTimer = s.hm.decayTimer := by
  unfold State.evaluateMark; (repeat' split) <;> (try dsimp only) <;> (repeat' split) <;> simp

@[simp] theorem State.evaluateMark_hm_probeTimer (o : ObjectId) :
    (s.evaluateMark o).hm.probeTimer = s.hm.probeTimer := by
  unfold State.evaluateMark; (repeat' split) <;> (try dsimp only) <;> (repeat' split) <;> simp

@[simp] theorem State.evaluateMark_hm_segmentPointer (o : ObjectId) :
    (s.evaluateMark o).hm.segmentPointer = s.hm.segmentPointer := by
  unfold State.evaluateMark; (repeat' split) <;> (try dsimp only) <;> (repeat' split) <;> simp

@[simp] theorem State.evaluateMark_hm_stationPointer (o : ObjectId) :
    (s.evaluateMark o).hm.stationPointer = s.hm.stationPointer := by
  unfold State.evaluateMark; (repeat' split) <;> (try dsimp only) <;> (repeat' split) <;> simp

@[simp] theorem State.evaluateMark_hm_jabberMark (o : ObjectId) :
    (s.evaluateMark o).hm.jabberMark = s.hm.jabberMark := by
  unfold State.evaluateMark; (repeat' split) <;> (try dsimp only) <;> (repeat' split) <;> simp

@[simp] theorem State.evaluate_hm_suspect (o : ObjectId) :
    (s.evaluate o).hm.suspect = s.hm.suspect := by
  unfold State.evaluate; (repeat' split) <;> (try dsimp only) <;> (repeat' split) <;> simp

@[simp] theorem State.evaluate_hm_isolate (o : ObjectId) :
    (s.evaluate o).hm.isolate = s.hm.isolate := by
  unfold State.evaluate; (repeat' split) <;> (try dsimp only) <;> (repeat' split) <;> simp

@[simp] theorem State.evaluate_hm_readmit (o : ObjectId) :
    (s.evaluate o).hm.readmit = s.hm.readmit := by
  unfold State.evaluate; (repeat' split) <;> (try dsimp only) <;> (repeat' split) <;> simp

@[simp] theorem State.evaluate_hm_shift (o : ObjectId) :
    (s.evaluate o).hm.shift = s.hm.shift := by
  unfold State.evaluate; (repeat' split) <;> (try dsimp only) <;> (repeat' split) <;> simp

@[simp] theorem State.evaluate_hm_decayInterval (o : ObjectId) :
    (s.evaluate o).hm.decayInterval = s.hm.decayInterval := by
  unfold State.evaluate; (repeat' split) <;> (try dsimp only) <;> (repeat' split) <;> simp

@[simp] theorem State.evaluate_hm_probeInterval (o : ObjectId) :
    (s.evaluate o).hm.probeInterval = s.hm.probeInterval := by
  unfold State.evaluate; (repeat' split) <;> (try dsimp only) <;> (repeat' split) <;> simp

@[simp] theorem State.evaluate_hm_weights (o : ObjectId) :
    (s.evaluate o).hm.weights = s.hm.weights := by
  unfold State.evaluate; (repeat' split) <;> (try dsimp only) <;> (repeat' split) <;> simp

@[simp] theorem State.evaluate_hm_decayTimer (o : ObjectId) :
    (s.evaluate o).hm.decayTimer = s.hm.decayTimer := by
  unfold State.evaluate; (repeat' split) <;> (try dsimp only) <;> (repeat' split) <;> simp

@[simp] theorem State.evaluate_hm_probeTimer (o : ObjectId) :
    (s.evaluate o).hm.probeTimer = s.hm.probeTimer := by
  unfold State.evaluate; (repeat' split) <;> (try dsimp only) <;> (repeat' split) <;> simp

@[simp] theorem State.evaluate_hm_segmentPointer (o : ObjectId) :
    (s.evaluate o).hm.segmentPointer = s.hm.segmentPointer := by
  unfold State.evaluate; (repeat' split) <;> (try dsimp only) <;> (repeat' split) <;> simp

@[simp] theorem State.evaluate_hm_stationPointer (o : ObjectId) :
    (s.evaluate o).hm.stationPointer = s.hm.stationPointer := by
  unfold State.evaluate; (repeat' split) <;> (try dsimp only) <;> (repeat' split) <;> simp

@[simp] theorem State.evaluate_hm_jabberMark (o : ObjectId) :
    (s.evaluate o).hm.jabberMark = s.hm.jabberMark := by
  unfold State.evaluate; (repeat' split) <;> (try dsimp only) <;> (repeat' split) <;> simp

@[simp] theorem State.addScore_hm_suspect (o : ObjectId) (w : Nat) :
    (s.addScore o w).hm.suspect = s.hm.suspect := by
  unfold State.addScore; (repeat' split) <;> (try dsimp only) <;> (repeat' split) <;> simp

@[simp] theorem State.addScore_hm_isolate (o : ObjectId) (w : Nat) :
    (s.addScore o w).hm.isolate = s.hm.isolate := by
  unfold State.addScore; (repeat' split) <;> (try dsimp only) <;> (repeat' split) <;> simp

@[simp] theorem State.addScore_hm_readmit (o : ObjectId) (w : Nat) :
    (s.addScore o w).hm.readmit = s.hm.readmit := by
  unfold State.addScore; (repeat' split) <;> (try dsimp only) <;> (repeat' split) <;> simp

@[simp] theorem State.addScore_hm_shift (o : ObjectId) (w : Nat) :
    (s.addScore o w).hm.shift = s.hm.shift := by
  unfold State.addScore; (repeat' split) <;> (try dsimp only) <;> (repeat' split) <;> simp

@[simp] theorem State.addScore_hm_decayInterval (o : ObjectId) (w : Nat) :
    (s.addScore o w).hm.decayInterval = s.hm.decayInterval := by
  unfold State.addScore; (repeat' split) <;> (try dsimp only) <;> (repeat' split) <;> simp

@[simp] theorem State.addScore_hm_probeInterval (o : ObjectId) (w : Nat) :
    (s.addScore o w).hm.probeInterval = s.hm.probeInterval := by
  unfold State.addScore; (repeat' split) <;> (try dsimp only) <;> (repeat' split) <;> simp

@[simp] theorem State.addScore_hm_weights (o : ObjectId) (w : Nat) :
    (s.addScore o w).hm.weights = s.hm.weights := by
  unfold State.addScore; (repeat' split) <;> (try dsimp only) <;> (repeat' split) <;> simp

@[simp] theorem State.addScore_hm_decayTimer (o : ObjectId) (w : Nat) :
    (s.addScore o w).hm.decayTimer = s.hm.decayTimer := by
  unfold State.addScore; (repeat' split) <;> (try dsimp only) <;> (repeat' split) <;> simp

@[simp] theorem State.addScore_hm_probeTimer (o : ObjectId) (w : Nat) :
    (s.addScore o w).hm.probeTimer = s.hm.probeTimer := by
  unfold State.addScore; (repeat' split) <;> (try dsimp only) <;> (repeat' split) <;> simp

@[simp] theorem State.addScore_hm_segmentPointer (o : ObjectId) (w : Nat) :
    (s.addScore o w).hm.segmentPointer = s.hm.segmentPointer := by
  unfold State.addScore; (repeat' split) <;> (try dsimp only) <;> (repeat' split) <;> simp

@[simp] theorem State.addScore_hm_stationPointer (o : ObjectId) (w : Nat) :
    (s.addScore o w).hm.stationPointer = s.hm.stationPointer := by
  unfold State.addScore; (repeat' split) <;> (try dsimp only) <;> (repeat' split) <;> simp

@[simp] theorem State.addScore_hm_jabberMark (o : ObjectId) (w : Nat) :
    (s.addScore o w).hm.jabberMark = s.hm.jabberMark := by
  unfold State.addScore; (repeat' split) <;> (try dsimp only) <;> (repeat' split) <;> simp

@[simp] theorem State.chargeStation_hm_suspect (a : Address) (w : Byte) :
    (s.chargeStation a w).hm.suspect = s.hm.suspect := by
  unfold State.chargeStation; (repeat' split) <;> (try dsimp only) <;> (repeat' split) <;> simp

@[simp] theorem State.chargeStation_hm_isolate (a : Address) (w : Byte) :
    (s.chargeStation a w).hm.isolate = s.hm.isolate := by
  unfold State.chargeStation; (repeat' split) <;> (try dsimp only) <;> (repeat' split) <;> simp

@[simp] theorem State.chargeStation_hm_readmit (a : Address) (w : Byte) :
    (s.chargeStation a w).hm.readmit = s.hm.readmit := by
  unfold State.chargeStation; (repeat' split) <;> (try dsimp only) <;> (repeat' split) <;> simp

@[simp] theorem State.chargeStation_hm_shift (a : Address) (w : Byte) :
    (s.chargeStation a w).hm.shift = s.hm.shift := by
  unfold State.chargeStation; (repeat' split) <;> (try dsimp only) <;> (repeat' split) <;> simp

@[simp] theorem State.chargeStation_hm_decayInterval (a : Address) (w : Byte) :
    (s.chargeStation a w).hm.decayInterval = s.hm.decayInterval := by
  unfold State.chargeStation; (repeat' split) <;> (try dsimp only) <;> (repeat' split) <;> simp

@[simp] theorem State.chargeStation_hm_probeInterval (a : Address) (w : Byte) :
    (s.chargeStation a w).hm.probeInterval = s.hm.probeInterval := by
  unfold State.chargeStation; (repeat' split) <;> (try dsimp only) <;> (repeat' split) <;> simp

@[simp] theorem State.chargeStation_hm_weights (a : Address) (w : Byte) :
    (s.chargeStation a w).hm.weights = s.hm.weights := by
  unfold State.chargeStation; (repeat' split) <;> (try dsimp only) <;> (repeat' split) <;> simp

@[simp] theorem State.chargeStation_hm_decayTimer (a : Address) (w : Byte) :
    (s.chargeStation a w).hm.decayTimer = s.hm.decayTimer := by
  unfold State.chargeStation; (repeat' split) <;> (try dsimp only) <;> (repeat' split) <;> simp

@[simp] theorem State.chargeStation_hm_probeTimer (a : Address) (w : Byte) :
    (s.chargeStation a w).hm.probeTimer = s.hm.probeTimer := by
  unfold State.chargeStation; (repeat' split) <;> (try dsimp only) <;> (repeat' split) <;> simp

@[simp] theorem State.chargeStation_hm_segmentPointer (a : Address) (w : Byte) :
    (s.chargeStation a w).hm.segmentPointer = s.hm.segmentPointer := by
  unfold State.chargeStation; (repeat' split) <;> (try dsimp only) <;> (repeat' split) <;> simp

@[simp] theorem State.chargeStation_hm_stationPointer (a : Address) (w : Byte) :
    (s.chargeStation a w).hm.stationPointer = s.hm.stationPointer := by
  unfold State.chargeStation; (repeat' split) <;> (try dsimp only) <;> (repeat' split) <;> simp

@[simp] theorem State.chargeStation_hm_jabberMark (a : Address) (w : Byte) :
    (s.chargeStation a w).hm.jabberMark = s.hm.jabberMark := by
  unfold State.chargeStation; (repeat' split) <;> (try dsimp only) <;> (repeat' split) <;> simp

@[simp] theorem State.chargeSegment_hm_suspect (g : Seg) (w : Byte) :
    (s.chargeSegment g w).hm.suspect = s.hm.suspect := by
  unfold State.chargeSegment; (repeat' split) <;> (try dsimp only) <;> (repeat' split) <;> simp

@[simp] theorem State.chargeSegment_hm_isolate (g : Seg) (w : Byte) :
    (s.chargeSegment g w).hm.isolate = s.hm.isolate := by
  unfold State.chargeSegment; (repeat' split) <;> (try dsimp only) <;> (repeat' split) <;> simp

@[simp] theorem State.chargeSegment_hm_readmit (g : Seg) (w : Byte) :
    (s.chargeSegment g w).hm.readmit = s.hm.readmit := by
  unfold State.chargeSegment; (repeat' split) <;> (try dsimp only) <;> (repeat' split) <;> simp

@[simp] theorem State.chargeSegment_hm_shift (g : Seg) (w : Byte) :
    (s.chargeSegment g w).hm.shift = s.hm.shift := by
  unfold State.chargeSegment; (repeat' split) <;> (try dsimp only) <;> (repeat' split) <;> simp

@[simp] theorem State.chargeSegment_hm_decayInterval (g : Seg) (w : Byte) :
    (s.chargeSegment g w).hm.decayInterval = s.hm.decayInterval := by
  unfold State.chargeSegment; (repeat' split) <;> (try dsimp only) <;> (repeat' split) <;> simp

@[simp] theorem State.chargeSegment_hm_probeInterval (g : Seg) (w : Byte) :
    (s.chargeSegment g w).hm.probeInterval = s.hm.probeInterval := by
  unfold State.chargeSegment; (repeat' split) <;> (try dsimp only) <;> (repeat' split) <;> simp

@[simp] theorem State.chargeSegment_hm_weights (g : Seg) (w : Byte) :
    (s.chargeSegment g w).hm.weights = s.hm.weights := by
  unfold State.chargeSegment; (repeat' split) <;> (try dsimp only) <;> (repeat' split) <;> simp

@[simp] theorem State.chargeSegment_hm_decayTimer (g : Seg) (w : Byte) :
    (s.chargeSegment g w).hm.decayTimer = s.hm.decayTimer := by
  unfold State.chargeSegment; (repeat' split) <;> (try dsimp only) <;> (repeat' split) <;> simp

@[simp] theorem State.chargeSegment_hm_probeTimer (g : Seg) (w : Byte) :
    (s.chargeSegment g w).hm.probeTimer = s.hm.probeTimer := by
  unfold State.chargeSegment; (repeat' split) <;> (try dsimp only) <;> (repeat' split) <;> simp

@[simp] theorem State.chargeSegment_hm_segmentPointer (g : Seg) (w : Byte) :
    (s.chargeSegment g w).hm.segmentPointer = s.hm.segmentPointer := by
  unfold State.chargeSegment; (repeat' split) <;> (try dsimp only) <;> (repeat' split) <;> simp

@[simp] theorem State.chargeSegment_hm_stationPointer (g : Seg) (w : Byte) :
    (s.chargeSegment g w).hm.stationPointer = s.hm.stationPointer := by
  unfold State.chargeSegment; (repeat' split) <;> (try dsimp only) <;> (repeat' split) <;> simp

@[simp] theorem State.chargeSegment_hm_jabberMark (g : Seg) (w : Byte) :
    (s.chargeSegment g w).hm.jabberMark = s.hm.jabberMark := by
  unfold State.chargeSegment; (repeat' split) <;> (try dsimp only) <;> (repeat' split) <;> simp

@[simp] theorem State.chargePort_hm_suspect (n : PortNo) (w : Byte) :
    (s.chargePort n w).hm.suspect = s.hm.suspect := by
  unfold State.chargePort; (repeat' split) <;> (try dsimp only) <;> (repeat' split) <;> simp

@[simp] theorem State.chargePort_hm_isolate (n : PortNo) (w : Byte) :
    (s.chargePort n w).hm.isolate = s.hm.isolate := by
  unfold State.chargePort; (repeat' split) <;> (try dsimp only) <;> (repeat' split) <;> simp

@[simp] theorem State.chargePort_hm_readmit (n : PortNo) (w : Byte) :
    (s.chargePort n w).hm.readmit = s.hm.readmit := by
  unfold State.chargePort; (repeat' split) <;> (try dsimp only) <;> (repeat' split) <;> simp

@[simp] theorem State.chargePort_hm_shift (n : PortNo) (w : Byte) :
    (s.chargePort n w).hm.shift = s.hm.shift := by
  unfold State.chargePort; (repeat' split) <;> (try dsimp only) <;> (repeat' split) <;> simp

@[simp] theorem State.chargePort_hm_decayInterval (n : PortNo) (w : Byte) :
    (s.chargePort n w).hm.decayInterval = s.hm.decayInterval := by
  unfold State.chargePort; (repeat' split) <;> (try dsimp only) <;> (repeat' split) <;> simp

@[simp] theorem State.chargePort_hm_probeInterval (n : PortNo) (w : Byte) :
    (s.chargePort n w).hm.probeInterval = s.hm.probeInterval := by
  unfold State.chargePort; (repeat' split) <;> (try dsimp only) <;> (repeat' split) <;> simp

@[simp] theorem State.chargePort_hm_weights (n : PortNo) (w : Byte) :
    (s.chargePort n w).hm.weights = s.hm.weights := by
  unfold State.chargePort; (repeat' split) <;> (try dsimp only) <;> (repeat' split) <;> simp

@[simp] theorem State.chargePort_hm_decayTimer (n : PortNo) (w : Byte) :
    (s.chargePort n w).hm.decayTimer = s.hm.decayTimer := by
  unfold State.chargePort; (repeat' split) <;> (try dsimp only) <;> (repeat' split) <;> simp

@[simp] theorem State.chargePort_hm_probeTimer (n : PortNo) (w : Byte) :
    (s.chargePort n w).hm.probeTimer = s.hm.probeTimer := by
  unfold State.chargePort; (repeat' split) <;> (try dsimp only) <;> (repeat' split) <;> simp

@[simp] theorem State.chargePort_hm_segmentPointer (n : PortNo) (w : Byte) :
    (s.chargePort n w).hm.segmentPointer = s.hm.segmentPointer := by
  unfold State.chargePort; (repeat' split) <;> (try dsimp only) <;> (repeat' split) <;> simp

@[simp] theorem State.chargePort_hm_stationPointer (n : PortNo) (w : Byte) :
    (s.chargePort n w).hm.stationPointer = s.hm.stationPointer := by
  unfold State.chargePort; (repeat' split) <;> (try dsimp only) <;> (repeat' split) <;> simp

@[simp] theorem State.chargePort_hm_jabberMark (n : PortNo) (w : Byte) :
    (s.chargePort n w).hm.jabberMark = s.hm.jabberMark := by
  unfold State.chargePort; (repeat' split) <;> (try dsimp only) <;> (repeat' split) <;> simp

@[simp] theorem State.probeFailure_hm_suspect (o : ObjectId) :
    (s.probeFailure o).hm.suspect = s.hm.suspect := by
  unfold State.probeFailure; (repeat' split) <;> (try dsimp only) <;> (repeat' split) <;> simp

@[simp] theorem State.probeFailure_hm_isolate (o : ObjectId) :
    (s.probeFailure o).hm.isolate = s.hm.isolate := by
  unfold State.probeFailure; (repeat' split) <;> (try dsimp only) <;> (repeat' split) <;> simp

@[simp] theorem State.probeFailure_hm_readmit (o : ObjectId) :
    (s.probeFailure o).hm.readmit = s.hm.readmit := by
  unfold State.probeFailure; (repeat' split) <;> (try dsimp only) <;> (repeat' split) <;> simp

@[simp] theorem State.probeFailure_hm_shift (o : ObjectId) :
    (s.probeFailure o).hm.shift = s.hm.shift := by
  unfold State.probeFailure; (repeat' split) <;> (try dsimp only) <;> (repeat' split) <;> simp

@[simp] theorem State.probeFailure_hm_decayInterval (o : ObjectId) :
    (s.probeFailure o).hm.decayInterval = s.hm.decayInterval := by
  unfold State.probeFailure; (repeat' split) <;> (try dsimp only) <;> (repeat' split) <;> simp

@[simp] theorem State.probeFailure_hm_probeInterval (o : ObjectId) :
    (s.probeFailure o).hm.probeInterval = s.hm.probeInterval := by
  unfold State.probeFailure; (repeat' split) <;> (try dsimp only) <;> (repeat' split) <;> simp

@[simp] theorem State.probeFailure_hm_weights (o : ObjectId) :
    (s.probeFailure o).hm.weights = s.hm.weights := by
  unfold State.probeFailure; (repeat' split) <;> (try dsimp only) <;> (repeat' split) <;> simp

@[simp] theorem State.probeFailure_hm_decayTimer (o : ObjectId) :
    (s.probeFailure o).hm.decayTimer = s.hm.decayTimer := by
  unfold State.probeFailure; (repeat' split) <;> (try dsimp only) <;> (repeat' split) <;> simp

@[simp] theorem State.probeFailure_hm_probeTimer (o : ObjectId) :
    (s.probeFailure o).hm.probeTimer = s.hm.probeTimer := by
  unfold State.probeFailure; (repeat' split) <;> (try dsimp only) <;> (repeat' split) <;> simp

@[simp] theorem State.probeFailure_hm_segmentPointer (o : ObjectId) :
    (s.probeFailure o).hm.segmentPointer = s.hm.segmentPointer := by
  unfold State.probeFailure; (repeat' split) <;> (try dsimp only) <;> (repeat' split) <;> simp

@[simp] theorem State.probeFailure_hm_stationPointer (o : ObjectId) :
    (s.probeFailure o).hm.stationPointer = s.hm.stationPointer := by
  unfold State.probeFailure; (repeat' split) <;> (try dsimp only) <;> (repeat' split) <;> simp

@[simp] theorem State.probeFailure_hm_jabberMark (o : ObjectId) :
    (s.probeFailure o).hm.jabberMark = s.hm.jabberMark := by
  unfold State.probeFailure; (repeat' split) <;> (try dsimp only) <;> (repeat' split) <;> simp

@[simp] theorem State.probeCredit_hm_suspect (o : ObjectId) :
    (s.probeCredit o).hm.suspect = s.hm.suspect := by
  unfold State.probeCredit; (repeat' split) <;> (try dsimp only) <;> (repeat' split) <;> simp

@[simp] theorem State.probeCredit_hm_isolate (o : ObjectId) :
    (s.probeCredit o).hm.isolate = s.hm.isolate := by
  unfold State.probeCredit; (repeat' split) <;> (try dsimp only) <;> (repeat' split) <;> simp

@[simp] theorem State.probeCredit_hm_readmit (o : ObjectId) :
    (s.probeCredit o).hm.readmit = s.hm.readmit := by
  unfold State.probeCredit; (repeat' split) <;> (try dsimp only) <;> (repeat' split) <;> simp

@[simp] theorem State.probeCredit_hm_shift (o : ObjectId) :
    (s.probeCredit o).hm.shift = s.hm.shift := by
  unfold State.probeCredit; (repeat' split) <;> (try dsimp only) <;> (repeat' split) <;> simp

@[simp] theorem State.probeCredit_hm_decayInterval (o : ObjectId) :
    (s.probeCredit o).hm.decayInterval = s.hm.decayInterval := by
  unfold State.probeCredit; (repeat' split) <;> (try dsimp only) <;> (repeat' split) <;> simp

@[simp] theorem State.probeCredit_hm_probeInterval (o : ObjectId) :
    (s.probeCredit o).hm.probeInterval = s.hm.probeInterval := by
  unfold State.probeCredit; (repeat' split) <;> (try dsimp only) <;> (repeat' split) <;> simp

@[simp] theorem State.probeCredit_hm_weights (o : ObjectId) :
    (s.probeCredit o).hm.weights = s.hm.weights := by
  unfold State.probeCredit; (repeat' split) <;> (try dsimp only) <;> (repeat' split) <;> simp

@[simp] theorem State.probeCredit_hm_decayTimer (o : ObjectId) :
    (s.probeCredit o).hm.decayTimer = s.hm.decayTimer := by
  unfold State.probeCredit; (repeat' split) <;> (try dsimp only) <;> (repeat' split) <;> simp

@[simp] theorem State.probeCredit_hm_probeTimer (o : ObjectId) :
    (s.probeCredit o).hm.probeTimer = s.hm.probeTimer := by
  unfold State.probeCredit; (repeat' split) <;> (try dsimp only) <;> (repeat' split) <;> simp

@[simp] theorem State.probeCredit_hm_segmentPointer (o : ObjectId) :
    (s.probeCredit o).hm.segmentPointer = s.hm.segmentPointer := by
  unfold State.probeCredit; (repeat' split) <;> (try dsimp only) <;> (repeat' split) <;> simp

@[simp] theorem State.probeCredit_hm_stationPointer (o : ObjectId) :
    (s.probeCredit o).hm.stationPointer = s.hm.stationPointer := by
  unfold State.probeCredit; (repeat' split) <;> (try dsimp only) <;> (repeat' split) <;> simp

@[simp] theorem State.probeCredit_hm_jabberMark (o : ObjectId) :
    (s.probeCredit o).hm.jabberMark = s.hm.jabberMark := by
  unfold State.probeCredit; (repeat' split) <;> (try dsimp only) <;> (repeat' split) <;> simp

@[simp] theorem State.pollMiss_hm_suspect (g : Seg) (a : Address) :
    (s.pollMiss g a).hm.suspect = s.hm.suspect := by
  unfold State.pollMiss; (repeat' split) <;> (try dsimp only) <;> (repeat' split) <;> simp

@[simp] theorem State.pollMiss_hm_isolate (g : Seg) (a : Address) :
    (s.pollMiss g a).hm.isolate = s.hm.isolate := by
  unfold State.pollMiss; (repeat' split) <;> (try dsimp only) <;> (repeat' split) <;> simp

@[simp] theorem State.pollMiss_hm_readmit (g : Seg) (a : Address) :
    (s.pollMiss g a).hm.readmit = s.hm.readmit := by
  unfold State.pollMiss; (repeat' split) <;> (try dsimp only) <;> (repeat' split) <;> simp

@[simp] theorem State.pollMiss_hm_shift (g : Seg) (a : Address) :
    (s.pollMiss g a).hm.shift = s.hm.shift := by
  unfold State.pollMiss; (repeat' split) <;> (try dsimp only) <;> (repeat' split) <;> simp

@[simp] theorem State.pollMiss_hm_decayInterval (g : Seg) (a : Address) :
    (s.pollMiss g a).hm.decayInterval = s.hm.decayInterval := by
  unfold State.pollMiss; (repeat' split) <;> (try dsimp only) <;> (repeat' split) <;> simp

@[simp] theorem State.pollMiss_hm_probeInterval (g : Seg) (a : Address) :
    (s.pollMiss g a).hm.probeInterval = s.hm.probeInterval := by
  unfold State.pollMiss; (repeat' split) <;> (try dsimp only) <;> (repeat' split) <;> simp

@[simp] theorem State.pollMiss_hm_weights (g : Seg) (a : Address) :
    (s.pollMiss g a).hm.weights = s.hm.weights := by
  unfold State.pollMiss; (repeat' split) <;> (try dsimp only) <;> (repeat' split) <;> simp

@[simp] theorem State.pollMiss_hm_decayTimer (g : Seg) (a : Address) :
    (s.pollMiss g a).hm.decayTimer = s.hm.decayTimer := by
  unfold State.pollMiss; (repeat' split) <;> (try dsimp only) <;> (repeat' split) <;> simp

@[simp] theorem State.pollMiss_hm_probeTimer (g : Seg) (a : Address) :
    (s.pollMiss g a).hm.probeTimer = s.hm.probeTimer := by
  unfold State.pollMiss; (repeat' split) <;> (try dsimp only) <;> (repeat' split) <;> simp

@[simp] theorem State.pollMiss_hm_segmentPointer (g : Seg) (a : Address) :
    (s.pollMiss g a).hm.segmentPointer = s.hm.segmentPointer := by
  unfold State.pollMiss; (repeat' split) <;> (try dsimp only) <;> (repeat' split) <;> simp

@[simp] theorem State.pollMiss_hm_stationPointer (g : Seg) (a : Address) :
    (s.pollMiss g a).hm.stationPointer = s.hm.stationPointer := by
  unfold State.pollMiss; (repeat' split) <;> (try dsimp only) <;> (repeat' split) <;> simp

@[simp] theorem State.pollMiss_hm_jabberMark (g : Seg) (a : Address) :
    (s.pollMiss g a).hm.jabberMark = s.hm.jabberMark := by
  unfold State.pollMiss; (repeat' split) <;> (try dsimp only) <;> (repeat' split) <;> simp

@[simp] theorem State.chargeConflict_hm_suspect (g : Seg) :
    (s.chargeConflict g).hm.suspect = s.hm.suspect := by
  unfold State.chargeConflict; (repeat' split) <;> (try dsimp only) <;> (repeat' split) <;> simp

@[simp] theorem State.chargeConflict_hm_isolate (g : Seg) :
    (s.chargeConflict g).hm.isolate = s.hm.isolate := by
  unfold State.chargeConflict; (repeat' split) <;> (try dsimp only) <;> (repeat' split) <;> simp

@[simp] theorem State.chargeConflict_hm_readmit (g : Seg) :
    (s.chargeConflict g).hm.readmit = s.hm.readmit := by
  unfold State.chargeConflict; (repeat' split) <;> (try dsimp only) <;> (repeat' split) <;> simp

@[simp] theorem State.chargeConflict_hm_shift (g : Seg) :
    (s.chargeConflict g).hm.shift = s.hm.shift := by
  unfold State.chargeConflict; (repeat' split) <;> (try dsimp only) <;> (repeat' split) <;> simp

@[simp] theorem State.chargeConflict_hm_decayInterval (g : Seg) :
    (s.chargeConflict g).hm.decayInterval = s.hm.decayInterval := by
  unfold State.chargeConflict; (repeat' split) <;> (try dsimp only) <;> (repeat' split) <;> simp

@[simp] theorem State.chargeConflict_hm_probeInterval (g : Seg) :
    (s.chargeConflict g).hm.probeInterval = s.hm.probeInterval := by
  unfold State.chargeConflict; (repeat' split) <;> (try dsimp only) <;> (repeat' split) <;> simp

@[simp] theorem State.chargeConflict_hm_weights (g : Seg) :
    (s.chargeConflict g).hm.weights = s.hm.weights := by
  unfold State.chargeConflict; (repeat' split) <;> (try dsimp only) <;> (repeat' split) <;> simp

@[simp] theorem State.chargeConflict_hm_decayTimer (g : Seg) :
    (s.chargeConflict g).hm.decayTimer = s.hm.decayTimer := by
  unfold State.chargeConflict; (repeat' split) <;> (try dsimp only) <;> (repeat' split) <;> simp

@[simp] theorem State.chargeConflict_hm_probeTimer (g : Seg) :
    (s.chargeConflict g).hm.probeTimer = s.hm.probeTimer := by
  unfold State.chargeConflict; (repeat' split) <;> (try dsimp only) <;> (repeat' split) <;> simp

@[simp] theorem State.chargeConflict_hm_segmentPointer (g : Seg) :
    (s.chargeConflict g).hm.segmentPointer = s.hm.segmentPointer := by
  unfold State.chargeConflict; (repeat' split) <;> (try dsimp only) <;> (repeat' split) <;> simp

@[simp] theorem State.chargeConflict_hm_stationPointer (g : Seg) :
    (s.chargeConflict g).hm.stationPointer = s.hm.stationPointer := by
  unfold State.chargeConflict; (repeat' split) <;> (try dsimp only) <;> (repeat' split) <;> simp

@[simp] theorem State.chargeConflict_hm_jabberMark (g : Seg) :
    (s.chargeConflict g).hm.jabberMark = s.hm.jabberMark := by
  unfold State.chargeConflict; (repeat' split) <;> (try dsimp only) <;> (repeat' split) <;> simp

@[simp] theorem State.clearObject_hm_suspect (o : ObjectId) (m : Bool) :
    (s.clearObject o m).hm.suspect = s.hm.suspect := by
  unfold State.clearObject; (repeat' split) <;> (try dsimp only) <;> (repeat' split) <;> simp

@[simp] theorem State.clearObject_hm_isolate (o : ObjectId) (m : Bool) :
    (s.clearObject o m).hm.isolate = s.hm.isolate := by
  unfold State.clearObject; (repeat' split) <;> (try dsimp only) <;> (repeat' split) <;> simp

@[simp] theorem State.clearObject_hm_readmit (o : ObjectId) (m : Bool) :
    (s.clearObject o m).hm.readmit = s.hm.readmit := by
  unfold State.clearObject; (repeat' split) <;> (try dsimp only) <;> (repeat' split) <;> simp

@[simp] theorem State.clearObject_hm_shift (o : ObjectId) (m : Bool) :
    (s.clearObject o m).hm.shift = s.hm.shift := by
  unfold State.clearObject; (repeat' split) <;> (try dsimp only) <;> (repeat' split) <;> simp

@[simp] theorem State.clearObject_hm_decayInterval (o : ObjectId) (m : Bool) :
    (s.clearObject o m).hm.decayInterval = s.hm.decayInterval := by
  unfold State.clearObject; (repeat' split) <;> (try dsimp only) <;> (repeat' split) <;> simp

@[simp] theorem State.clearObject_hm_probeInterval (o : ObjectId) (m : Bool) :
    (s.clearObject o m).hm.probeInterval = s.hm.probeInterval := by
  unfold State.clearObject; (repeat' split) <;> (try dsimp only) <;> (repeat' split) <;> simp

@[simp] theorem State.clearObject_hm_weights (o : ObjectId) (m : Bool) :
    (s.clearObject o m).hm.weights = s.hm.weights := by
  unfold State.clearObject; (repeat' split) <;> (try dsimp only) <;> (repeat' split) <;> simp

@[simp] theorem State.clearObject_hm_decayTimer (o : ObjectId) (m : Bool) :
    (s.clearObject o m).hm.decayTimer = s.hm.decayTimer := by
  unfold State.clearObject; (repeat' split) <;> (try dsimp only) <;> (repeat' split) <;> simp

@[simp] theorem State.clearObject_hm_probeTimer (o : ObjectId) (m : Bool) :
    (s.clearObject o m).hm.probeTimer = s.hm.probeTimer := by
  unfold State.clearObject; (repeat' split) <;> (try dsimp only) <;> (repeat' split) <;> simp

@[simp] theorem State.clearObject_hm_segmentPointer (o : ObjectId) (m : Bool) :
    (s.clearObject o m).hm.segmentPointer = s.hm.segmentPointer := by
  unfold State.clearObject; (repeat' split) <;> (try dsimp only) <;> (repeat' split) <;> simp

@[simp] theorem State.clearObject_hm_stationPointer (o : ObjectId) (m : Bool) :
    (s.clearObject o m).hm.stationPointer = s.hm.stationPointer := by
  unfold State.clearObject; (repeat' split) <;> (try dsimp only) <;> (repeat' split) <;> simp

@[simp] theorem State.clearObject_hm_jabberMark (o : ObjectId) (m : Bool) :
    (s.clearObject o m).hm.jabberMark = s.hm.jabberMark := by
  unfold State.clearObject; (repeat' split) <;> (try dsimp only) <;> (repeat' split) <;> simp

@[simp] theorem State.clearKeeping_hm_suspect (o : ObjectId) :
    (s.clearKeeping o).hm.suspect = s.hm.suspect := by
  unfold State.clearKeeping; (repeat' split) <;> (try dsimp only) <;> (repeat' split) <;> simp

@[simp] theorem State.clearKeeping_hm_isolate (o : ObjectId) :
    (s.clearKeeping o).hm.isolate = s.hm.isolate := by
  unfold State.clearKeeping; (repeat' split) <;> (try dsimp only) <;> (repeat' split) <;> simp

@[simp] theorem State.clearKeeping_hm_readmit (o : ObjectId) :
    (s.clearKeeping o).hm.readmit = s.hm.readmit := by
  unfold State.clearKeeping; (repeat' split) <;> (try dsimp only) <;> (repeat' split) <;> simp

@[simp] theorem State.clearKeeping_hm_shift (o : ObjectId) :
    (s.clearKeeping o).hm.shift = s.hm.shift := by
  unfold State.clearKeeping; (repeat' split) <;> (try dsimp only) <;> (repeat' split) <;> simp

@[simp] theorem State.clearKeeping_hm_decayInterval (o : ObjectId) :
    (s.clearKeeping o).hm.decayInterval = s.hm.decayInterval := by
  unfold State.clearKeeping; (repeat' split) <;> (try dsimp only) <;> (repeat' split) <;> simp

@[simp] theorem State.clearKeeping_hm_probeInterval (o : ObjectId) :
    (s.clearKeeping o).hm.probeInterval = s.hm.probeInterval := by
  unfold State.clearKeeping; (repeat' split) <;> (try dsimp only) <;> (repeat' split) <;> simp

@[simp] theorem State.clearKeeping_hm_weights (o : ObjectId) :
    (s.clearKeeping o).hm.weights = s.hm.weights := by
  unfold State.clearKeeping; (repeat' split) <;> (try dsimp only) <;> (repeat' split) <;> simp

@[simp] theorem State.clearKeeping_hm_decayTimer (o : ObjectId) :
    (s.clearKeeping o).hm.decayTimer = s.hm.decayTimer := by
  unfold State.clearKeeping; (repeat' split) <;> (try dsimp only) <;> (repeat' split) <;> simp

@[simp] theorem State.clearKeeping_hm_probeTimer (o : ObjectId) :
    (s.clearKeeping o).hm.probeTimer = s.hm.probeTimer := by
  unfold State.clearKeeping; (repeat' split) <;> (try dsimp only) <;> (repeat' split) <;> simp

@[simp] theorem State.clearKeeping_hm_segmentPointer (o : ObjectId) :
    (s.clearKeeping o).hm.segmentPointer = s.hm.segmentPointer := by
  unfold State.clearKeeping; (repeat' split) <;> (try dsimp only) <;> (repeat' split) <;> simp

@[simp] theorem State.clearKeeping_hm_stationPointer (o : ObjectId) :
    (s.clearKeeping o).hm.stationPointer = s.hm.stationPointer := by
  unfold State.clearKeeping; (repeat' split) <;> (try dsimp only) <;> (repeat' split) <;> simp

@[simp] theorem State.clearKeeping_hm_jabberMark (o : ObjectId) :
    (s.clearKeeping o).hm.jabberMark = s.hm.jabberMark := by
  unfold State.clearKeeping; (repeat' split) <;> (try dsimp only) <;> (repeat' split) <;> simp

@[simp] theorem State.enterStandby_hm_suspect (n : PortNo) :
    (s.enterStandby n).hm.suspect = s.hm.suspect := by
  unfold State.enterStandby; (repeat' split) <;> (try dsimp only) <;> (repeat' split) <;> simp

@[simp] theorem State.enterStandby_hm_isolate (n : PortNo) :
    (s.enterStandby n).hm.isolate = s.hm.isolate := by
  unfold State.enterStandby; (repeat' split) <;> (try dsimp only) <;> (repeat' split) <;> simp

@[simp] theorem State.enterStandby_hm_readmit (n : PortNo) :
    (s.enterStandby n).hm.readmit = s.hm.readmit := by
  unfold State.enterStandby; (repeat' split) <;> (try dsimp only) <;> (repeat' split) <;> simp

@[simp] theorem State.enterStandby_hm_shift (n : PortNo) :
    (s.enterStandby n).hm.shift = s.hm.shift := by
  unfold State.enterStandby; (repeat' split) <;> (try dsimp only) <;> (repeat' split) <;> simp

@[simp] theorem State.enterStandby_hm_decayInterval (n : PortNo) :
    (s.enterStandby n).hm.decayInterval = s.hm.decayInterval := by
  unfold State.enterStandby; (repeat' split) <;> (try dsimp only) <;> (repeat' split) <;> simp

@[simp] theorem State.enterStandby_hm_probeInterval (n : PortNo) :
    (s.enterStandby n).hm.probeInterval = s.hm.probeInterval := by
  unfold State.enterStandby; (repeat' split) <;> (try dsimp only) <;> (repeat' split) <;> simp

@[simp] theorem State.enterStandby_hm_weights (n : PortNo) :
    (s.enterStandby n).hm.weights = s.hm.weights := by
  unfold State.enterStandby; (repeat' split) <;> (try dsimp only) <;> (repeat' split) <;> simp

@[simp] theorem State.enterStandby_hm_decayTimer (n : PortNo) :
    (s.enterStandby n).hm.decayTimer = s.hm.decayTimer := by
  unfold State.enterStandby; (repeat' split) <;> (try dsimp only) <;> (repeat' split) <;> simp

@[simp] theorem State.enterStandby_hm_probeTimer (n : PortNo) :
    (s.enterStandby n).hm.probeTimer = s.hm.probeTimer := by
  unfold State.enterStandby; (repeat' split) <;> (try dsimp only) <;> (repeat' split) <;> simp

@[simp] theorem State.enterStandby_hm_segmentPointer (n : PortNo) :
    (s.enterStandby n).hm.segmentPointer = s.hm.segmentPointer := by
  unfold State.enterStandby; (repeat' split) <;> (try dsimp only) <;> (repeat' split) <;> simp

@[simp] theorem State.enterStandby_hm_stationPointer (n : PortNo) :
    (s.enterStandby n).hm.stationPointer = s.hm.stationPointer := by
  unfold State.enterStandby; (repeat' split) <;> (try dsimp only) <;> (repeat' split) <;> simp

@[simp] theorem State.enterStandby_hm_jabberMark (n : PortNo) :
    (s.enterStandby n).hm.jabberMark = s.hm.jabberMark := by
  unfold State.enterStandby; (repeat' split) <;> (try dsimp only) <;> (repeat' split) <;> simp

@[simp] theorem State.finishStopping_hm_suspect (n : PortNo) :
    (s.finishStopping n).hm.suspect = s.hm.suspect := by
  unfold State.finishStopping; (repeat' split) <;> (try dsimp only) <;> (repeat' split) <;> simp

@[simp] theorem State.finishStopping_hm_isolate (n : PortNo) :
    (s.finishStopping n).hm.isolate = s.hm.isolate := by
  unfold State.finishStopping; (repeat' split) <;> (try dsimp only) <;> (repeat' split) <;> simp

@[simp] theorem State.finishStopping_hm_readmit (n : PortNo) :
    (s.finishStopping n).hm.readmit = s.hm.readmit := by
  unfold State.finishStopping; (repeat' split) <;> (try dsimp only) <;> (repeat' split) <;> simp

@[simp] theorem State.finishStopping_hm_shift (n : PortNo) :
    (s.finishStopping n).hm.shift = s.hm.shift := by
  unfold State.finishStopping; (repeat' split) <;> (try dsimp only) <;> (repeat' split) <;> simp

@[simp] theorem State.finishStopping_hm_decayInterval (n : PortNo) :
    (s.finishStopping n).hm.decayInterval = s.hm.decayInterval := by
  unfold State.finishStopping; (repeat' split) <;> (try dsimp only) <;> (repeat' split) <;> simp

@[simp] theorem State.finishStopping_hm_probeInterval (n : PortNo) :
    (s.finishStopping n).hm.probeInterval = s.hm.probeInterval := by
  unfold State.finishStopping; (repeat' split) <;> (try dsimp only) <;> (repeat' split) <;> simp

@[simp] theorem State.finishStopping_hm_weights (n : PortNo) :
    (s.finishStopping n).hm.weights = s.hm.weights := by
  unfold State.finishStopping; (repeat' split) <;> (try dsimp only) <;> (repeat' split) <;> simp

@[simp] theorem State.finishStopping_hm_decayTimer (n : PortNo) :
    (s.finishStopping n).hm.decayTimer = s.hm.decayTimer := by
  unfold State.finishStopping; (repeat' split) <;> (try dsimp only) <;> (repeat' split) <;> simp

@[simp] theorem State.finishStopping_hm_probeTimer (n : PortNo) :
    (s.finishStopping n).hm.probeTimer = s.hm.probeTimer := by
  unfold State.finishStopping; (repeat' split) <;> (try dsimp only) <;> (repeat' split) <;> simp

@[simp] theorem State.finishStopping_hm_segmentPointer (n : PortNo) :
    (s.finishStopping n).hm.segmentPointer = s.hm.segmentPointer := by
  unfold State.finishStopping; (repeat' split) <;> (try dsimp only) <;> (repeat' split) <;> simp

@[simp] theorem State.finishStopping_hm_stationPointer (n : PortNo) :
    (s.finishStopping n).hm.stationPointer = s.hm.stationPointer := by
  unfold State.finishStopping; (repeat' split) <;> (try dsimp only) <;> (repeat' split) <;> simp

@[simp] theorem State.finishStopping_hm_jabberMark (n : PortNo) :
    (s.finishStopping n).hm.jabberMark = s.hm.jabberMark := by
  unfold State.finishStopping; (repeat' split) <;> (try dsimp only) <;> (repeat' split) <;> simp

@[simp] theorem State.move_hm_suspect (g : Seg) (a : Address) :
    (s.move g a).hm.suspect = s.hm.suspect := by
  unfold State.move; (repeat' split) <;> (try dsimp only) <;> (repeat' split) <;> simp

@[simp] theorem State.move_hm_isolate (g : Seg) (a : Address) :
    (s.move g a).hm.isolate = s.hm.isolate := by
  unfold State.move; (repeat' split) <;> (try dsimp only) <;> (repeat' split) <;> simp

@[simp] theorem State.move_hm_readmit (g : Seg) (a : Address) :
    (s.move g a).hm.readmit = s.hm.readmit := by
  unfold State.move; (repeat' split) <;> (try dsimp only) <;> (repeat' split) <;> simp

@[simp] theorem State.move_hm_shift (g : Seg) (a : Address) :
    (s.move g a).hm.shift = s.hm.shift := by
  unfold State.move; (repeat' split) <;> (try dsimp only) <;> (repeat' split) <;> simp

@[simp] theorem State.move_hm_decayInterval (g : Seg) (a : Address) :
    (s.move g a).hm.decayInterval = s.hm.decayInterval := by
  unfold State.move; (repeat' split) <;> (try dsimp only) <;> (repeat' split) <;> simp

@[simp] theorem State.move_hm_probeInterval (g : Seg) (a : Address) :
    (s.move g a).hm.probeInterval = s.hm.probeInterval := by
  unfold State.move; (repeat' split) <;> (try dsimp only) <;> (repeat' split) <;> simp

@[simp] theorem State.move_hm_weights (g : Seg) (a : Address) :
    (s.move g a).hm.weights = s.hm.weights := by
  unfold State.move; (repeat' split) <;> (try dsimp only) <;> (repeat' split) <;> simp

@[simp] theorem State.move_hm_decayTimer (g : Seg) (a : Address) :
    (s.move g a).hm.decayTimer = s.hm.decayTimer := by
  unfold State.move; (repeat' split) <;> (try dsimp only) <;> (repeat' split) <;> simp

@[simp] theorem State.move_hm_probeTimer (g : Seg) (a : Address) :
    (s.move g a).hm.probeTimer = s.hm.probeTimer := by
  unfold State.move; (repeat' split) <;> (try dsimp only) <;> (repeat' split) <;> simp

@[simp] theorem State.move_hm_segmentPointer (g : Seg) (a : Address) :
    (s.move g a).hm.segmentPointer = s.hm.segmentPointer := by
  unfold State.move; (repeat' split) <;> (try dsimp only) <;> (repeat' split) <;> simp

@[simp] theorem State.move_hm_stationPointer (g : Seg) (a : Address) :
    (s.move g a).hm.stationPointer = s.hm.stationPointer := by
  unfold State.move; (repeat' split) <;> (try dsimp only) <;> (repeat' split) <;> simp

@[simp] theorem State.move_hm_jabberMark (g : Seg) (a : Address) :
    (s.move g a).hm.jabberMark = s.hm.jabberMark := by
  unfold State.move; (repeat' split) <;> (try dsimp only) <;> (repeat' split) <;> simp

@[simp] theorem State.conflict_hm_suspect (g : Seg) (a : Address) :
    (s.conflict g a).hm.suspect = s.hm.suspect := by
  unfold State.conflict; (repeat' split) <;> (try dsimp only) <;> (repeat' split) <;> simp

@[simp] theorem State.conflict_hm_isolate (g : Seg) (a : Address) :
    (s.conflict g a).hm.isolate = s.hm.isolate := by
  unfold State.conflict; (repeat' split) <;> (try dsimp only) <;> (repeat' split) <;> simp

@[simp] theorem State.conflict_hm_readmit (g : Seg) (a : Address) :
    (s.conflict g a).hm.readmit = s.hm.readmit := by
  unfold State.conflict; (repeat' split) <;> (try dsimp only) <;> (repeat' split) <;> simp

@[simp] theorem State.conflict_hm_shift (g : Seg) (a : Address) :
    (s.conflict g a).hm.shift = s.hm.shift := by
  unfold State.conflict; (repeat' split) <;> (try dsimp only) <;> (repeat' split) <;> simp

@[simp] theorem State.conflict_hm_decayInterval (g : Seg) (a : Address) :
    (s.conflict g a).hm.decayInterval = s.hm.decayInterval := by
  unfold State.conflict; (repeat' split) <;> (try dsimp only) <;> (repeat' split) <;> simp

@[simp] theorem State.conflict_hm_probeInterval (g : Seg) (a : Address) :
    (s.conflict g a).hm.probeInterval = s.hm.probeInterval := by
  unfold State.conflict; (repeat' split) <;> (try dsimp only) <;> (repeat' split) <;> simp

@[simp] theorem State.conflict_hm_weights (g : Seg) (a : Address) :
    (s.conflict g a).hm.weights = s.hm.weights := by
  unfold State.conflict; (repeat' split) <;> (try dsimp only) <;> (repeat' split) <;> simp

@[simp] theorem State.conflict_hm_decayTimer (g : Seg) (a : Address) :
    (s.conflict g a).hm.decayTimer = s.hm.decayTimer := by
  unfold State.conflict; (repeat' split) <;> (try dsimp only) <;> (repeat' split) <;> simp

@[simp] theorem State.conflict_hm_probeTimer (g : Seg) (a : Address) :
    (s.conflict g a).hm.probeTimer = s.hm.probeTimer := by
  unfold State.conflict; (repeat' split) <;> (try dsimp only) <;> (repeat' split) <;> simp

@[simp] theorem State.conflict_hm_segmentPointer (g : Seg) (a : Address) :
    (s.conflict g a).hm.segmentPointer = s.hm.segmentPointer := by
  unfold State.conflict; (repeat' split) <;> (try dsimp only) <;> (repeat' split) <;> simp

@[simp] theorem State.conflict_hm_stationPointer (g : Seg) (a : Address) :
    (s.conflict g a).hm.stationPointer = s.hm.stationPointer := by
  unfold State.conflict; (repeat' split) <;> (try dsimp only) <;> (repeat' split) <;> simp

@[simp] theorem State.conflict_hm_jabberMark (g : Seg) (a : Address) :
    (s.conflict g a).hm.jabberMark = s.hm.jabberMark := by
  unfold State.conflict; (repeat' split) <;> (try dsimp only) <;> (repeat' split) <;> simp

@[simp] theorem State.learn_hm_suspect (g : Seg) (a : Address) :
    (s.learn g a).hm.suspect = s.hm.suspect := by
  unfold State.learn; (repeat' split) <;> (try dsimp only) <;> (repeat' split) <;> simp

@[simp] theorem State.learn_hm_isolate (g : Seg) (a : Address) :
    (s.learn g a).hm.isolate = s.hm.isolate := by
  unfold State.learn; (repeat' split) <;> (try dsimp only) <;> (repeat' split) <;> simp

@[simp] theorem State.learn_hm_readmit (g : Seg) (a : Address) :
    (s.learn g a).hm.readmit = s.hm.readmit := by
  unfold State.learn; (repeat' split) <;> (try dsimp only) <;> (repeat' split) <;> simp

@[simp] theorem State.learn_hm_shift (g : Seg) (a : Address) :
    (s.learn g a).hm.shift = s.hm.shift := by
  unfold State.learn; (repeat' split) <;> (try dsimp only) <;> (repeat' split) <;> simp

@[simp] theorem State.learn_hm_decayInterval (g : Seg) (a : Address) :
    (s.learn g a).hm.decayInterval = s.hm.decayInterval := by
  unfold State.learn; (repeat' split) <;> (try dsimp only) <;> (repeat' split) <;> simp

@[simp] theorem State.learn_hm_probeInterval (g : Seg) (a : Address) :
    (s.learn g a).hm.probeInterval = s.hm.probeInterval := by
  unfold State.learn; (repeat' split) <;> (try dsimp only) <;> (repeat' split) <;> simp

@[simp] theorem State.learn_hm_weights (g : Seg) (a : Address) :
    (s.learn g a).hm.weights = s.hm.weights := by
  unfold State.learn; (repeat' split) <;> (try dsimp only) <;> (repeat' split) <;> simp

@[simp] theorem State.learn_hm_decayTimer (g : Seg) (a : Address) :
    (s.learn g a).hm.decayTimer = s.hm.decayTimer := by
  unfold State.learn; (repeat' split) <;> (try dsimp only) <;> (repeat' split) <;> simp

@[simp] theorem State.learn_hm_probeTimer (g : Seg) (a : Address) :
    (s.learn g a).hm.probeTimer = s.hm.probeTimer := by
  unfold State.learn; (repeat' split) <;> (try dsimp only) <;> (repeat' split) <;> simp

@[simp] theorem State.learn_hm_segmentPointer (g : Seg) (a : Address) :
    (s.learn g a).hm.segmentPointer = s.hm.segmentPointer := by
  unfold State.learn; (repeat' split) <;> (try dsimp only) <;> (repeat' split) <;> simp

@[simp] theorem State.learn_hm_stationPointer (g : Seg) (a : Address) :
    (s.learn g a).hm.stationPointer = s.hm.stationPointer := by
  unfold State.learn; (repeat' split) <;> (try dsimp only) <;> (repeat' split) <;> simp

@[simp] theorem State.learn_hm_jabberMark (g : Seg) (a : Address) :
    (s.learn g a).hm.jabberMark = s.hm.jabberMark := by
  unfold State.learn; (repeat' split) <;> (try dsimp only) <;> (repeat' split) <;> simp

@[simp] theorem State.ageEntry_hm_suspect (a : Address) :
    (s.ageEntry a).hm.suspect = s.hm.suspect := by
  unfold State.ageEntry; (repeat' split) <;> (try dsimp only) <;> (repeat' split) <;> simp

@[simp] theorem State.ageEntry_hm_isolate (a : Address) :
    (s.ageEntry a).hm.isolate = s.hm.isolate := by
  unfold State.ageEntry; (repeat' split) <;> (try dsimp only) <;> (repeat' split) <;> simp

@[simp] theorem State.ageEntry_hm_readmit (a : Address) :
    (s.ageEntry a).hm.readmit = s.hm.readmit := by
  unfold State.ageEntry; (repeat' split) <;> (try dsimp only) <;> (repeat' split) <;> simp

@[simp] theorem State.ageEntry_hm_shift (a : Address) :
    (s.ageEntry a).hm.shift = s.hm.shift := by
  unfold State.ageEntry; (repeat' split) <;> (try dsimp only) <;> (repeat' split) <;> simp

@[simp] theorem State.ageEntry_hm_decayInterval (a : Address) :
    (s.ageEntry a).hm.decayInterval = s.hm.decayInterval := by
  unfold State.ageEntry; (repeat' split) <;> (try dsimp only) <;> (repeat' split) <;> simp

@[simp] theorem State.ageEntry_hm_probeInterval (a : Address) :
    (s.ageEntry a).hm.probeInterval = s.hm.probeInterval := by
  unfold State.ageEntry; (repeat' split) <;> (try dsimp only) <;> (repeat' split) <;> simp

@[simp] theorem State.ageEntry_hm_weights (a : Address) :
    (s.ageEntry a).hm.weights = s.hm.weights := by
  unfold State.ageEntry; (repeat' split) <;> (try dsimp only) <;> (repeat' split) <;> simp

@[simp] theorem State.ageEntry_hm_decayTimer (a : Address) :
    (s.ageEntry a).hm.decayTimer = s.hm.decayTimer := by
  unfold State.ageEntry; (repeat' split) <;> (try dsimp only) <;> (repeat' split) <;> simp

@[simp] theorem State.ageEntry_hm_probeTimer (a : Address) :
    (s.ageEntry a).hm.probeTimer = s.hm.probeTimer := by
  unfold State.ageEntry; (repeat' split) <;> (try dsimp only) <;> (repeat' split) <;> simp

@[simp] theorem State.ageEntry_hm_segmentPointer (a : Address) :
    (s.ageEntry a).hm.segmentPointer = s.hm.segmentPointer := by
  unfold State.ageEntry; (repeat' split) <;> (try dsimp only) <;> (repeat' split) <;> simp

@[simp] theorem State.ageEntry_hm_stationPointer (a : Address) :
    (s.ageEntry a).hm.stationPointer = s.hm.stationPointer := by
  unfold State.ageEntry; (repeat' split) <;> (try dsimp only) <;> (repeat' split) <;> simp

@[simp] theorem State.ageEntry_hm_jabberMark (a : Address) :
    (s.ageEntry a).hm.jabberMark = s.hm.jabberMark := by
  unfold State.ageEntry; (repeat' split) <;> (try dsimp only) <;> (repeat' split) <;> simp

/-! ### Held counts alone change in the directory -/

@[simp] theorem State.entry_setHeld_location (src : Source) (n : Nat) (a' : Address) :
    ((s.setHeld src n).entry a').location = (s.entry a').location := by
  rw [State.entry_setHeld]

@[simp] theorem State.entry_setHeld_origin (src : Source) (n : Nat) (a' : Address) :
    ((s.setHeld src n).entry a').origin = (s.entry a').origin := by
  rw [State.entry_setHeld]

@[simp] theorem State.entry_setHeld_standIn (src : Source) (n : Nat) (a' : Address) :
    ((s.setHeld src n).entry a').standIn = (s.entry a').standIn := by
  rw [State.entry_setHeld]

@[simp] theorem State.entry_setHeld_age (src : Source) (n : Nat) (a' : Address) :
    ((s.setHeld src n).entry a').age = (s.entry a').age := by
  rw [State.entry_setHeld]

@[simp] theorem State.entry_setHeld_quota (src : Source) (n : Nat) (a' : Address) :
    ((s.setHeld src n).entry a').quota = (s.entry a').quota := by
  rw [State.entry_setHeld]

@[simp] theorem State.setHeld_sd_primaryQuota (src : Source) (n : Nat) :
    (s.setHeld src n).sd.primaryQuota = s.sd.primaryQuota := by cases src <;> rfl

@[simp] theorem State.setHeld_sd_ageLimit (src : Source) (n : Nat) :
    (s.setHeld src n).sd.ageLimit = s.sd.ageLimit := by cases src <;> rfl

@[simp] theorem State.setHeld_sd_minuteTimer (src : Source) (n : Nat) :
    (s.setHeld src n).sd.minuteTimer = s.sd.minuteTimer := by cases src <;> rfl

@[simp] theorem State.entry_admitText_location (j : Job) (text : List Byte) (a' : Address) :
    ((s.admitText j text).entry a').location = (s.entry a').location := by
  unfold State.admitText; (repeat' split) <;> (try dsimp only) <;> (repeat' split) <;> simp

@[simp] theorem State.entry_admitText_origin (j : Job) (text : List Byte) (a' : Address) :
    ((s.admitText j text).entry a').origin = (s.entry a').origin := by
  unfold State.admitText; (repeat' split) <;> (try dsimp only) <;> (repeat' split) <;> simp

@[simp] theorem State.entry_admitText_standIn (j : Job) (text : List Byte) (a' : Address) :
    ((s.admitText j text).entry a').standIn = (s.entry a').standIn := by
  unfold State.admitText; (repeat' split) <;> (try dsimp only) <;> (repeat' split) <;> simp

@[simp] theorem State.entry_admitText_age (j : Job) (text : List Byte) (a' : Address) :
    ((s.admitText j text).entry a').age = (s.entry a').age := by
  unfold State.admitText; (repeat' split) <;> (try dsimp only) <;> (repeat' split) <;> simp

@[simp] theorem State.entry_admitText_quota (j : Job) (text : List Byte) (a' : Address) :
    ((s.admitText j text).entry a').quota = (s.entry a').quota := by
  unfold State.admitText; (repeat' split) <;> (try dsimp only) <;> (repeat' split) <;> simp

@[simp] theorem State.admitText_sd_primaryQuota (j : Job) (text : List Byte) :
    (s.admitText j text).sd.primaryQuota = s.sd.primaryQuota := by
  unfold State.admitText; (repeat' split) <;> (try dsimp only) <;> (repeat' split) <;> simp

@[simp] theorem State.admitText_sd_ageLimit (j : Job) (text : List Byte) :
    (s.admitText j text).sd.ageLimit = s.sd.ageLimit := by
  unfold State.admitText; (repeat' split) <;> (try dsimp only) <;> (repeat' split) <;> simp

@[simp] theorem State.admitText_sd_minuteTimer (j : Job) (text : List Byte) :
    (s.admitText j text).sd.minuteTimer = s.sd.minuteTimer := by
  unfold State.admitText; (repeat' split) <;> (try dsimp only) <;> (repeat' split) <;> simp

@[simp] theorem State.entry_removeJob_location (j : Job) (e : Ending) (a' : Address) :
    ((s.removeJob j e).entry a').location = (s.entry a').location := by
  unfold State.removeJob; (repeat' split) <;> (try dsimp only) <;> (repeat' split) <;> simp

@[simp] theorem State.entry_removeJob_origin (j : Job) (e : Ending) (a' : Address) :
    ((s.removeJob j e).entry a').origin = (s.entry a').origin := by
  unfold State.removeJob; (repeat' split) <;> (try dsimp only) <;> (repeat' split) <;> simp

@[simp] theorem State.entry_removeJob_standIn (j : Job) (e : Ending) (a' : Address) :
    ((s.removeJob j e).entry a').standIn = (s.entry a').standIn := by
  unfold State.removeJob; (repeat' split) <;> (try dsimp only) <;> (repeat' split) <;> simp

@[simp] theorem State.entry_removeJob_age (j : Job) (e : Ending) (a' : Address) :
    ((s.removeJob j e).entry a').age = (s.entry a').age := by
  unfold State.removeJob; (repeat' split) <;> (try dsimp only) <;> (repeat' split) <;> simp

@[simp] theorem State.entry_removeJob_quota (j : Job) (e : Ending) (a' : Address) :
    ((s.removeJob j e).entry a').quota = (s.entry a').quota := by
  unfold State.removeJob; (repeat' split) <;> (try dsimp only) <;> (repeat' split) <;> simp

@[simp] theorem State.removeJob_sd_primaryQuota (j : Job) (e : Ending) :
    (s.removeJob j e).sd.primaryQuota = s.sd.primaryQuota := by
  unfold State.removeJob; (repeat' split) <;> (try dsimp only) <;> (repeat' split) <;> simp

@[simp] theorem State.removeJob_sd_ageLimit (j : Job) (e : Ending) :
    (s.removeJob j e).sd.ageLimit = s.sd.ageLimit := by
  unfold State.removeJob; (repeat' split) <;> (try dsimp only) <;> (repeat' split) <;> simp

@[simp] theorem State.removeJob_sd_minuteTimer (j : Job) (e : Ending) :
    (s.removeJob j e).sd.minuteTimer = s.sd.minuteTimer := by
  unfold State.removeJob; (repeat' split) <;> (try dsimp only) <;> (repeat' split) <;> simp

@[simp] theorem State.entry_discardOpen_location (n : PortNo) (a' : Address) :
    ((s.discardOpen n).entry a').location = (s.entry a').location := by
  unfold State.discardOpen; (repeat' split) <;> (try dsimp only) <;> (repeat' split) <;> simp

@[simp] theorem State.entry_discardOpen_origin (n : PortNo) (a' : Address) :
    ((s.discardOpen n).entry a').origin = (s.entry a').origin := by
  unfold State.discardOpen; (repeat' split) <;> (try dsimp only) <;> (repeat' split) <;> simp

@[simp] theorem State.entry_discardOpen_standIn (n : PortNo) (a' : Address) :
    ((s.discardOpen n).entry a').standIn = (s.entry a').standIn := by
  unfold State.discardOpen; (repeat' split) <;> (try dsimp only) <;> (repeat' split) <;> simp

@[simp] theorem State.entry_discardOpen_age (n : PortNo) (a' : Address) :
    ((s.discardOpen n).entry a').age = (s.entry a').age := by
  unfold State.discardOpen; (repeat' split) <;> (try dsimp only) <;> (repeat' split) <;> simp

@[simp] theorem State.entry_discardOpen_quota (n : PortNo) (a' : Address) :
    ((s.discardOpen n).entry a').quota = (s.entry a').quota := by
  unfold State.discardOpen; (repeat' split) <;> (try dsimp only) <;> (repeat' split) <;> simp

@[simp] theorem State.discardOpen_sd_primaryQuota (n : PortNo) :
    (s.discardOpen n).sd.primaryQuota = s.sd.primaryQuota := by
  unfold State.discardOpen; (repeat' split) <;> (try dsimp only) <;> (repeat' split) <;> simp

@[simp] theorem State.discardOpen_sd_ageLimit (n : PortNo) :
    (s.discardOpen n).sd.ageLimit = s.sd.ageLimit := by
  unfold State.discardOpen; (repeat' split) <;> (try dsimp only) <;> (repeat' split) <;> simp

@[simp] theorem State.discardOpen_sd_minuteTimer (n : PortNo) :
    (s.discardOpen n).sd.minuteTimer = s.sd.minuteTimer := by
  unfold State.discardOpen; (repeat' split) <;> (try dsimp only) <;> (repeat' split) <;> simp

@[simp] theorem State.entry_endJob_location (e : Ending) (a' : Address) :
    ((s.endJob e).entry a').location = (s.entry a').location := by
  unfold State.endJob; (repeat' split) <;> (try dsimp only) <;> (repeat' split) <;> simp

@[simp] theorem State.entry_endJob_origin (e : Ending) (a' : Address) :
    ((s.endJob e).entry a').origin = (s.entry a').origin := by
  unfold State.endJob; (repeat' split) <;> (try dsimp only) <;> (repeat' split) <;> simp

@[simp] theorem State.entry_endJob_standIn (e : Ending) (a' : Address) :
    ((s.endJob e).entry a').standIn = (s.entry a').standIn := by
  unfold State.endJob; (repeat' split) <;> (try dsimp only) <;> (repeat' split) <;> simp

@[simp] theorem State.entry_endJob_age (e : Ending) (a' : Address) :
    ((s.endJob e).entry a').age = (s.entry a').age := by
  unfold State.endJob; (repeat' split) <;> (try dsimp only) <;> (repeat' split) <;> simp

@[simp] theorem State.entry_endJob_quota (e : Ending) (a' : Address) :
    ((s.endJob e).entry a').quota = (s.entry a').quota := by
  unfold State.endJob; (repeat' split) <;> (try dsimp only) <;> (repeat' split) <;> simp

@[simp] theorem State.endJob_sd_primaryQuota (e : Ending) :
    (s.endJob e).sd.primaryQuota = s.sd.primaryQuota := by
  unfold State.endJob; (repeat' split) <;> (try dsimp only) <;> (repeat' split) <;> simp

@[simp] theorem State.endJob_sd_ageLimit (e : Ending) :
    (s.endJob e).sd.ageLimit = s.sd.ageLimit := by
  unfold State.endJob; (repeat' split) <;> (try dsimp only) <;> (repeat' split) <;> simp

@[simp] theorem State.endJob_sd_minuteTimer (e : Ending) :
    (s.endJob e).sd.minuteTimer = s.sd.minuteTimer := by
  unfold State.endJob; (repeat' split) <;> (try dsimp only) <;> (repeat' split) <;> simp

@[simp] theorem State.entry_isolatePort_location (n : PortNo) (a' : Address) :
    ((s.isolatePort n).entry a').location = (s.entry a').location := by
  unfold State.isolatePort; (repeat' split) <;> (try dsimp only) <;> (repeat' split) <;> simp

@[simp] theorem State.entry_isolatePort_origin (n : PortNo) (a' : Address) :
    ((s.isolatePort n).entry a').origin = (s.entry a').origin := by
  unfold State.isolatePort; (repeat' split) <;> (try dsimp only) <;> (repeat' split) <;> simp

@[simp] theorem State.entry_isolatePort_standIn (n : PortNo) (a' : Address) :
    ((s.isolatePort n).entry a').standIn = (s.entry a').standIn := by
  unfold State.isolatePort; (repeat' split) <;> (try dsimp only) <;> (repeat' split) <;> simp

@[simp] theorem State.entry_isolatePort_age (n : PortNo) (a' : Address) :
    ((s.isolatePort n).entry a').age = (s.entry a').age := by
  unfold State.isolatePort; (repeat' split) <;> (try dsimp only) <;> (repeat' split) <;> simp

@[simp] theorem State.entry_isolatePort_quota (n : PortNo) (a' : Address) :
    ((s.isolatePort n).entry a').quota = (s.entry a').quota := by
  unfold State.isolatePort; (repeat' split) <;> (try dsimp only) <;> (repeat' split) <;> simp

@[simp] theorem State.isolatePort_sd_primaryQuota (n : PortNo) :
    (s.isolatePort n).sd.primaryQuota = s.sd.primaryQuota := by
  unfold State.isolatePort; (repeat' split) <;> (try dsimp only) <;> (repeat' split) <;> simp

@[simp] theorem State.isolatePort_sd_ageLimit (n : PortNo) :
    (s.isolatePort n).sd.ageLimit = s.sd.ageLimit := by
  unfold State.isolatePort; (repeat' split) <;> (try dsimp only) <;> (repeat' split) <;> simp

@[simp] theorem State.isolatePort_sd_minuteTimer (n : PortNo) :
    (s.isolatePort n).sd.minuteTimer = s.sd.minuteTimer := by
  unfold State.isolatePort; (repeat' split) <;> (try dsimp only) <;> (repeat' split) <;> simp

@[simp] theorem State.entry_isolateObject_location (o : ObjectId) (a' : Address) :
    ((s.isolateObject o).entry a').location = (s.entry a').location := by
  unfold State.isolateObject; (repeat' split) <;> (try dsimp only) <;> (repeat' split) <;> simp

@[simp] theorem State.entry_isolateObject_origin (o : ObjectId) (a' : Address) :
    ((s.isolateObject o).entry a').origin = (s.entry a').origin := by
  unfold State.isolateObject; (repeat' split) <;> (try dsimp only) <;> (repeat' split) <;> simp

@[simp] theorem State.entry_isolateObject_standIn (o : ObjectId) (a' : Address) :
    ((s.isolateObject o).entry a').standIn = (s.entry a').standIn := by
  unfold State.isolateObject; (repeat' split) <;> (try dsimp only) <;> (repeat' split) <;> simp

@[simp] theorem State.entry_isolateObject_age (o : ObjectId) (a' : Address) :
    ((s.isolateObject o).entry a').age = (s.entry a').age := by
  unfold State.isolateObject; (repeat' split) <;> (try dsimp only) <;> (repeat' split) <;> simp

@[simp] theorem State.entry_isolateObject_quota (o : ObjectId) (a' : Address) :
    ((s.isolateObject o).entry a').quota = (s.entry a').quota := by
  unfold State.isolateObject; (repeat' split) <;> (try dsimp only) <;> (repeat' split) <;> simp

@[simp] theorem State.isolateObject_sd_primaryQuota (o : ObjectId) :
    (s.isolateObject o).sd.primaryQuota = s.sd.primaryQuota := by
  unfold State.isolateObject; (repeat' split) <;> (try dsimp only) <;> (repeat' split) <;> simp

@[simp] theorem State.isolateObject_sd_ageLimit (o : ObjectId) :
    (s.isolateObject o).sd.ageLimit = s.sd.ageLimit := by
  unfold State.isolateObject; (repeat' split) <;> (try dsimp only) <;> (repeat' split) <;> simp

@[simp] theorem State.isolateObject_sd_minuteTimer (o : ObjectId) :
    (s.isolateObject o).sd.minuteTimer = s.sd.minuteTimer := by
  unfold State.isolateObject; (repeat' split) <;> (try dsimp only) <;> (repeat' split) <;> simp

@[simp] theorem State.entry_evaluate_location (o : ObjectId) (a' : Address) :
    ((s.evaluate o).entry a').location = (s.entry a').location := by
  unfold State.evaluate; (repeat' split) <;> (try dsimp only) <;> (repeat' split) <;> simp

@[simp] theorem State.entry_evaluate_origin (o : ObjectId) (a' : Address) :
    ((s.evaluate o).entry a').origin = (s.entry a').origin := by
  unfold State.evaluate; (repeat' split) <;> (try dsimp only) <;> (repeat' split) <;> simp

@[simp] theorem State.entry_evaluate_standIn (o : ObjectId) (a' : Address) :
    ((s.evaluate o).entry a').standIn = (s.entry a').standIn := by
  unfold State.evaluate; (repeat' split) <;> (try dsimp only) <;> (repeat' split) <;> simp

@[simp] theorem State.entry_evaluate_age (o : ObjectId) (a' : Address) :
    ((s.evaluate o).entry a').age = (s.entry a').age := by
  unfold State.evaluate; (repeat' split) <;> (try dsimp only) <;> (repeat' split) <;> simp

@[simp] theorem State.entry_evaluate_quota (o : ObjectId) (a' : Address) :
    ((s.evaluate o).entry a').quota = (s.entry a').quota := by
  unfold State.evaluate; (repeat' split) <;> (try dsimp only) <;> (repeat' split) <;> simp

@[simp] theorem State.evaluate_sd_primaryQuota (o : ObjectId) :
    (s.evaluate o).sd.primaryQuota = s.sd.primaryQuota := by
  unfold State.evaluate; (repeat' split) <;> (try dsimp only) <;> (repeat' split) <;> simp

@[simp] theorem State.evaluate_sd_ageLimit (o : ObjectId) :
    (s.evaluate o).sd.ageLimit = s.sd.ageLimit := by
  unfold State.evaluate; (repeat' split) <;> (try dsimp only) <;> (repeat' split) <;> simp

@[simp] theorem State.evaluate_sd_minuteTimer (o : ObjectId) :
    (s.evaluate o).sd.minuteTimer = s.sd.minuteTimer := by
  unfold State.evaluate; (repeat' split) <;> (try dsimp only) <;> (repeat' split) <;> simp

@[simp] theorem State.entry_addScore_location (o : ObjectId) (w : Nat) (a' : Address) :
    ((s.addScore o w).entry a').location = (s.entry a').location := by
  unfold State.addScore; (repeat' split) <;> (try dsimp only) <;> (repeat' split) <;> simp

@[simp] theorem State.entry_addScore_origin (o : ObjectId) (w : Nat) (a' : Address) :
    ((s.addScore o w).entry a').origin = (s.entry a').origin := by
  unfold State.addScore; (repeat' split) <;> (try dsimp only) <;> (repeat' split) <;> simp

@[simp] theorem State.entry_addScore_standIn (o : ObjectId) (w : Nat) (a' : Address) :
    ((s.addScore o w).entry a').standIn = (s.entry a').standIn := by
  unfold State.addScore; (repeat' split) <;> (try dsimp only) <;> (repeat' split) <;> simp

@[simp] theorem State.entry_addScore_age (o : ObjectId) (w : Nat) (a' : Address) :
    ((s.addScore o w).entry a').age = (s.entry a').age := by
  unfold State.addScore; (repeat' split) <;> (try dsimp only) <;> (repeat' split) <;> simp

@[simp] theorem State.entry_addScore_quota (o : ObjectId) (w : Nat) (a' : Address) :
    ((s.addScore o w).entry a').quota = (s.entry a').quota := by
  unfold State.addScore; (repeat' split) <;> (try dsimp only) <;> (repeat' split) <;> simp

@[simp] theorem State.addScore_sd_primaryQuota (o : ObjectId) (w : Nat) :
    (s.addScore o w).sd.primaryQuota = s.sd.primaryQuota := by
  unfold State.addScore; (repeat' split) <;> (try dsimp only) <;> (repeat' split) <;> simp

@[simp] theorem State.addScore_sd_ageLimit (o : ObjectId) (w : Nat) :
    (s.addScore o w).sd.ageLimit = s.sd.ageLimit := by
  unfold State.addScore; (repeat' split) <;> (try dsimp only) <;> (repeat' split) <;> simp

@[simp] theorem State.addScore_sd_minuteTimer (o : ObjectId) (w : Nat) :
    (s.addScore o w).sd.minuteTimer = s.sd.minuteTimer := by
  unfold State.addScore; (repeat' split) <;> (try dsimp only) <;> (repeat' split) <;> simp

@[simp] theorem State.entry_chargeStation_location (a : Address) (w : Byte) (a' : Address) :
    ((s.chargeStation a w).entry a').location = (s.entry a').location := by
  unfold State.chargeStation; (repeat' split) <;> (try dsimp only) <;> (repeat' split) <;> simp

@[simp] theorem State.entry_chargeStation_origin (a : Address) (w : Byte) (a' : Address) :
    ((s.chargeStation a w).entry a').origin = (s.entry a').origin := by
  unfold State.chargeStation; (repeat' split) <;> (try dsimp only) <;> (repeat' split) <;> simp

@[simp] theorem State.entry_chargeStation_standIn (a : Address) (w : Byte) (a' : Address) :
    ((s.chargeStation a w).entry a').standIn = (s.entry a').standIn := by
  unfold State.chargeStation; (repeat' split) <;> (try dsimp only) <;> (repeat' split) <;> simp

@[simp] theorem State.entry_chargeStation_age (a : Address) (w : Byte) (a' : Address) :
    ((s.chargeStation a w).entry a').age = (s.entry a').age := by
  unfold State.chargeStation; (repeat' split) <;> (try dsimp only) <;> (repeat' split) <;> simp

@[simp] theorem State.entry_chargeStation_quota (a : Address) (w : Byte) (a' : Address) :
    ((s.chargeStation a w).entry a').quota = (s.entry a').quota := by
  unfold State.chargeStation; (repeat' split) <;> (try dsimp only) <;> (repeat' split) <;> simp

@[simp] theorem State.chargeStation_sd_primaryQuota (a : Address) (w : Byte) :
    (s.chargeStation a w).sd.primaryQuota = s.sd.primaryQuota := by
  unfold State.chargeStation; (repeat' split) <;> (try dsimp only) <;> (repeat' split) <;> simp

@[simp] theorem State.chargeStation_sd_ageLimit (a : Address) (w : Byte) :
    (s.chargeStation a w).sd.ageLimit = s.sd.ageLimit := by
  unfold State.chargeStation; (repeat' split) <;> (try dsimp only) <;> (repeat' split) <;> simp

@[simp] theorem State.chargeStation_sd_minuteTimer (a : Address) (w : Byte) :
    (s.chargeStation a w).sd.minuteTimer = s.sd.minuteTimer := by
  unfold State.chargeStation; (repeat' split) <;> (try dsimp only) <;> (repeat' split) <;> simp

@[simp] theorem State.entry_chargeSegment_location (g : Seg) (w : Byte) (a' : Address) :
    ((s.chargeSegment g w).entry a').location = (s.entry a').location := by
  unfold State.chargeSegment; (repeat' split) <;> (try dsimp only) <;> (repeat' split) <;> simp

@[simp] theorem State.entry_chargeSegment_origin (g : Seg) (w : Byte) (a' : Address) :
    ((s.chargeSegment g w).entry a').origin = (s.entry a').origin := by
  unfold State.chargeSegment; (repeat' split) <;> (try dsimp only) <;> (repeat' split) <;> simp

@[simp] theorem State.entry_chargeSegment_standIn (g : Seg) (w : Byte) (a' : Address) :
    ((s.chargeSegment g w).entry a').standIn = (s.entry a').standIn := by
  unfold State.chargeSegment; (repeat' split) <;> (try dsimp only) <;> (repeat' split) <;> simp

@[simp] theorem State.entry_chargeSegment_age (g : Seg) (w : Byte) (a' : Address) :
    ((s.chargeSegment g w).entry a').age = (s.entry a').age := by
  unfold State.chargeSegment; (repeat' split) <;> (try dsimp only) <;> (repeat' split) <;> simp

@[simp] theorem State.entry_chargeSegment_quota (g : Seg) (w : Byte) (a' : Address) :
    ((s.chargeSegment g w).entry a').quota = (s.entry a').quota := by
  unfold State.chargeSegment; (repeat' split) <;> (try dsimp only) <;> (repeat' split) <;> simp

@[simp] theorem State.chargeSegment_sd_primaryQuota (g : Seg) (w : Byte) :
    (s.chargeSegment g w).sd.primaryQuota = s.sd.primaryQuota := by
  unfold State.chargeSegment; (repeat' split) <;> (try dsimp only) <;> (repeat' split) <;> simp

@[simp] theorem State.chargeSegment_sd_ageLimit (g : Seg) (w : Byte) :
    (s.chargeSegment g w).sd.ageLimit = s.sd.ageLimit := by
  unfold State.chargeSegment; (repeat' split) <;> (try dsimp only) <;> (repeat' split) <;> simp

@[simp] theorem State.chargeSegment_sd_minuteTimer (g : Seg) (w : Byte) :
    (s.chargeSegment g w).sd.minuteTimer = s.sd.minuteTimer := by
  unfold State.chargeSegment; (repeat' split) <;> (try dsimp only) <;> (repeat' split) <;> simp

@[simp] theorem State.entry_chargePort_location (n : PortNo) (w : Byte) (a' : Address) :
    ((s.chargePort n w).entry a').location = (s.entry a').location := by
  unfold State.chargePort; (repeat' split) <;> (try dsimp only) <;> (repeat' split) <;> simp

@[simp] theorem State.entry_chargePort_origin (n : PortNo) (w : Byte) (a' : Address) :
    ((s.chargePort n w).entry a').origin = (s.entry a').origin := by
  unfold State.chargePort; (repeat' split) <;> (try dsimp only) <;> (repeat' split) <;> simp

@[simp] theorem State.entry_chargePort_standIn (n : PortNo) (w : Byte) (a' : Address) :
    ((s.chargePort n w).entry a').standIn = (s.entry a').standIn := by
  unfold State.chargePort; (repeat' split) <;> (try dsimp only) <;> (repeat' split) <;> simp

@[simp] theorem State.entry_chargePort_age (n : PortNo) (w : Byte) (a' : Address) :
    ((s.chargePort n w).entry a').age = (s.entry a').age := by
  unfold State.chargePort; (repeat' split) <;> (try dsimp only) <;> (repeat' split) <;> simp

@[simp] theorem State.entry_chargePort_quota (n : PortNo) (w : Byte) (a' : Address) :
    ((s.chargePort n w).entry a').quota = (s.entry a').quota := by
  unfold State.chargePort; (repeat' split) <;> (try dsimp only) <;> (repeat' split) <;> simp

@[simp] theorem State.chargePort_sd_primaryQuota (n : PortNo) (w : Byte) :
    (s.chargePort n w).sd.primaryQuota = s.sd.primaryQuota := by
  unfold State.chargePort; (repeat' split) <;> (try dsimp only) <;> (repeat' split) <;> simp

@[simp] theorem State.chargePort_sd_ageLimit (n : PortNo) (w : Byte) :
    (s.chargePort n w).sd.ageLimit = s.sd.ageLimit := by
  unfold State.chargePort; (repeat' split) <;> (try dsimp only) <;> (repeat' split) <;> simp

@[simp] theorem State.chargePort_sd_minuteTimer (n : PortNo) (w : Byte) :
    (s.chargePort n w).sd.minuteTimer = s.sd.minuteTimer := by
  unfold State.chargePort; (repeat' split) <;> (try dsimp only) <;> (repeat' split) <;> simp

@[simp] theorem State.entry_probeFailure_location (o : ObjectId) (a' : Address) :
    ((s.probeFailure o).entry a').location = (s.entry a').location := by
  unfold State.probeFailure; (repeat' split) <;> (try dsimp only) <;> (repeat' split) <;> simp

@[simp] theorem State.entry_probeFailure_origin (o : ObjectId) (a' : Address) :
    ((s.probeFailure o).entry a').origin = (s.entry a').origin := by
  unfold State.probeFailure; (repeat' split) <;> (try dsimp only) <;> (repeat' split) <;> simp

@[simp] theorem State.entry_probeFailure_standIn (o : ObjectId) (a' : Address) :
    ((s.probeFailure o).entry a').standIn = (s.entry a').standIn := by
  unfold State.probeFailure; (repeat' split) <;> (try dsimp only) <;> (repeat' split) <;> simp

@[simp] theorem State.entry_probeFailure_age (o : ObjectId) (a' : Address) :
    ((s.probeFailure o).entry a').age = (s.entry a').age := by
  unfold State.probeFailure; (repeat' split) <;> (try dsimp only) <;> (repeat' split) <;> simp

@[simp] theorem State.entry_probeFailure_quota (o : ObjectId) (a' : Address) :
    ((s.probeFailure o).entry a').quota = (s.entry a').quota := by
  unfold State.probeFailure; (repeat' split) <;> (try dsimp only) <;> (repeat' split) <;> simp

@[simp] theorem State.probeFailure_sd_primaryQuota (o : ObjectId) :
    (s.probeFailure o).sd.primaryQuota = s.sd.primaryQuota := by
  unfold State.probeFailure; (repeat' split) <;> (try dsimp only) <;> (repeat' split) <;> simp

@[simp] theorem State.probeFailure_sd_ageLimit (o : ObjectId) :
    (s.probeFailure o).sd.ageLimit = s.sd.ageLimit := by
  unfold State.probeFailure; (repeat' split) <;> (try dsimp only) <;> (repeat' split) <;> simp

@[simp] theorem State.probeFailure_sd_minuteTimer (o : ObjectId) :
    (s.probeFailure o).sd.minuteTimer = s.sd.minuteTimer := by
  unfold State.probeFailure; (repeat' split) <;> (try dsimp only) <;> (repeat' split) <;> simp

@[simp] theorem State.entry_probeCredit_location (o : ObjectId) (a' : Address) :
    ((s.probeCredit o).entry a').location = (s.entry a').location := by
  unfold State.probeCredit; (repeat' split) <;> (try dsimp only) <;> (repeat' split) <;> simp

@[simp] theorem State.entry_probeCredit_origin (o : ObjectId) (a' : Address) :
    ((s.probeCredit o).entry a').origin = (s.entry a').origin := by
  unfold State.probeCredit; (repeat' split) <;> (try dsimp only) <;> (repeat' split) <;> simp

@[simp] theorem State.entry_probeCredit_standIn (o : ObjectId) (a' : Address) :
    ((s.probeCredit o).entry a').standIn = (s.entry a').standIn := by
  unfold State.probeCredit; (repeat' split) <;> (try dsimp only) <;> (repeat' split) <;> simp

@[simp] theorem State.entry_probeCredit_age (o : ObjectId) (a' : Address) :
    ((s.probeCredit o).entry a').age = (s.entry a').age := by
  unfold State.probeCredit; (repeat' split) <;> (try dsimp only) <;> (repeat' split) <;> simp

@[simp] theorem State.entry_probeCredit_quota (o : ObjectId) (a' : Address) :
    ((s.probeCredit o).entry a').quota = (s.entry a').quota := by
  unfold State.probeCredit; (repeat' split) <;> (try dsimp only) <;> (repeat' split) <;> simp

@[simp] theorem State.probeCredit_sd_primaryQuota (o : ObjectId) :
    (s.probeCredit o).sd.primaryQuota = s.sd.primaryQuota := by
  unfold State.probeCredit; (repeat' split) <;> (try dsimp only) <;> (repeat' split) <;> simp

@[simp] theorem State.probeCredit_sd_ageLimit (o : ObjectId) :
    (s.probeCredit o).sd.ageLimit = s.sd.ageLimit := by
  unfold State.probeCredit; (repeat' split) <;> (try dsimp only) <;> (repeat' split) <;> simp

@[simp] theorem State.probeCredit_sd_minuteTimer (o : ObjectId) :
    (s.probeCredit o).sd.minuteTimer = s.sd.minuteTimer := by
  unfold State.probeCredit; (repeat' split) <;> (try dsimp only) <;> (repeat' split) <;> simp

@[simp] theorem State.entry_pollMiss_location (g : Seg) (a : Address) (a' : Address) :
    ((s.pollMiss g a).entry a').location = (s.entry a').location := by
  unfold State.pollMiss; (repeat' split) <;> (try dsimp only) <;> (repeat' split) <;> simp

@[simp] theorem State.entry_pollMiss_origin (g : Seg) (a : Address) (a' : Address) :
    ((s.pollMiss g a).entry a').origin = (s.entry a').origin := by
  unfold State.pollMiss; (repeat' split) <;> (try dsimp only) <;> (repeat' split) <;> simp

@[simp] theorem State.entry_pollMiss_standIn (g : Seg) (a : Address) (a' : Address) :
    ((s.pollMiss g a).entry a').standIn = (s.entry a').standIn := by
  unfold State.pollMiss; (repeat' split) <;> (try dsimp only) <;> (repeat' split) <;> simp

@[simp] theorem State.entry_pollMiss_age (g : Seg) (a : Address) (a' : Address) :
    ((s.pollMiss g a).entry a').age = (s.entry a').age := by
  unfold State.pollMiss; (repeat' split) <;> (try dsimp only) <;> (repeat' split) <;> simp

@[simp] theorem State.entry_pollMiss_quota (g : Seg) (a : Address) (a' : Address) :
    ((s.pollMiss g a).entry a').quota = (s.entry a').quota := by
  unfold State.pollMiss; (repeat' split) <;> (try dsimp only) <;> (repeat' split) <;> simp

@[simp] theorem State.pollMiss_sd_primaryQuota (g : Seg) (a : Address) :
    (s.pollMiss g a).sd.primaryQuota = s.sd.primaryQuota := by
  unfold State.pollMiss; (repeat' split) <;> (try dsimp only) <;> (repeat' split) <;> simp

@[simp] theorem State.pollMiss_sd_ageLimit (g : Seg) (a : Address) :
    (s.pollMiss g a).sd.ageLimit = s.sd.ageLimit := by
  unfold State.pollMiss; (repeat' split) <;> (try dsimp only) <;> (repeat' split) <;> simp

@[simp] theorem State.pollMiss_sd_minuteTimer (g : Seg) (a : Address) :
    (s.pollMiss g a).sd.minuteTimer = s.sd.minuteTimer := by
  unfold State.pollMiss; (repeat' split) <;> (try dsimp only) <;> (repeat' split) <;> simp

@[simp] theorem State.entry_chargeConflict_location (g : Seg) (a' : Address) :
    ((s.chargeConflict g).entry a').location = (s.entry a').location := by
  unfold State.chargeConflict; (repeat' split) <;> (try dsimp only) <;> (repeat' split) <;> simp

@[simp] theorem State.entry_chargeConflict_origin (g : Seg) (a' : Address) :
    ((s.chargeConflict g).entry a').origin = (s.entry a').origin := by
  unfold State.chargeConflict; (repeat' split) <;> (try dsimp only) <;> (repeat' split) <;> simp

@[simp] theorem State.entry_chargeConflict_standIn (g : Seg) (a' : Address) :
    ((s.chargeConflict g).entry a').standIn = (s.entry a').standIn := by
  unfold State.chargeConflict; (repeat' split) <;> (try dsimp only) <;> (repeat' split) <;> simp

@[simp] theorem State.entry_chargeConflict_age (g : Seg) (a' : Address) :
    ((s.chargeConflict g).entry a').age = (s.entry a').age := by
  unfold State.chargeConflict; (repeat' split) <;> (try dsimp only) <;> (repeat' split) <;> simp

@[simp] theorem State.entry_chargeConflict_quota (g : Seg) (a' : Address) :
    ((s.chargeConflict g).entry a').quota = (s.entry a').quota := by
  unfold State.chargeConflict; (repeat' split) <;> (try dsimp only) <;> (repeat' split) <;> simp

@[simp] theorem State.chargeConflict_sd_primaryQuota (g : Seg) :
    (s.chargeConflict g).sd.primaryQuota = s.sd.primaryQuota := by
  unfold State.chargeConflict; (repeat' split) <;> (try dsimp only) <;> (repeat' split) <;> simp

@[simp] theorem State.chargeConflict_sd_ageLimit (g : Seg) :
    (s.chargeConflict g).sd.ageLimit = s.sd.ageLimit := by
  unfold State.chargeConflict; (repeat' split) <;> (try dsimp only) <;> (repeat' split) <;> simp

@[simp] theorem State.chargeConflict_sd_minuteTimer (g : Seg) :
    (s.chargeConflict g).sd.minuteTimer = s.sd.minuteTimer := by
  unfold State.chargeConflict; (repeat' split) <;> (try dsimp only) <;> (repeat' split) <;> simp

@[simp] theorem State.entry_enterStandby_location (n : PortNo) (a' : Address) :
    ((s.enterStandby n).entry a').location = (s.entry a').location := by
  unfold State.enterStandby; (repeat' split) <;> (try dsimp only) <;> (repeat' split) <;> simp

@[simp] theorem State.entry_enterStandby_origin (n : PortNo) (a' : Address) :
    ((s.enterStandby n).entry a').origin = (s.entry a').origin := by
  unfold State.enterStandby; (repeat' split) <;> (try dsimp only) <;> (repeat' split) <;> simp

@[simp] theorem State.entry_enterStandby_standIn (n : PortNo) (a' : Address) :
    ((s.enterStandby n).entry a').standIn = (s.entry a').standIn := by
  unfold State.enterStandby; (repeat' split) <;> (try dsimp only) <;> (repeat' split) <;> simp

@[simp] theorem State.entry_enterStandby_age (n : PortNo) (a' : Address) :
    ((s.enterStandby n).entry a').age = (s.entry a').age := by
  unfold State.enterStandby; (repeat' split) <;> (try dsimp only) <;> (repeat' split) <;> simp

@[simp] theorem State.entry_enterStandby_quota (n : PortNo) (a' : Address) :
    ((s.enterStandby n).entry a').quota = (s.entry a').quota := by
  unfold State.enterStandby; (repeat' split) <;> (try dsimp only) <;> (repeat' split) <;> simp

@[simp] theorem State.enterStandby_sd_primaryQuota (n : PortNo) :
    (s.enterStandby n).sd.primaryQuota = s.sd.primaryQuota := by
  unfold State.enterStandby; (repeat' split) <;> (try dsimp only) <;> (repeat' split) <;> simp

@[simp] theorem State.enterStandby_sd_ageLimit (n : PortNo) :
    (s.enterStandby n).sd.ageLimit = s.sd.ageLimit := by
  unfold State.enterStandby; (repeat' split) <;> (try dsimp only) <;> (repeat' split) <;> simp

@[simp] theorem State.enterStandby_sd_minuteTimer (n : PortNo) :
    (s.enterStandby n).sd.minuteTimer = s.sd.minuteTimer := by
  unfold State.enterStandby; (repeat' split) <;> (try dsimp only) <;> (repeat' split) <;> simp

@[simp] theorem State.entry_finishStopping_location (n : PortNo) (a' : Address) :
    ((s.finishStopping n).entry a').location = (s.entry a').location := by
  unfold State.finishStopping; (repeat' split) <;> (try dsimp only) <;> (repeat' split) <;> simp

@[simp] theorem State.entry_finishStopping_origin (n : PortNo) (a' : Address) :
    ((s.finishStopping n).entry a').origin = (s.entry a').origin := by
  unfold State.finishStopping; (repeat' split) <;> (try dsimp only) <;> (repeat' split) <;> simp

@[simp] theorem State.entry_finishStopping_standIn (n : PortNo) (a' : Address) :
    ((s.finishStopping n).entry a').standIn = (s.entry a').standIn := by
  unfold State.finishStopping; (repeat' split) <;> (try dsimp only) <;> (repeat' split) <;> simp

@[simp] theorem State.entry_finishStopping_age (n : PortNo) (a' : Address) :
    ((s.finishStopping n).entry a').age = (s.entry a').age := by
  unfold State.finishStopping; (repeat' split) <;> (try dsimp only) <;> (repeat' split) <;> simp

@[simp] theorem State.entry_finishStopping_quota (n : PortNo) (a' : Address) :
    ((s.finishStopping n).entry a').quota = (s.entry a').quota := by
  unfold State.finishStopping; (repeat' split) <;> (try dsimp only) <;> (repeat' split) <;> simp

@[simp] theorem State.finishStopping_sd_primaryQuota (n : PortNo) :
    (s.finishStopping n).sd.primaryQuota = s.sd.primaryQuota := by
  unfold State.finishStopping; (repeat' split) <;> (try dsimp only) <;> (repeat' split) <;> simp

@[simp] theorem State.finishStopping_sd_ageLimit (n : PortNo) :
    (s.finishStopping n).sd.ageLimit = s.sd.ageLimit := by
  unfold State.finishStopping; (repeat' split) <;> (try dsimp only) <;> (repeat' split) <;> simp

@[simp] theorem State.finishStopping_sd_minuteTimer (n : PortNo) :
    (s.finishStopping n).sd.minuteTimer = s.sd.minuteTimer := by
  unfold State.finishStopping; (repeat' split) <;> (try dsimp only) <;> (repeat' split) <;> simp

@[simp] theorem State.entry_conflict_location (g : Seg) (a : Address) (a' : Address) :
    ((s.conflict g a).entry a').location = (s.entry a').location := by
  unfold State.conflict; (repeat' split) <;> (try dsimp only) <;> (repeat' split) <;> simp

@[simp] theorem State.entry_conflict_origin (g : Seg) (a : Address) (a' : Address) :
    ((s.conflict g a).entry a').origin = (s.entry a').origin := by
  unfold State.conflict; (repeat' split) <;> (try dsimp only) <;> (repeat' split) <;> simp

@[simp] theorem State.entry_conflict_standIn (g : Seg) (a : Address) (a' : Address) :
    ((s.conflict g a).entry a').standIn = (s.entry a').standIn := by
  unfold State.conflict; (repeat' split) <;> (try dsimp only) <;> (repeat' split) <;> simp

@[simp] theorem State.entry_conflict_age (g : Seg) (a : Address) (a' : Address) :
    ((s.conflict g a).entry a').age = (s.entry a').age := by
  unfold State.conflict; (repeat' split) <;> (try dsimp only) <;> (repeat' split) <;> simp

@[simp] theorem State.entry_conflict_quota (g : Seg) (a : Address) (a' : Address) :
    ((s.conflict g a).entry a').quota = (s.entry a').quota := by
  unfold State.conflict; (repeat' split) <;> (try dsimp only) <;> (repeat' split) <;> simp

@[simp] theorem State.conflict_sd_primaryQuota (g : Seg) (a : Address) :
    (s.conflict g a).sd.primaryQuota = s.sd.primaryQuota := by
  unfold State.conflict; (repeat' split) <;> (try dsimp only) <;> (repeat' split) <;> simp

@[simp] theorem State.conflict_sd_ageLimit (g : Seg) (a : Address) :
    (s.conflict g a).sd.ageLimit = s.sd.ageLimit := by
  unfold State.conflict; (repeat' split) <;> (try dsimp only) <;> (repeat' split) <;> simp

@[simp] theorem State.conflict_sd_minuteTimer (g : Seg) (a : Address) :
    (s.conflict g a).sd.minuteTimer = s.sd.minuteTimer := by
  unfold State.conflict; (repeat' split) <;> (try dsimp only) <;> (repeat' split) <;> simp

end Sys2Proof.Machine
end

