-- ==== Sys2Proof/Laws/Health.lean ====
section
/-! SUPPORT. What an evaluation, a weight, a credit and a clearing do to the health objects, each said once. -/

namespace Sys2Proof.Machine

variable (s : State)

/-! ### The effective flag reads the stored flag and the entry -/

theorem State.effectiveMayIsolate_congr {s t : State} {o : ObjectId}
    (hf : (t.object o).mayIsolate = (s.object o).mayIsolate)
    (he : ∀ a, o = .station a → (t.entry a).location = (s.entry a).location) :
    t.effectiveMayIsolate o = s.effectiveMayIsolate o := by
  match o with
  | .segment .a => rfl
  | .segment .b => exact hf
  | .port n => exact hf
  | .station a => simp [State.effectiveMayIsolate, he a rfl, hf]

/-! ### Evaluation (R134 to R136) -/

/-- The limit mark follows R136, and nothing else of any object changes. -/
theorem State.object_evaluateMark (o p : ObjectId) :
    (s.evaluateMark o).object p =
      if p = o then { s.object o with
        limitMark := decide (s.hm.isolate ≤ (s.object o).score) && !s.effectiveMayIsolate o }
      else s.object p := by
  unfold State.evaluateMark
  by_cases hp : p = o
  · subst hp
    by_cases h : s.hm.isolate ≤ (s.object p).score ∧ s.effectiveMayIsolate p = false
    · simp only [if_pos h]
      cases hm : (s.object p).limitMark
      · simp [h]
      · simp only [h, if_true]
        rcases hq : s.object p with ⟨a, b, c, d⟩
        rw [hq] at hm
        simp_all
    · simp only [if_neg h]
      simp only [not_and, Bool.not_eq_false] at h
      by_cases hi : s.hm.isolate ≤ (s.object p).score <;> simp_all
  · simp only [if_neg hp]
    (repeat' split) <;> simp [hp]

/-- An evaluation of an object leaves it judged, and no other object is touched. -/
theorem State.object_evaluate (o p : ObjectId) :
    (s.evaluate o).object p = if p = o then s.judged o (s.object o).score else s.object p := by
  have hm : ∀ h d l, ((s.setObject o { s.object o with state := h }).reportObject o d l).effectiveMayIsolate o =
      s.effectiveMayIsolate o := fun h d l => State.effectiveMayIsolate_congr (by simp) (by simp)
  unfold State.evaluate State.judged State.judge
  dsimp only
  by_cases hs : (s.object o).state = .isolated
  · simp only [if_pos hs]
    by_cases hl : (s.object o).score ≤ s.hm.readmit
    · simp only [if_pos hl]
      by_cases hp : p = o
      · subst hp; simp [hs]
      · simp [hp]
    · simp only [if_neg hl]
      by_cases hp : p = o
      · subst hp; simp [hs]
      · simp [hp]
  · simp only [if_neg hs]
    by_cases hi : s.hm.isolate ≤ (s.object o).score ∧ s.effectiveMayIsolate o = true
    · simp only [if_pos hi]
      by_cases hp : p = o
      · subst hp; simp [hi]
      · simp [hp]
    · have hne : ((s.object o).state != .isolated) = true := by simpa using hs
      simp only [if_neg hi]
      by_cases hb : (s.object o).state = s.bandOf (s.object o).score
      · rw [if_pos hb, State.object_evaluateMark]
        by_cases hp : p = o
        · subst hp; simpa [hne, State.bandOf] using hb
        · simp [hp]
      · rw [if_neg hb, State.object_evaluateMark, hm]
        by_cases hp : p = o
        · subst hp; simp [hne, State.bandOf]
        · simp [hp]

/-! ### Weights and credits (R129, R131, R155) -/

theorem State.judged_congr {s t : State} {o : ObjectId} (n : Nat) (hs : (t.object o).state = (s.object o).state)
    (hf : (t.object o).mayIsolate = (s.object o).mayIsolate) (hr : t.hm.readmit = s.hm.readmit)
    (hi : t.hm.isolate = s.hm.isolate) (hb : t.hm.suspect = s.hm.suspect)
    (he : ∀ a, o = .station a → (t.entry a).location = (s.entry a).location) : t.judged o n = s.judged o n := by
  simp only [State.judged, State.judge, hs, hf, hr, hi, hb, State.effectiveMayIsolate_congr hf he]

/-- The score that is written first does not enter the judgement but as the score judged. -/
theorem State.object_evaluate_score (o p : ObjectId) (n : Nat) :
    ((s.setObject o { s.object o with score := n }).evaluate o).object p =
      if p = o then s.judged o n else s.object p := by
  rw [State.object_evaluate]
  by_cases hp : p = o
  · subst hp
    rw [if_pos rfl, if_pos rfl]
    have h : ((s.setObject p { s.object p with score := n }).object p).score = n := by simp
    rw [h]
    exact State.judged_congr n (by simp) (by simp) (by simp) (by simp) (by simp) (by simp)
  · simp [hp]

/-- A weight: the object is charged, and no other one is touched. -/
theorem State.object_addScore (o p : ObjectId) (w : Byte) :
    (s.addScore o w.toNat).object p = if p = o then s.charged o w else s.object p :=
  s.object_evaluate_score o p _

theorem State.object_chargeSegment (g : Seg) (w : Byte) (p : ObjectId) :
    (s.chargeSegment g w).object p = if p = .segment g then s.charged (.segment g) w else s.object p :=
  s.object_addScore _ _ _

theorem State.object_chargePort (n : PortNo) (w : Byte) (p : ObjectId) :
    (s.chargePort n w).object p = if p = .port n then s.charged (.port n) w else s.object p :=
  s.object_addScore _ _ _

theorem State.object_chargeStation (a : Address) (w : Byte) (p : ObjectId) :
    (s.chargeStation a w).object p = if p = .station a then s.chargedStation a w else s.object p := by
  unfold State.chargeStation State.chargedStation
  cases h : (s.entry a).location <;>
    simp only [Location.isSegment, Bool.false_eq_true, if_false, if_true, State.object_addScore] <;>
    split <;> simp_all

theorem State.object_probeFailure (o p : ObjectId) :
    (s.probeFailure o).object p = if p = o then s.penalized o else s.object p := by
  unfold State.probeFailure State.penalized
  split
  · exact s.object_addScore _ _ _
  · split <;> simp_all

theorem State.object_probeCredit (o p : ObjectId) :
    (s.probeCredit o).object p = if p = o then s.credited o else s.object p := by
  unfold State.probeCredit State.credited
  split
  · exact s.object_evaluate_score o p _
  · split <;> simp_all

/-- Both objects of a miss, charged each by its own weight (R27). -/
theorem State.object_pollMiss (g : Seg) (a : Address) (p : ObjectId) :
    (s.pollMiss g a).object p =
      if p = .segment g then s.charged (.segment g) s.hm.weights.segmentPollMiss
      else if p = .station a then s.chargedStation a s.hm.weights.stationPollMiss
      else s.object p := by
  unfold State.pollMiss
  rw [State.object_chargeSegment]
  split
  · unfold State.charged
    rw [State.object_chargeStation, if_neg (by simp)]
    exact State.judged_congr _ (by rw [State.object_chargeStation, if_neg (by simp)])
      (by rw [State.object_chargeStation, if_neg (by simp)]) (by simp) (by simp) (by simp) (by simp)
  · rw [State.object_chargeStation]

/-! ### Clearings (R142, R144) -/

/-- A cleared object is at score 0 and ACTIVE with the flag given, and no other one is touched. -/
theorem State.object_clearObject (o p : ObjectId) (f : Bool) :
    (s.clearObject o f).object p = if p = o then .clean f else s.object p := by
  unfold State.clearObject
  dsimp only
  (repeat' split) <;> simp_all

theorem State.object_clearKeeping (o p : ObjectId) :
    (s.clearKeeping o).object p = if p = o then .clean (s.object o).mayIsolate else s.object p :=
  s.object_clearObject o p _

end Sys2Proof.Machine
end

