-- ==== Sys2Proof/Laws/Link.lean ====
section
/-! SUPPORT. What the execution of a command leaves in the link, said once for a refusal, a record read and an
acceptance (R170, R171, R173). -/

namespace Sys2Proof.Machine

variable {s s1 : State} {i : Instr} {cont : Bool} {c : Command}

theorem State.execute_eq {a : Answer} (h : c s = (a, s1)) :
    s.execute cont c = { s1 with al := (s1.al.respond a).goOn a.1 cont } := by
  simp [State.execute, h, State.mapAl]

/-- A command that its block refuses changes nothing but the link. -/
theorem refuses_of {st : Status} (he : exec i s = .next (s.execute cont c)) (hc : c s = refuse st s) (hst : st ≠ .ok) :
    Refuses i s st := by
  refine ⟨_, he, ?_⟩
  rw [State.execute_eq hc]
  simp [RefusedWith, SameBlocks, LinkKept, AdminLink.respond, AdminLink.goOn, hst]

/-- After an acceptance the link stands as the spec says. -/
theorem accepted_goOn {bytes : List Byte} {al : AdminLink} (hal : al = s.al) :
    Accepted s { s1 with al := (al.respond (.ok, bytes)).goOn .ok cont } cont bytes := by
  subst hal
  unfold Accepted LinkKept AdminLink.goOn AdminLink.respond
  by_cases h : cont = true ∧ s.al.pendingRestart = none
  · simp [h]
  · by_cases h1 : cont = true
    · simp_all
    · simp_all

/-- A command that its block accepts leaves the block's next state beside the link. -/
theorem accepts_of {p : State → Prop} (he : exec i s = .next (s.execute cont c)) (hc : c s = accept s1)
    (hal : s1.al = s.al) (hp : ∀ al, p { s1 with al }) : Accepts i s cont p := by
  refine ⟨_, he, ?_⟩
  rw [State.execute_eq hc]
  exact ⟨accepted_goOn hal, hp _⟩

/-- A record that is read changes nothing but the link. -/
theorem reads_of {bytes : List Byte} (he : exec i s = .next (s.execute cont c)) (hc : c s = answer bytes s) :
    ∃ t, exec i s = .next t ∧ Accepted s t cont bytes ∧ SameBlocks s t := by
  refine ⟨_, he, ?_⟩
  rw [State.execute_eq hc]
  exact ⟨accepted_goOn rfl, rfl⟩

end Sys2Proof.Machine
end

