-- ==== Sys2Proof/Laws/CommandFrames.lean ====
section
/-! SUPPORT. What the larger operations leave, down to the commands and events themselves: one lemma per operation and per
block that it never changes. -/

set_option linter.unnecessarySeqFocus false
set_option linter.unusedTactic false
set_option linter.unreachableTactic false

namespace Sys2Proof.Machine

variable (s : State)

/-- A fold of steps that each leave a reading of the state leaves that reading. -/
theorem foldl_kept {α β : Type} {f : State → α → State} (v : State → β) (h : ∀ t a, v (f t a) = v t) (l : List α)
    (s : State) : v (l.foldl f s) = v s := by
  induction l generalizing s with
  | nil => rfl
  | cons a l ih => rw [List.foldl_cons, ih, h]

/-! ### The directory -/

@[simp] theorem State.clearEntry_pr (a : Address) :
    (s.clearEntry a).pr = s.pr := by
  unfold State.clearEntry; (try dsimp only); (repeat' split) <;> (try dsimp only) <;> (repeat' split) <;> simp

@[simp] theorem State.clearEntry_sm (a : Address) :
    (s.clearEntry a).sm = s.sm := by
  unfold State.clearEntry; (try dsimp only); (repeat' split) <;> (try dsimp only) <;> (repeat' split) <;> simp

@[simp] theorem State.clearEntry_pe (a : Address) :
    (s.clearEntry a).pe = s.pe := by
  unfold State.clearEntry; (try dsimp only); (repeat' split) <;> (try dsimp only) <;> (repeat' split) <;> simp

@[simp] theorem State.clearEntry_al (a : Address) :
    (s.clearEntry a).al = s.al := by
  unfold State.clearEntry; (try dsimp only); (repeat' split) <;> (try dsimp only) <;> (repeat' split) <;> simp

@[simp] theorem State.clearEntry_draws (a : Address) :
    (s.clearEntry a).draws = s.draws := by
  unfold State.clearEntry; (try dsimp only); (repeat' split) <;> (try dsimp only) <;> (repeat' split) <;> simp

@[simp] theorem State.clearEntry_pending (a : Address) :
    (s.clearEntry a).pending = s.pending := by
  unfold State.clearEntry; (try dsimp only); (repeat' split) <;> (try dsimp only) <;> (repeat' split) <;> simp

@[simp] theorem State.vacatePrinter_pr (a : Address) :
    (s.vacatePrinter a).pr = s.pr := by
  unfold State.vacatePrinter; (try dsimp only); (repeat' split) <;> (try dsimp only) <;> (repeat' split) <;> simp

@[simp] theorem State.vacatePrinter_sm (a : Address) :
    (s.vacatePrinter a).sm = s.sm := by
  unfold State.vacatePrinter; (try dsimp only); (repeat' split) <;> (try dsimp only) <;> (repeat' split) <;> simp

@[simp] theorem State.vacatePrinter_pe (a : Address) :
    (s.vacatePrinter a).pe = s.pe := by
  unfold State.vacatePrinter; (try dsimp only); (repeat' split) <;> (try dsimp only) <;> (repeat' split) <;> simp

@[simp] theorem State.vacatePrinter_al (a : Address) :
    (s.vacatePrinter a).al = s.al := by
  unfold State.vacatePrinter; (try dsimp only); (repeat' split) <;> (try dsimp only) <;> (repeat' split) <;> simp

@[simp] theorem State.vacatePrinter_draws (a : Address) :
    (s.vacatePrinter a).draws = s.draws := by
  unfold State.vacatePrinter; (try dsimp only); (repeat' split) <;> (try dsimp only) <;> (repeat' split) <;> simp

@[simp] theorem State.vacatePrinter_pending (a : Address) :
    (s.vacatePrinter a).pending = s.pending := by
  unfold State.vacatePrinter; (try dsimp only); (repeat' split) <;> (try dsimp only) <;> (repeat' split) <;> simp

@[simp] theorem State.makePrinter_pr (a : Address) :
    (s.makePrinter a).pr = s.pr := by
  unfold State.makePrinter; (try dsimp only); (repeat' split) <;> (try dsimp only) <;> (repeat' split) <;> simp

@[simp] theorem State.makePrinter_sm (a : Address) :
    (s.makePrinter a).sm = s.sm := by
  unfold State.makePrinter; (try dsimp only); (repeat' split) <;> (try dsimp only) <;> (repeat' split) <;> simp

@[simp] theorem State.makePrinter_pe (a : Address) :
    (s.makePrinter a).pe = s.pe := by
  unfold State.makePrinter; (try dsimp only); (repeat' split) <;> (try dsimp only) <;> (repeat' split) <;> simp

@[simp] theorem State.makePrinter_al (a : Address) :
    (s.makePrinter a).al = s.al := by
  unfold State.makePrinter; (try dsimp only); (repeat' split) <;> (try dsimp only) <;> (repeat' split) <;> simp

@[simp] theorem State.makePrinter_draws (a : Address) :
    (s.makePrinter a).draws = s.draws := by
  unfold State.makePrinter; (try dsimp only); (repeat' split) <;> (try dsimp only) <;> (repeat' split) <;> simp

@[simp] theorem State.makePrinter_pending (a : Address) :
    (s.makePrinter a).pending = s.pending := by
  unfold State.makePrinter; (try dsimp only); (repeat' split) <;> (try dsimp only) <;> (repeat' split) <;> simp

@[simp] theorem State.setQuota_ti (src : Source) (k : Nat) :
    (s.setQuota src k).ti = s.ti := by
  unfold State.setQuota; (try dsimp only); (repeat' split) <;> (try dsimp only) <;> (repeat' split) <;> simp

@[simp] theorem State.setQuota_pr (src : Source) (k : Nat) :
    (s.setQuota src k).pr = s.pr := by
  unfold State.setQuota; (try dsimp only); (repeat' split) <;> (try dsimp only) <;> (repeat' split) <;> simp

@[simp] theorem State.setQuota_ports (src : Source) (k : Nat) :
    (s.setQuota src k).ports = s.ports := by
  unfold State.setQuota; (try dsimp only); (repeat' split) <;> (try dsimp only) <;> (repeat' split) <;> simp

@[simp] theorem State.setQuota_sm (src : Source) (k : Nat) :
    (s.setQuota src k).sm = s.sm := by
  unfold State.setQuota; (try dsimp only); (repeat' split) <;> (try dsimp only) <;> (repeat' split) <;> simp

@[simp] theorem State.setQuota_pe (src : Source) (k : Nat) :
    (s.setQuota src k).pe = s.pe := by
  unfold State.setQuota; (try dsimp only); (repeat' split) <;> (try dsimp only) <;> (repeat' split) <;> simp

@[simp] theorem State.setQuota_hm (src : Source) (k : Nat) :
    (s.setQuota src k).hm = s.hm := by
  unfold State.setQuota; (try dsimp only); (repeat' split) <;> (try dsimp only) <;> (repeat' split) <;> simp

@[simp] theorem State.setQuota_au (src : Source) (k : Nat) :
    (s.setQuota src k).au = s.au := by
  unfold State.setQuota; (try dsimp only); (repeat' split) <;> (try dsimp only) <;> (repeat' split) <;> simp

@[simp] theorem State.setQuota_al (src : Source) (k : Nat) :
    (s.setQuota src k).al = s.al := by
  unfold State.setQuota; (try dsimp only); (repeat' split) <;> (try dsimp only) <;> (repeat' split) <;> simp

@[simp] theorem State.setQuota_draws (src : Source) (k : Nat) :
    (s.setQuota src k).draws = s.draws := by
  unfold State.setQuota; (try dsimp only); (repeat' split) <;> (try dsimp only) <;> (repeat' split) <;> simp

@[simp] theorem State.setQuota_pending (src : Source) (k : Nat) :
    (s.setQuota src k).pending = s.pending := by
  unfold State.setQuota; (try dsimp only); (repeat' split) <;> (try dsimp only) <;> (repeat' split) <;> simp

@[simp] theorem State.writeEntry_pr (a : Address) (l : Location) (x : StandIn) :
    (s.writeEntry a l x).pr = s.pr := by
  unfold State.writeEntry; (try dsimp only); (repeat' split) <;> (try dsimp only) <;> (repeat' split) <;> simp

@[simp] theorem State.writeEntry_sm (a : Address) (l : Location) (x : StandIn) :
    (s.writeEntry a l x).sm = s.sm := by
  unfold State.writeEntry; (try dsimp only); (repeat' split) <;> (try dsimp only) <;> (repeat' split) <;> simp

@[simp] theorem State.writeEntry_pe (a : Address) (l : Location) (x : StandIn) :
    (s.writeEntry a l x).pe = s.pe := by
  unfold State.writeEntry; (try dsimp only); (repeat' split) <;> (try dsimp only) <;> (repeat' split) <;> simp

@[simp] theorem State.writeEntry_al (a : Address) (l : Location) (x : StandIn) :
    (s.writeEntry a l x).al = s.al := by
  unfold State.writeEntry; (try dsimp only); (repeat' split) <;> (try dsimp only) <;> (repeat' split) <;> simp

@[simp] theorem State.writeEntry_draws (a : Address) (l : Location) (x : StandIn) :
    (s.writeEntry a l x).draws = s.draws := by
  unfold State.writeEntry; (try dsimp only); (repeat' split) <;> (try dsimp only) <;> (repeat' split) <;> simp

@[simp] theorem State.writeEntry_pending (a : Address) (l : Location) (x : StandIn) :
    (s.writeEntry a l x).pending = s.pending := by
  unfold State.writeEntry; (try dsimp only); (repeat' split) <;> (try dsimp only) <;> (repeat' split) <;> simp

@[simp] theorem State.ageAll_pr :
    (s.ageAll).pr = s.pr := foldl_kept State.pr (fun t a => t.ageEntry_pr a) _ s

@[simp] theorem State.ageAll_sm :
    (s.ageAll).sm = s.sm := foldl_kept State.sm (fun t a => t.ageEntry_sm a) _ s

@[simp] theorem State.ageAll_pe :
    (s.ageAll).pe = s.pe := foldl_kept State.pe (fun t a => t.ageEntry_pe a) _ s

@[simp] theorem State.ageAll_al :
    (s.ageAll).al = s.al := foldl_kept State.al (fun t a => t.ageEntry_al a) _ s

@[simp] theorem State.ageAll_draws :
    (s.ageAll).draws = s.draws := foldl_kept State.draws (fun t a => t.ageEntry_draws a) _ s

@[simp] theorem State.ageAll_pending :
    (s.ageAll).pending = s.pending := foldl_kept State.pending (fun t a => t.ageEntry_pending a) _ s

/-! ### Replies -/

@[simp] theorem State.await_sd (a : Address) (r : Request) (h : Handling) :
    (s.await a r h).sd = s.sd := (rfl)

@[simp] theorem State.await_ti (a : Address) (r : Request) (h : Handling) :
    (s.await a r h).ti = s.ti := (rfl)

@[simp] theorem State.await_ports (a : Address) (r : Request) (h : Handling) :
    (s.await a r h).ports = s.ports := (rfl)

@[simp] theorem State.await_sm (a : Address) (r : Request) (h : Handling) :
    (s.await a r h).sm = s.sm := (rfl)

@[simp] theorem State.await_pe (a : Address) (r : Request) (h : Handling) :
    (s.await a r h).pe = s.pe := (rfl)

@[simp] theorem State.await_hm (a : Address) (r : Request) (h : Handling) :
    (s.await a r h).hm = s.hm := (rfl)

@[simp] theorem State.await_au (a : Address) (r : Request) (h : Handling) :
    (s.await a r h).au = s.au := (rfl)

@[simp] theorem State.await_al (a : Address) (r : Request) (h : Handling) :
    (s.await a r h).al = s.al := (rfl)

@[simp] theorem State.await_draws (a : Address) (r : Request) (h : Handling) :
    (s.await a r h).draws = s.draws := (rfl)

@[simp] theorem State.await_pending (a : Address) (r : Request) (h : Handling) :
    (s.await a r h).pending = s.pending := (rfl)

@[simp] theorem State.takeRequest_sd (a : Address) (r : Request) :
    (s.takeRequest a r).sd = s.sd := by
  unfold State.takeRequest; (try dsimp only); (repeat' split) <;> (try dsimp only) <;> (repeat' split) <;> simp

@[simp] theorem State.takeRequest_ti (a : Address) (r : Request) :
    (s.takeRequest a r).ti = s.ti := by
  unfold State.takeRequest; (try dsimp only); (repeat' split) <;> (try dsimp only) <;> (repeat' split) <;> simp

@[simp] theorem State.takeRequest_sm (a : Address) (r : Request) :
    (s.takeRequest a r).sm = s.sm := by
  unfold State.takeRequest; (try dsimp only); (repeat' split) <;> (try dsimp only) <;> (repeat' split) <;> simp

@[simp] theorem State.takeRequest_pe (a : Address) (r : Request) :
    (s.takeRequest a r).pe = s.pe := by
  unfold State.takeRequest; (try dsimp only); (repeat' split) <;> (try dsimp only) <;> (repeat' split) <;> simp

@[simp] theorem State.takeRequest_hm (a : Address) (r : Request) :
    (s.takeRequest a r).hm = s.hm := by
  unfold State.takeRequest; (try dsimp only); (repeat' split) <;> (try dsimp only) <;> (repeat' split) <;> simp

@[simp] theorem State.takeRequest_au (a : Address) (r : Request) :
    (s.takeRequest a r).au = s.au := by
  unfold State.takeRequest; (try dsimp only); (repeat' split) <;> (try dsimp only) <;> (repeat' split) <;> simp

@[simp] theorem State.takeRequest_al (a : Address) (r : Request) :
    (s.takeRequest a r).al = s.al := by
  unfold State.takeRequest; (try dsimp only); (repeat' split) <;> (try dsimp only) <;> (repeat' split) <;> simp

@[simp] theorem State.takeRequest_draws (a : Address) (r : Request) :
    (s.takeRequest a r).draws = s.draws := by
  unfold State.takeRequest; (try dsimp only); (repeat' split) <;> (try dsimp only) <;> (repeat' split) <;> simp

@[simp] theorem State.takeRequest_pending (a : Address) (r : Request) :
    (s.takeRequest a r).pending = s.pending := by
  unfold State.takeRequest; (try dsimp only); (repeat' split) <;> (try dsimp only) <;> (repeat' split) <;> simp

@[simp] theorem State.beginReply_sd (a : Address) (l : List TrunkChar) :
    (s.beginReply a l).sd = s.sd := by
  unfold State.beginReply; (try dsimp only); (repeat' split) <;> (try dsimp only) <;> (repeat' split) <;> simp

@[simp] theorem State.beginReply_pr (a : Address) (l : List TrunkChar) :
    (s.beginReply a l).pr = s.pr := by
  unfold State.beginReply; (try dsimp only); (repeat' split) <;> (try dsimp only) <;> (repeat' split) <;> simp

@[simp] theorem State.beginReply_ports (a : Address) (l : List TrunkChar) :
    (s.beginReply a l).ports = s.ports := by
  unfold State.beginReply; (try dsimp only); (repeat' split) <;> (try dsimp only) <;> (repeat' split) <;> simp

@[simp] theorem State.beginReply_sm (a : Address) (l : List TrunkChar) :
    (s.beginReply a l).sm = s.sm := by
  unfold State.beginReply; (try dsimp only); (repeat' split) <;> (try dsimp only) <;> (repeat' split) <;> simp

@[simp] theorem State.beginReply_pe (a : Address) (l : List TrunkChar) :
    (s.beginReply a l).pe = s.pe := by
  unfold State.beginReply; (try dsimp only); (repeat' split) <;> (try dsimp only) <;> (repeat' split) <;> simp

@[simp] theorem State.beginReply_hm (a : Address) (l : List TrunkChar) :
    (s.beginReply a l).hm = s.hm := by
  unfold State.beginReply; (try dsimp only); (repeat' split) <;> (try dsimp only) <;> (repeat' split) <;> simp

@[simp] theorem State.beginReply_au (a : Address) (l : List TrunkChar) :
    (s.beginReply a l).au = s.au := by
  unfold State.beginReply; (try dsimp only); (repeat' split) <;> (try dsimp only) <;> (repeat' split) <;> simp

@[simp] theorem State.beginReply_al (a : Address) (l : List TrunkChar) :
    (s.beginReply a l).al = s.al := by
  unfold State.beginReply; (try dsimp only); (repeat' split) <;> (try dsimp only) <;> (repeat' split) <;> simp

@[simp] theorem State.beginReply_draws (a : Address) (l : List TrunkChar) :
    (s.beginReply a l).draws = s.draws := by
  unfold State.beginReply; (try dsimp only); (repeat' split) <;> (try dsimp only) <;> (repeat' split) <;> simp

@[simp] theorem State.beginReply_pending (a : Address) (l : List TrunkChar) :
    (s.beginReply a l).pending = s.pending := by
  unfold State.beginReply; (try dsimp only); (repeat' split) <;> (try dsimp only) <;> (repeat' split) <;> simp

/-! ### Probes -/

@[simp] theorem State.probeOutcome_pe (p : Probe) (b : Bool) :
    (s.probeOutcome p b).pe = s.pe := by
  unfold State.probeOutcome; (try dsimp only); (repeat' split) <;> (try dsimp only) <;> (repeat' split) <;> simp

@[simp] theorem State.probeOutcome_al (p : Probe) (b : Bool) :
    (s.probeOutcome p b).al = s.al := by
  unfold State.probeOutcome; (try dsimp only); (repeat' split) <;> (try dsimp only) <;> (repeat' split) <;> simp

@[simp] theorem State.probeOutcome_pending (p : Probe) (b : Bool) :
    (s.probeOutcome p b).pending = s.pending := by
  unfold State.probeOutcome; (try dsimp only); (repeat' split) <;> (try dsimp only) <;> (repeat' split) <;> simp

@[simp] theorem State.assessSegment_pe :
    (s.assessSegment).pe = s.pe := by
  unfold State.assessSegment; (try dsimp only); (repeat' split) <;> (try dsimp only) <;> (repeat' split) <;> simp

@[simp] theorem State.assessSegment_al :
    (s.assessSegment).al = s.al := by
  unfold State.assessSegment; (try dsimp only); (repeat' split) <;> (try dsimp only) <;> (repeat' split) <;> simp

@[simp] theorem State.assessSegment_pending :
    (s.assessSegment).pending = s.pending := by
  unfold State.assessSegment; (try dsimp only); (repeat' split) <;> (try dsimp only) <;> (repeat' split) <;> simp

@[simp] theorem State.chooseStation_sd :
    (s.chooseStation).sd = s.sd := by
  unfold State.chooseStation; (try dsimp only); (repeat' split) <;> (try dsimp only) <;> (repeat' split) <;> simp

@[simp] theorem State.chooseStation_ti :
    (s.chooseStation).ti = s.ti := by
  unfold State.chooseStation; (try dsimp only); (repeat' split) <;> (try dsimp only) <;> (repeat' split) <;> simp

@[simp] theorem State.chooseStation_pr :
    (s.chooseStation).pr = s.pr := by
  unfold State.chooseStation; (try dsimp only); (repeat' split) <;> (try dsimp only) <;> (repeat' split) <;> simp

@[simp] theorem State.chooseStation_ports :
    (s.chooseStation).ports = s.ports := by
  unfold State.chooseStation; (try dsimp only); (repeat' split) <;> (try dsimp only) <;> (repeat' split) <;> simp

@[simp] theorem State.chooseStation_sm :
    (s.chooseStation).sm = s.sm := by
  unfold State.chooseStation; (try dsimp only); (repeat' split) <;> (try dsimp only) <;> (repeat' split) <;> simp

@[simp] theorem State.chooseStation_pe :
    (s.chooseStation).pe = s.pe := by
  unfold State.chooseStation; (try dsimp only); (repeat' split) <;> (try dsimp only) <;> (repeat' split) <;> simp

@[simp] theorem State.chooseStation_au :
    (s.chooseStation).au = s.au := by
  unfold State.chooseStation; (try dsimp only); (repeat' split) <;> (try dsimp only) <;> (repeat' split) <;> simp

@[simp] theorem State.chooseStation_al :
    (s.chooseStation).al = s.al := by
  unfold State.chooseStation; (try dsimp only); (repeat' split) <;> (try dsimp only) <;> (repeat' split) <;> simp

@[simp] theorem State.chooseStation_draws :
    (s.chooseStation).draws = s.draws := by
  unfold State.chooseStation; (try dsimp only); (repeat' split) <;> (try dsimp only) <;> (repeat' split) <;> simp

@[simp] theorem State.chooseStation_pending :
    (s.chooseStation).pending = s.pending := by
  unfold State.chooseStation; (try dsimp only); (repeat' split) <;> (try dsimp only) <;> (repeat' split) <;> simp

@[simp] theorem State.assessPort_pe (n : PortNo) :
    (s.assessPort n).pe = s.pe := by
  unfold State.assessPort; (try dsimp only); (repeat' split) <;> (try dsimp only) <;> (repeat' split) <;> simp

@[simp] theorem State.assessPort_al (n : PortNo) :
    (s.assessPort n).al = s.al := by
  unfold State.assessPort; (try dsimp only); (repeat' split) <;> (try dsimp only) <;> (repeat' split) <;> simp

@[simp] theorem State.assessPort_pending (n : PortNo) :
    (s.assessPort n).pending = s.pending := by
  unfold State.assessPort; (try dsimp only); (repeat' split) <;> (try dsimp only) <;> (repeat' split) <;> simp

@[simp] theorem State.probeExpiry_pe :
    (s.probeExpiry).pe = s.pe := by
  unfold State.probeExpiry; dsimp only
  rw [foldl_kept State.pe (fun t n => t.assessPort_pe n)]; split <;> simp

@[simp] theorem State.probeExpiry_al :
    (s.probeExpiry).al = s.al := by
  unfold State.probeExpiry; dsimp only
  rw [foldl_kept State.al (fun t n => t.assessPort_al n)]; split <;> simp

@[simp] theorem State.probeExpiry_pending :
    (s.probeExpiry).pending = s.pending := by
  unfold State.probeExpiry; dsimp only
  rw [foldl_kept State.pending (fun t n => t.assessPort_pending n)]; split <;> simp

@[simp] theorem State.startProbe_sd (p : Probe) :
    (s.startProbe p).sd = s.sd := by
  unfold State.startProbe; (try dsimp only); (repeat' split) <;> (try dsimp only) <;> (repeat' split) <;> simp

@[simp] theorem State.startProbe_pr (p : Probe) :
    (s.startProbe p).pr = s.pr := by
  unfold State.startProbe; (try dsimp only); (repeat' split) <;> (try dsimp only) <;> (repeat' split) <;> simp

@[simp] theorem State.startProbe_ports (p : Probe) :
    (s.startProbe p).ports = s.ports := by
  unfold State.startProbe; (try dsimp only); (repeat' split) <;> (try dsimp only) <;> (repeat' split) <;> simp

@[simp] theorem State.startProbe_sm (p : Probe) :
    (s.startProbe p).sm = s.sm := by
  unfold State.startProbe; (try dsimp only); (repeat' split) <;> (try dsimp only) <;> (repeat' split) <;> simp

@[simp] theorem State.startProbe_pe (p : Probe) :
    (s.startProbe p).pe = s.pe := by
  unfold State.startProbe; (try dsimp only); (repeat' split) <;> (try dsimp only) <;> (repeat' split) <;> simp

@[simp] theorem State.startProbe_au (p : Probe) :
    (s.startProbe p).au = s.au := by
  unfold State.startProbe; (try dsimp only); (repeat' split) <;> (try dsimp only) <;> (repeat' split) <;> simp

@[simp] theorem State.startProbe_al (p : Probe) :
    (s.startProbe p).al = s.al := by
  unfold State.startProbe; (try dsimp only); (repeat' split) <;> (try dsimp only) <;> (repeat' split) <;> simp

@[simp] theorem State.startProbe_draws (p : Probe) :
    (s.startProbe p).draws = s.draws := by
  unfold State.startProbe; (try dsimp only); (repeat' split) <;> (try dsimp only) <;> (repeat' split) <;> simp

@[simp] theorem State.startProbe_pending (p : Probe) :
    (s.startProbe p).pending = s.pending := by
  unfold State.startProbe; (try dsimp only); (repeat' split) <;> (try dsimp only) <;> (repeat' split) <;> simp

@[simp] theorem State.portEvidence_pe (n : PortNo) :
    (s.portEvidence n).pe = s.pe := by
  unfold State.portEvidence; (try dsimp only); (repeat' split) <;> (try dsimp only) <;> (repeat' split) <;> simp

@[simp] theorem State.portEvidence_al (n : PortNo) :
    (s.portEvidence n).al = s.al := by
  unfold State.portEvidence; (try dsimp only); (repeat' split) <;> (try dsimp only) <;> (repeat' split) <;> simp

@[simp] theorem State.portEvidence_pending (n : PortNo) :
    (s.portEvidence n).pending = s.pending := by
  unfold State.portEvidence; (try dsimp only); (repeat' split) <;> (try dsimp only) <;> (repeat' split) <;> simp

/-! ### Segment receivers and transmitters -/

@[simp] theorem State.armWatch_pe (g : Seg) (a : Address) :
    (s.armWatch g a).pe = s.pe := by
  unfold State.armWatch; (try dsimp only); (repeat' split) <;> (try dsimp only) <;> (repeat' split) <;> simp

@[simp] theorem State.armWatch_al (g : Seg) (a : Address) :
    (s.armWatch g a).al = s.al := by
  unfold State.armWatch; (try dsimp only); (repeat' split) <;> (try dsimp only) <;> (repeat' split) <;> simp

@[simp] theorem State.armWatch_pending (g : Seg) (a : Address) :
    (s.armWatch g a).pending = s.pending := by
  unfold State.armWatch; (try dsimp only); (repeat' split) <;> (try dsimp only) <;> (repeat' split) <;> simp

@[simp] theorem State.resolveWatch_pe (g : Seg) (a : Address) :
    (s.resolveWatch g a).pe = s.pe := by
  unfold State.resolveWatch; (try dsimp only); (repeat' split) <;> (try dsimp only) <;> (repeat' split) <;> simp

@[simp] theorem State.resolveWatch_al (g : Seg) (a : Address) :
    (s.resolveWatch g a).al = s.al := by
  unfold State.resolveWatch; (try dsimp only); (repeat' split) <;> (try dsimp only) <;> (repeat' split) <;> simp

@[simp] theorem State.resolveWatch_pending (g : Seg) (a : Address) :
    (s.resolveWatch g a).pending = s.pending := by
  unfold State.resolveWatch; (try dsimp only); (repeat' split) <;> (try dsimp only) <;> (repeat' split) <;> simp

@[simp] theorem State.forwardNow_pe (g : Seg) (k : BurstKind) (a : Address) (q : Nat) :
    (s.forwardNow g k a q).pe = s.pe := by
  unfold State.forwardNow; (try dsimp only); (repeat' split) <;> (try dsimp only) <;> (repeat' split) <;> simp

@[simp] theorem State.forwardNow_al (g : Seg) (k : BurstKind) (a : Address) (q : Nat) :
    (s.forwardNow g k a q).al = s.al := by
  unfold State.forwardNow; (try dsimp only); (repeat' split) <;> (try dsimp only) <;> (repeat' split) <;> simp

@[simp] theorem State.forwardNow_pending (g : Seg) (k : BurstKind) (a : Address) (q : Nat) :
    (s.forwardNow g k a q).pending = s.pending := by
  unfold State.forwardNow; (try dsimp only); (repeat' split) <;> (try dsimp only) <;> (repeat' split) <;> simp

@[simp] theorem State.holdForward_pe (k : BurstKind) (a : Address) :
    (s.holdForward k a).pe = s.pe := by
  unfold State.holdForward; (try dsimp only); (repeat' split) <;> (try dsimp only) <;> (repeat' split) <;> simp

@[simp] theorem State.holdForward_al (k : BurstKind) (a : Address) :
    (s.holdForward k a).al = s.al := by
  unfold State.holdForward; (try dsimp only); (repeat' split) <;> (try dsimp only) <;> (repeat' split) <;> simp

@[simp] theorem State.holdForward_pending (k : BurstKind) (a : Address) :
    (s.holdForward k a).pending = s.pending := by
  unfold State.holdForward; (try dsimp only); (repeat' split) <;> (try dsimp only) <;> (repeat' split) <;> simp

@[simp] theorem State.forwardToB_pe (k : BurstKind) (a : Address) (q : Nat) :
    (s.forwardToB k a q).pe = s.pe := by
  unfold State.forwardToB; (try dsimp only); (repeat' split) <;> (try dsimp only) <;> (repeat' split) <;> simp

@[simp] theorem State.forwardToB_al (k : BurstKind) (a : Address) (q : Nat) :
    (s.forwardToB k a q).al = s.al := by
  unfold State.forwardToB; (try dsimp only); (repeat' split) <;> (try dsimp only) <;> (repeat' split) <;> simp

@[simp] theorem State.forwardToB_pending (k : BurstKind) (a : Address) (q : Nat) :
    (s.forwardToB k a q).pending = s.pending := by
  unfold State.forwardToB; (try dsimp only); (repeat' split) <;> (try dsimp only) <;> (repeat' split) <;> simp

@[simp] theorem State.forwardToA_pe (k : BurstKind) (a : Address) (b : Bool) (q : Nat) :
    (s.forwardToA k a b q).pe = s.pe := by
  unfold State.forwardToA; (try dsimp only); (repeat' split) <;> (try dsimp only) <;> (repeat' split) <;> simp

@[simp] theorem State.forwardToA_al (k : BurstKind) (a : Address) (b : Bool) (q : Nat) :
    (s.forwardToA k a b q).al = s.al := by
  unfold State.forwardToA; (try dsimp only); (repeat' split) <;> (try dsimp only) <;> (repeat' split) <;> simp

@[simp] theorem State.forwardToA_pending (k : BurstKind) (a : Address) (b : Bool) (q : Nat) :
    (s.forwardToA k a b q).pending = s.pending := by
  unfold State.forwardToA; (try dsimp only); (repeat' split) <;> (try dsimp only) <;> (repeat' split) <;> simp

@[simp] theorem State.probeSees_pe (a : Address) :
    (s.probeSees a).pe = s.pe := by
  unfold State.probeSees; (try dsimp only); (repeat' split) <;> (try dsimp only) <;> (repeat' split) <;> simp

@[simp] theorem State.probeSees_al (a : Address) :
    (s.probeSees a).al = s.al := by
  unfold State.probeSees; (try dsimp only); (repeat' split) <;> (try dsimp only) <;> (repeat' split) <;> simp

@[simp] theorem State.probeSees_pending (a : Address) :
    (s.probeSees a).pending = s.pending := by
  unfold State.probeSees; (try dsimp only); (repeat' split) <;> (try dsimp only) <;> (repeat' split) <;> simp

@[simp] theorem State.addressTaken_pe (g : Seg) (k : BurstKind) (a : Address) (q : Nat) :
    (s.addressTaken g k a q).pe = s.pe := by
  unfold State.addressTaken; (try dsimp only); (repeat' split) <;> (try dsimp only) <;> (repeat' split) <;> simp

@[simp] theorem State.addressTaken_al (g : Seg) (k : BurstKind) (a : Address) (q : Nat) :
    (s.addressTaken g k a q).al = s.al := by
  unfold State.addressTaken; (try dsimp only); (repeat' split) <;> (try dsimp only) <;> (repeat' split) <;> simp

@[simp] theorem State.addressTaken_pending (g : Seg) (k : BurstKind) (a : Address) (q : Nat) :
    (s.addressTaken g k a q).pending = s.pending := by
  unfold State.addressTaken; (try dsimp only); (repeat' split) <;> (try dsimp only) <;> (repeat' split) <;> simp

@[simp] theorem State.characterOnTrunk_sd (g : Seg) (c : TrunkChar) :
    (s.characterOnTrunk g c).sd = s.sd := by
  unfold State.characterOnTrunk; (try dsimp only); (repeat' split) <;> (try dsimp only) <;> (repeat' split) <;> simp

@[simp] theorem State.characterOnTrunk_pr (g : Seg) (c : TrunkChar) :
    (s.characterOnTrunk g c).pr = s.pr := by
  unfold State.characterOnTrunk; (try dsimp only); (repeat' split) <;> (try dsimp only) <;> (repeat' split) <;> simp

@[simp] theorem State.characterOnTrunk_ports (g : Seg) (c : TrunkChar) :
    (s.characterOnTrunk g c).ports = s.ports := by
  unfold State.characterOnTrunk; (try dsimp only); (repeat' split) <;> (try dsimp only) <;> (repeat' split) <;> simp

@[simp] theorem State.characterOnTrunk_sm (g : Seg) (c : TrunkChar) :
    (s.characterOnTrunk g c).sm = s.sm := by
  unfold State.characterOnTrunk; (try dsimp only); (repeat' split) <;> (try dsimp only) <;> (repeat' split) <;> simp

@[simp] theorem State.characterOnTrunk_pe (g : Seg) (c : TrunkChar) :
    (s.characterOnTrunk g c).pe = s.pe := by
  unfold State.characterOnTrunk; (try dsimp only); (repeat' split) <;> (try dsimp only) <;> (repeat' split) <;> simp

@[simp] theorem State.characterOnTrunk_hm (g : Seg) (c : TrunkChar) :
    (s.characterOnTrunk g c).hm = s.hm := by
  unfold State.characterOnTrunk; (try dsimp only); (repeat' split) <;> (try dsimp only) <;> (repeat' split) <;> simp

@[simp] theorem State.characterOnTrunk_au (g : Seg) (c : TrunkChar) :
    (s.characterOnTrunk g c).au = s.au := by
  unfold State.characterOnTrunk; (try dsimp only); (repeat' split) <;> (try dsimp only) <;> (repeat' split) <;> simp

@[simp] theorem State.characterOnTrunk_al (g : Seg) (c : TrunkChar) :
    (s.characterOnTrunk g c).al = s.al := by
  unfold State.characterOnTrunk; (try dsimp only); (repeat' split) <;> (try dsimp only) <;> (repeat' split) <;> simp

@[simp] theorem State.characterOnTrunk_pending (g : Seg) (c : TrunkChar) :
    (s.characterOnTrunk g c).pending = s.pending := by
  unfold State.characterOnTrunk; (try dsimp only); (repeat' split) <;> (try dsimp only) <;> (repeat' split) <;> simp

@[simp] theorem State.validBurst_pe (g : Seg) (k : BurstKind) (a : Address) (b : List Byte) :
    (s.validBurst g k a b).pe = s.pe := by
  unfold State.validBurst; (try dsimp only); (repeat' split) <;> (try dsimp only) <;> (repeat' split) <;> simp

@[simp] theorem State.validBurst_al (g : Seg) (k : BurstKind) (a : Address) (b : List Byte) :
    (s.validBurst g k a b).al = s.al := by
  unfold State.validBurst; (try dsimp only); (repeat' split) <;> (try dsimp only) <;> (repeat' split) <;> simp

@[simp] theorem State.validBurst_pending (g : Seg) (k : BurstKind) (a : Address) (b : List Byte) :
    (s.validBurst g k a b).pending = s.pending := by
  unfold State.validBurst; (try dsimp only); (repeat' split) <;> (try dsimp only) <;> (repeat' split) <;> simp

@[simp] theorem State.applyVerdict_pe (g : Seg) (r : TrunkRx) (v : Verdict) :
    (s.applyVerdict g r v).pe = s.pe := by
  unfold State.applyVerdict; (try dsimp only); (repeat' split) <;> (try dsimp only) <;> (repeat' split) <;> simp

@[simp] theorem State.applyVerdict_al (g : Seg) (r : TrunkRx) (v : Verdict) :
    (s.applyVerdict g r v).al = s.al := by
  unfold State.applyVerdict; (try dsimp only); (repeat' split) <;> (try dsimp only) <;> (repeat' split) <;> simp

@[simp] theorem State.applyVerdict_pending (g : Seg) (r : TrunkRx) (v : Verdict) :
    (s.applyVerdict g r v).pending = s.pending := by
  unfold State.applyVerdict; (try dsimp only); (repeat' split) <;> (try dsimp only) <;> (repeat' split) <;> simp

@[simp] theorem State.probeReplyEnds_pe (g : Seg) (b : Bool) :
    (s.probeReplyEnds g b).pe = s.pe := by
  unfold State.probeReplyEnds; (try dsimp only); (repeat' split) <;> (try dsimp only) <;> (repeat' split) <;> simp

@[simp] theorem State.probeReplyEnds_al (g : Seg) (b : Bool) :
    (s.probeReplyEnds g b).al = s.al := by
  unfold State.probeReplyEnds; (try dsimp only); (repeat' split) <;> (try dsimp only) <;> (repeat' split) <;> simp

@[simp] theorem State.probeReplyEnds_pending (g : Seg) (b : Bool) :
    (s.probeReplyEnds g b).pending = s.pending := by
  unfold State.probeReplyEnds; (try dsimp only); (repeat' split) <;> (try dsimp only) <;> (repeat' split) <;> simp

@[simp] theorem State.burstEnds_pe (g : Seg) (i : Bool) :
    (s.burstEnds g i).pe = s.pe := by
  unfold State.burstEnds; (try dsimp only); (repeat' split) <;> (try dsimp only) <;> (repeat' split) <;> simp

@[simp] theorem State.burstEnds_al (g : Seg) (i : Bool) :
    (s.burstEnds g i).al = s.al := by
  unfold State.burstEnds; (try dsimp only); (repeat' split) <;> (try dsimp only) <;> (repeat' split) <;> simp

@[simp] theorem State.burstEnds_pending (g : Seg) (i : Bool) :
    (s.burstEnds g i).pending = s.pending := by
  unfold State.burstEnds; (try dsimp only); (repeat' split) <;> (try dsimp only) <;> (repeat' split) <;> simp

@[simp] theorem State.idleSeen_sd (g : Seg) :
    (s.idleSeen g).sd = s.sd := by
  unfold State.idleSeen; (try dsimp only); (repeat' split) <;> (try dsimp only) <;> (repeat' split) <;> simp

@[simp] theorem State.idleSeen_pr (g : Seg) :
    (s.idleSeen g).pr = s.pr := by
  unfold State.idleSeen; (try dsimp only); (repeat' split) <;> (try dsimp only) <;> (repeat' split) <;> simp

@[simp] theorem State.idleSeen_ports (g : Seg) :
    (s.idleSeen g).ports = s.ports := by
  unfold State.idleSeen; (try dsimp only); (repeat' split) <;> (try dsimp only) <;> (repeat' split) <;> simp

@[simp] theorem State.idleSeen_sm (g : Seg) :
    (s.idleSeen g).sm = s.sm := by
  unfold State.idleSeen; (try dsimp only); (repeat' split) <;> (try dsimp only) <;> (repeat' split) <;> simp

@[simp] theorem State.idleSeen_pe (g : Seg) :
    (s.idleSeen g).pe = s.pe := by
  unfold State.idleSeen; (try dsimp only); (repeat' split) <;> (try dsimp only) <;> (repeat' split) <;> simp

@[simp] theorem State.idleSeen_hm (g : Seg) :
    (s.idleSeen g).hm = s.hm := by
  unfold State.idleSeen; (try dsimp only); (repeat' split) <;> (try dsimp only) <;> (repeat' split) <;> simp

@[simp] theorem State.idleSeen_au (g : Seg) :
    (s.idleSeen g).au = s.au := by
  unfold State.idleSeen; (try dsimp only); (repeat' split) <;> (try dsimp only) <;> (repeat' split) <;> simp

@[simp] theorem State.idleSeen_al (g : Seg) :
    (s.idleSeen g).al = s.al := by
  unfold State.idleSeen; (try dsimp only); (repeat' split) <;> (try dsimp only) <;> (repeat' split) <;> simp

@[simp] theorem State.idleSeen_draws (g : Seg) :
    (s.idleSeen g).draws = s.draws := by
  unfold State.idleSeen; (try dsimp only); (repeat' split) <;> (try dsimp only) <;> (repeat' split) <;> simp

@[simp] theorem State.idleSeen_pending (g : Seg) :
    (s.idleSeen g).pending = s.pending := by
  unfold State.idleSeen; (try dsimp only); (repeat' split) <;> (try dsimp only) <;> (repeat' split) <;> simp

@[simp] theorem State.armAfterCopy_pe (g : Seg) (c : Copy) :
    (s.armAfterCopy g c).pe = s.pe := by
  unfold State.armAfterCopy; (try dsimp only); (repeat' split) <;> (try dsimp only) <;> (repeat' split) <;> simp

@[simp] theorem State.armAfterCopy_al (g : Seg) (c : Copy) :
    (s.armAfterCopy g c).al = s.al := by
  unfold State.armAfterCopy; (try dsimp only); (repeat' split) <;> (try dsimp only) <;> (repeat' split) <;> simp

@[simp] theorem State.armAfterCopy_pending (g : Seg) (c : Copy) :
    (s.armAfterCopy g c).pending = s.pending := by
  unfold State.armAfterCopy; (try dsimp only); (repeat' split) <;> (try dsimp only) <;> (repeat' split) <;> simp

@[simp] theorem State.cutCopy_pe (g : Seg) :
    (s.cutCopy g).pe = s.pe := by
  unfold State.cutCopy; (try dsimp only); (repeat' split) <;> (try dsimp only) <;> (repeat' split) <;> simp

@[simp] theorem State.cutCopy_al (g : Seg) :
    (s.cutCopy g).al = s.al := by
  unfold State.cutCopy; (try dsimp only); (repeat' split) <;> (try dsimp only) <;> (repeat' split) <;> simp

@[simp] theorem State.cutCopy_pending (g : Seg) :
    (s.cutCopy g).pending = s.pending := by
  unfold State.cutCopy; (try dsimp only); (repeat' split) <;> (try dsimp only) <;> (repeat' split) <;> simp

@[simp] theorem State.chargeJabber_pe (g : Seg) :
    (s.chargeJabber g).pe = s.pe := by
  unfold State.chargeJabber; (try dsimp only); (repeat' split) <;> (try dsimp only) <;> (repeat' split) <;> simp

@[simp] theorem State.chargeJabber_al (g : Seg) :
    (s.chargeJabber g).al = s.al := by
  unfold State.chargeJabber; (try dsimp only); (repeat' split) <;> (try dsimp only) <;> (repeat' split) <;> simp

@[simp] theorem State.chargeJabber_pending (g : Seg) :
    (s.chargeJabber g).pending = s.pending := by
  unfold State.chargeJabber; (try dsimp only); (repeat' split) <;> (try dsimp only) <;> (repeat' split) <;> simp

@[simp] theorem State.jabbers_pe (g : Seg) :
    (s.jabbers g).pe = s.pe := by
  unfold State.jabbers; (try dsimp only); (repeat' split) <;> (try dsimp only) <;> (repeat' split) <;> simp

@[simp] theorem State.jabbers_al (g : Seg) :
    (s.jabbers g).al = s.al := by
  unfold State.jabbers; (try dsimp only); (repeat' split) <;> (try dsimp only) <;> (repeat' split) <;> simp

@[simp] theorem State.jabbers_pending (g : Seg) :
    (s.jabbers g).pending = s.pending := by
  unfold State.jabbers; (try dsimp only); (repeat' split) <;> (try dsimp only) <;> (repeat' split) <;> simp

@[simp] theorem State.startHeld_sd (q : Nat) :
    (s.startHeld q).sd = s.sd := by
  unfold State.startHeld; (try dsimp only); (repeat' split) <;> (try dsimp only) <;> (repeat' split) <;> simp

@[simp] theorem State.startHeld_pr (q : Nat) :
    (s.startHeld q).pr = s.pr := by
  unfold State.startHeld; (try dsimp only); (repeat' split) <;> (try dsimp only) <;> (repeat' split) <;> simp

@[simp] theorem State.startHeld_ports (q : Nat) :
    (s.startHeld q).ports = s.ports := by
  unfold State.startHeld; (try dsimp only); (repeat' split) <;> (try dsimp only) <;> (repeat' split) <;> simp

@[simp] theorem State.startHeld_sm (q : Nat) :
    (s.startHeld q).sm = s.sm := by
  unfold State.startHeld; (try dsimp only); (repeat' split) <;> (try dsimp only) <;> (repeat' split) <;> simp

@[simp] theorem State.startHeld_pe (q : Nat) :
    (s.startHeld q).pe = s.pe := by
  unfold State.startHeld; (try dsimp only); (repeat' split) <;> (try dsimp only) <;> (repeat' split) <;> simp

@[simp] theorem State.startHeld_hm (q : Nat) :
    (s.startHeld q).hm = s.hm := by
  unfold State.startHeld; (try dsimp only); (repeat' split) <;> (try dsimp only) <;> (repeat' split) <;> simp

@[simp] theorem State.startHeld_au (q : Nat) :
    (s.startHeld q).au = s.au := by
  unfold State.startHeld; (try dsimp only); (repeat' split) <;> (try dsimp only) <;> (repeat' split) <;> simp

@[simp] theorem State.startHeld_al (q : Nat) :
    (s.startHeld q).al = s.al := by
  unfold State.startHeld; (try dsimp only); (repeat' split) <;> (try dsimp only) <;> (repeat' split) <;> simp

@[simp] theorem State.startHeld_draws (q : Nat) :
    (s.startHeld q).draws = s.draws := by
  unfold State.startHeld; (try dsimp only); (repeat' split) <;> (try dsimp only) <;> (repeat' split) <;> simp

@[simp] theorem State.startHeld_pending (q : Nat) :
    (s.startHeld q).pending = s.pending := by
  unfold State.startHeld; (try dsimp only); (repeat' split) <;> (try dsimp only) <;> (repeat' split) <;> simp

@[simp] theorem State.copyEnds_pe (g : Seg) (c : Copy) :
    (s.copyEnds g c).pe = s.pe := by
  unfold State.copyEnds; (try dsimp only); (repeat' split) <;> (try dsimp only) <;> (repeat' split) <;> simp

@[simp] theorem State.copyEnds_al (g : Seg) (c : Copy) :
    (s.copyEnds g c).al = s.al := by
  unfold State.copyEnds; (try dsimp only); (repeat' split) <;> (try dsimp only) <;> (repeat' split) <;> simp

@[simp] theorem State.copyEnds_pending (g : Seg) (c : Copy) :
    (s.copyEnds g c).pending = s.pending := by
  unfold State.copyEnds; (try dsimp only); (repeat' split) <;> (try dsimp only) <;> (repeat' split) <;> simp

@[simp] theorem State.probeSent_sd (g : Seg) :
    (s.probeSent g).sd = s.sd := by
  unfold State.probeSent; (try dsimp only); (repeat' split) <;> (try dsimp only) <;> (repeat' split) <;> simp

@[simp] theorem State.probeSent_pr (g : Seg) :
    (s.probeSent g).pr = s.pr := by
  unfold State.probeSent; (try dsimp only); (repeat' split) <;> (try dsimp only) <;> (repeat' split) <;> simp

@[simp] theorem State.probeSent_ports (g : Seg) :
    (s.probeSent g).ports = s.ports := by
  unfold State.probeSent; (try dsimp only); (repeat' split) <;> (try dsimp only) <;> (repeat' split) <;> simp

@[simp] theorem State.probeSent_sm (g : Seg) :
    (s.probeSent g).sm = s.sm := by
  unfold State.probeSent; (try dsimp only); (repeat' split) <;> (try dsimp only) <;> (repeat' split) <;> simp

@[simp] theorem State.probeSent_pe (g : Seg) :
    (s.probeSent g).pe = s.pe := by
  unfold State.probeSent; (try dsimp only); (repeat' split) <;> (try dsimp only) <;> (repeat' split) <;> simp

@[simp] theorem State.probeSent_au (g : Seg) :
    (s.probeSent g).au = s.au := by
  unfold State.probeSent; (try dsimp only); (repeat' split) <;> (try dsimp only) <;> (repeat' split) <;> simp

@[simp] theorem State.probeSent_al (g : Seg) :
    (s.probeSent g).al = s.al := by
  unfold State.probeSent; (try dsimp only); (repeat' split) <;> (try dsimp only) <;> (repeat' split) <;> simp

@[simp] theorem State.probeSent_draws (g : Seg) :
    (s.probeSent g).draws = s.draws := by
  unfold State.probeSent; (try dsimp only); (repeat' split) <;> (try dsimp only) <;> (repeat' split) <;> simp

@[simp] theorem State.probeSent_pending (g : Seg) :
    (s.probeSent g).pending = s.pending := by
  unfold State.probeSent; (try dsimp only); (repeat' split) <;> (try dsimp only) <;> (repeat' split) <;> simp

@[simp] theorem State.transmitterEnds_pe (g : Seg) :
    (s.transmitterEnds g).pe = s.pe := by
  unfold State.transmitterEnds; (try dsimp only); (repeat' split) <;> (try dsimp only) <;> (repeat' split) <;> simp

@[simp] theorem State.transmitterEnds_al (g : Seg) :
    (s.transmitterEnds g).al = s.al := by
  unfold State.transmitterEnds; (try dsimp only); (repeat' split) <;> (try dsimp only) <;> (repeat' split) <;> simp

@[simp] theorem State.transmitterEnds_pending (g : Seg) :
    (s.transmitterEnds g).pending = s.pending := by
  unfold State.transmitterEnds; (try dsimp only); (repeat' split) <;> (try dsimp only) <;> (repeat' split) <;> simp

/-! ### Desk frames -/

@[simp] theorem State.messageFrame_sd (n : PortNo) (p : List Byte) :
    (s.messageFrame n p).sd = s.sd := by
  unfold State.messageFrame; (try dsimp only); (repeat' split) <;> (try dsimp only) <;> (repeat' split) <;> simp

@[simp] theorem State.messageFrame_sm (n : PortNo) (p : List Byte) :
    (s.messageFrame n p).sm = s.sm := by
  unfold State.messageFrame; (try dsimp only); (repeat' split) <;> (try dsimp only) <;> (repeat' split) <;> simp

@[simp] theorem State.messageFrame_pe (n : PortNo) (p : List Byte) :
    (s.messageFrame n p).pe = s.pe := by
  unfold State.messageFrame; (try dsimp only); (repeat' split) <;> (try dsimp only) <;> (repeat' split) <;> simp

@[simp] theorem State.messageFrame_hm (n : PortNo) (p : List Byte) :
    (s.messageFrame n p).hm = s.hm := by
  unfold State.messageFrame; (try dsimp only); (repeat' split) <;> (try dsimp only) <;> (repeat' split) <;> simp

@[simp] theorem State.messageFrame_au (n : PortNo) (p : List Byte) :
    (s.messageFrame n p).au = s.au := by
  unfold State.messageFrame; (try dsimp only); (repeat' split) <;> (try dsimp only) <;> (repeat' split) <;> simp

@[simp] theorem State.messageFrame_al (n : PortNo) (p : List Byte) :
    (s.messageFrame n p).al = s.al := by
  unfold State.messageFrame; (try dsimp only); (repeat' split) <;> (try dsimp only) <;> (repeat' split) <;> simp

@[simp] theorem State.messageFrame_pending (n : PortNo) (p : List Byte) :
    (s.messageFrame n p).pending = s.pending := by
  unfold State.messageFrame; (try dsimp only); (repeat' split) <;> (try dsimp only) <;> (repeat' split) <;> simp

@[simp] theorem State.printFrame_ti (n : PortNo) (k : Byte) (p : List Byte) :
    (s.printFrame n k p).ti = s.ti := by
  unfold State.printFrame; (try dsimp only); (repeat' split) <;> (try dsimp only) <;> (repeat' split) <;> simp

@[simp] theorem State.printFrame_pr (n : PortNo) (k : Byte) (p : List Byte) :
    (s.printFrame n k p).pr = s.pr := by
  unfold State.printFrame; (try dsimp only); (repeat' split) <;> (try dsimp only) <;> (repeat' split) <;> simp

@[simp] theorem State.printFrame_hm (n : PortNo) (k : Byte) (p : List Byte) :
    (s.printFrame n k p).hm = s.hm := by
  unfold State.printFrame; (try dsimp only); (repeat' split) <;> (try dsimp only) <;> (repeat' split) <;> simp

@[simp] theorem State.printFrame_al (n : PortNo) (k : Byte) (p : List Byte) :
    (s.printFrame n k p).al = s.al := by
  unfold State.printFrame; (try dsimp only); (repeat' split) <;> (try dsimp only) <;> (repeat' split) <;> simp

@[simp] theorem State.printFrame_draws (n : PortNo) (k : Byte) (p : List Byte) :
    (s.printFrame n k p).draws = s.draws := by
  unfold State.printFrame; (try dsimp only); (repeat' split) <;> (try dsimp only) <;> (repeat' split) <;> simp

@[simp] theorem State.printFrame_pending (n : PortNo) (k : Byte) (p : List Byte) :
    (s.printFrame n k p).pending = s.pending := by
  unfold State.printFrame; (try dsimp only); (repeat' split) <;> (try dsimp only) <;> (repeat' split) <;> simp

@[simp] theorem State.goodFrame_hm (n : PortNo) (k : Byte) (p : List Byte) :
    (s.goodFrame n k p).hm = s.hm := by
  unfold State.goodFrame; (try dsimp only); (repeat' split) <;> (try dsimp only) <;> (repeat' split) <;> simp

@[simp] theorem State.goodFrame_al (n : PortNo) (k : Byte) (p : List Byte) :
    (s.goodFrame n k p).al = s.al := by
  unfold State.goodFrame; (try dsimp only); (repeat' split) <;> (try dsimp only) <;> (repeat' split) <;> simp

@[simp] theorem State.goodFrame_pending (n : PortNo) (k : Byte) (p : List Byte) :
    (s.goodFrame n k p).pending = s.pending := by
  unfold State.goodFrame; (try dsimp only); (repeat' split) <;> (try dsimp only) <;> (repeat' split) <;> simp

@[simp] theorem State.applyFrame_al (n : PortNo) (r : PortRx) (v : FrameVerdict) :
    (s.applyFrame n r v).al = s.al := by
  unfold State.applyFrame; (try dsimp only); (repeat' split) <;> (try dsimp only) <;> (repeat' split) <;> simp

@[simp] theorem State.applyFrame_pending (n : PortNo) (r : PortRx) (v : FrameVerdict) :
    (s.applyFrame n r v).pending = s.pending := by
  unfold State.applyFrame; (try dsimp only); (repeat' split) <;> (try dsimp only) <;> (repeat' split) <;> simp

@[simp] theorem State.charError_pe (n : PortNo) (e : Bool) :
    (s.charError n e).pe = s.pe := by
  unfold State.charError; (try dsimp only); (repeat' split) <;> (try dsimp only) <;> (repeat' split) <;> simp

@[simp] theorem State.charError_al (n : PortNo) (e : Bool) :
    (s.charError n e).al = s.al := by
  unfold State.charError; (try dsimp only); (repeat' split) <;> (try dsimp only) <;> (repeat' split) <;> simp

@[simp] theorem State.charError_pending (n : PortNo) (e : Bool) :
    (s.charError n e).pending = s.pending := by
  unfold State.charError; (try dsimp only); (repeat' split) <;> (try dsimp only) <;> (repeat' split) <;> simp

@[simp] theorem State.frameEvent_pe (n : PortNo) (v : FrameVerdict) :
    (s.frameEvent n v).pe = s.pe := by
  unfold State.frameEvent; (try dsimp only); (repeat' split) <;> (try dsimp only) <;> (repeat' split) <;> simp

@[simp] theorem State.frameEvent_al (n : PortNo) (v : FrameVerdict) :
    (s.frameEvent n v).al = s.al := by
  unfold State.frameEvent; (try dsimp only); (repeat' split) <;> (try dsimp only) <;> (repeat' split) <;> simp

@[simp] theorem State.frameEvent_pending (n : PortNo) (v : FrameVerdict) :
    (s.frameEvent n v).pending = s.pending := by
  unfold State.frameEvent; (try dsimp only); (repeat' split) <;> (try dsimp only) <;> (repeat' split) <;> simp

@[simp] theorem State.frameEnds_al (n : PortNo) (r : PortRx) (o : Bool) (c : Byte) (e : Bool) :
    (s.frameEnds n r o c e).al = s.al := by
  unfold State.frameEnds; (try dsimp only); (repeat' split) <;> (try dsimp only) <;> (repeat' split) <;> simp

@[simp] theorem State.frameEnds_pending (n : PortNo) (r : PortRx) (o : Bool) (c : Byte) (e : Bool) :
    (s.frameEnds n r o c e).pending = s.pending := by
  unfold State.frameEnds; (try dsimp only); (repeat' split) <;> (try dsimp only) <;> (repeat' split) <;> simp

@[simp] theorem State.frameGoesOn_pe (n : PortNo) (r : PortRx) (e : Bool) :
    (s.frameGoesOn n r e).pe = s.pe := by
  unfold State.frameGoesOn; (try dsimp only); (repeat' split) <;> (try dsimp only) <;> (repeat' split) <;> simp

@[simp] theorem State.frameGoesOn_al (n : PortNo) (r : PortRx) (e : Bool) :
    (s.frameGoesOn n r e).al = s.al := by
  unfold State.frameGoesOn; (try dsimp only); (repeat' split) <;> (try dsimp only) <;> (repeat' split) <;> simp

@[simp] theorem State.frameGoesOn_pending (n : PortNo) (r : PortRx) (e : Bool) :
    (s.frameGoesOn n r e).pending = s.pending := by
  unfold State.frameGoesOn; (try dsimp only); (repeat' split) <;> (try dsimp only) <;> (repeat' split) <;> simp

@[simp] theorem State.portCharacter_al (n : PortNo) (v : Byte) (e : Bool) :
    (s.portCharacter n v e).al = s.al := by
  unfold State.portCharacter; (try dsimp only); (repeat' split) <;> (try dsimp only) <;> (repeat' split) <;> simp

@[simp] theorem State.portCharacter_pending (n : PortNo) (v : Byte) (e : Bool) :
    (s.portCharacter n v e).pending = s.pending := by
  unfold State.portCharacter; (try dsimp only); (repeat' split) <;> (try dsimp only) <;> (repeat' split) <;> simp

@[simp] theorem State.gapExpires_pe (n : PortNo) :
    (s.gapExpires n).pe = s.pe := by
  unfold State.gapExpires; (try dsimp only); (repeat' split) <;> (try dsimp only) <;> (repeat' split) <;> simp

@[simp] theorem State.gapExpires_al (n : PortNo) :
    (s.gapExpires n).al = s.al := by
  unfold State.gapExpires; (try dsimp only); (repeat' split) <;> (try dsimp only) <;> (repeat' split) <;> simp

@[simp] theorem State.gapExpires_pending (n : PortNo) :
    (s.gapExpires n).pending = s.pending := by
  unfold State.gapExpires; (try dsimp only); (repeat' split) <;> (try dsimp only) <;> (repeat' split) <;> simp

@[simp] theorem State.breakBegins_pe (n : PortNo) :
    (s.breakBegins n).pe = s.pe := by
  unfold State.breakBegins; (try dsimp only); (repeat' split) <;> (try dsimp only) <;> (repeat' split) <;> simp

@[simp] theorem State.breakBegins_al (n : PortNo) :
    (s.breakBegins n).al = s.al := by
  unfold State.breakBegins; (try dsimp only); (repeat' split) <;> (try dsimp only) <;> (repeat' split) <;> simp

@[simp] theorem State.breakBegins_pending (n : PortNo) :
    (s.breakBegins n).pending = s.pending := by
  unfold State.breakBegins; (try dsimp only); (repeat' split) <;> (try dsimp only) <;> (repeat' split) <;> simp

/-! ### Commands -/

@[simp] theorem State.enablePort_sd (n : PortNo) :
    (s.enablePort n).sd = s.sd := by
  unfold State.enablePort; (try dsimp only); (repeat' split) <;> (try dsimp only) <;> (repeat' split) <;> simp

@[simp] theorem State.enablePort_ti (n : PortNo) :
    (s.enablePort n).ti = s.ti := by
  unfold State.enablePort; (try dsimp only); (repeat' split) <;> (try dsimp only) <;> (repeat' split) <;> simp

@[simp] theorem State.enablePort_pr (n : PortNo) :
    (s.enablePort n).pr = s.pr := by
  unfold State.enablePort; (try dsimp only); (repeat' split) <;> (try dsimp only) <;> (repeat' split) <;> simp

@[simp] theorem State.enablePort_sm (n : PortNo) :
    (s.enablePort n).sm = s.sm := by
  unfold State.enablePort; (try dsimp only); (repeat' split) <;> (try dsimp only) <;> (repeat' split) <;> simp

@[simp] theorem State.enablePort_pe (n : PortNo) :
    (s.enablePort n).pe = s.pe := by
  unfold State.enablePort; (try dsimp only); (repeat' split) <;> (try dsimp only) <;> (repeat' split) <;> simp

@[simp] theorem State.enablePort_hm (n : PortNo) :
    (s.enablePort n).hm = s.hm := by
  unfold State.enablePort; (try dsimp only); (repeat' split) <;> (try dsimp only) <;> (repeat' split) <;> simp

@[simp] theorem State.enablePort_al (n : PortNo) :
    (s.enablePort n).al = s.al := by
  unfold State.enablePort; (try dsimp only); (repeat' split) <;> (try dsimp only) <;> (repeat' split) <;> simp

@[simp] theorem State.enablePort_draws (n : PortNo) :
    (s.enablePort n).draws = s.draws := by
  unfold State.enablePort; (try dsimp only); (repeat' split) <;> (try dsimp only) <;> (repeat' split) <;> simp

@[simp] theorem State.enablePort_pending (n : PortNo) :
    (s.enablePort n).pending = s.pending := by
  unfold State.enablePort; (try dsimp only); (repeat' split) <;> (try dsimp only) <;> (repeat' split) <;> simp

@[simp] theorem State.stopPort_pe (n : PortNo) :
    (s.stopPort n).pe = s.pe := by
  unfold State.stopPort; (try dsimp only); (repeat' split) <;> (try dsimp only) <;> (repeat' split) <;> simp

@[simp] theorem State.stopPort_al (n : PortNo) :
    (s.stopPort n).al = s.al := by
  unfold State.stopPort; (try dsimp only); (repeat' split) <;> (try dsimp only) <;> (repeat' split) <;> simp

@[simp] theorem State.stopPort_pending (n : PortNo) :
    (s.stopPort n).pending = s.pending := by
  unfold State.stopPort; (try dsimp only); (repeat' split) <;> (try dsimp only) <;> (repeat' split) <;> simp

@[simp] theorem State.evaluateAll_pe (l : List ObjectId) :
    (s.evaluateAll l).pe = s.pe := foldl_kept State.pe (fun t o => t.evaluate_pe o) l s

@[simp] theorem State.evaluateAll_al (l : List ObjectId) :
    (s.evaluateAll l).al = s.al := foldl_kept State.al (fun t o => t.evaluate_al o) l s

@[simp] theorem State.evaluateAll_pending (l : List ObjectId) :
    (s.evaluateAll l).pending = s.pending := foldl_kept State.pending (fun t o => t.evaluate_pending o) l s

@[simp] theorem State.forceIsolate_pe (o : ObjectId) :
    (s.forceIsolate o).pe = s.pe := by
  unfold State.forceIsolate; (try dsimp only); (repeat' split) <;> (try dsimp only) <;> (repeat' split) <;> simp

@[simp] theorem State.forceIsolate_al (o : ObjectId) :
    (s.forceIsolate o).al = s.al := by
  unfold State.forceIsolate; (try dsimp only); (repeat' split) <;> (try dsimp only) <;> (repeat' split) <;> simp

@[simp] theorem State.forceIsolate_pending (o : ObjectId) :
    (s.forceIsolate o).pending = s.pending := by
  unfold State.forceIsolate; (try dsimp only); (repeat' split) <;> (try dsimp only) <;> (repeat' split) <;> simp

@[simp] theorem State.setMayIsolate_pe (o : ObjectId) (b : Bool) :
    (s.setMayIsolate o b).pe = s.pe := by
  unfold State.setMayIsolate; (try dsimp only); (repeat' split) <;> (try dsimp only) <;> (repeat' split) <;> simp

@[simp] theorem State.setMayIsolate_al (o : ObjectId) (b : Bool) :
    (s.setMayIsolate o b).al = s.al := by
  unfold State.setMayIsolate; (try dsimp only); (repeat' split) <;> (try dsimp only) <;> (repeat' split) <;> simp

@[simp] theorem State.setMayIsolate_pending (o : ObjectId) (b : Bool) :
    (s.setMayIsolate o b).pending = s.pending := by
  unfold State.setMayIsolate; (try dsimp only); (repeat' split) <;> (try dsimp only) <;> (repeat' split) <;> simp

@[simp] theorem State.decay_pe (o : ObjectId) :
    (s.decay o).pe = s.pe := by
  unfold State.decay; (try dsimp only); (repeat' split) <;> (try dsimp only) <;> (repeat' split) <;> simp

@[simp] theorem State.decay_al (o : ObjectId) :
    (s.decay o).al = s.al := by
  unfold State.decay; (try dsimp only); (repeat' split) <;> (try dsimp only) <;> (repeat' split) <;> simp

@[simp] theorem State.decay_pending (o : ObjectId) :
    (s.decay o).pending = s.pending := by
  unfold State.decay; (try dsimp only); (repeat' split) <;> (try dsimp only) <;> (repeat' split) <;> simp

@[simp] theorem State.releaseExpired_sd :
    (s.releaseExpired).sd = s.sd := by
  unfold State.releaseExpired; (try dsimp only); (repeat' split) <;> (try dsimp only) <;> (repeat' split) <;> simp

@[simp] theorem State.releaseExpired_ti :
    (s.releaseExpired).ti = s.ti := by
  unfold State.releaseExpired; (try dsimp only); (repeat' split) <;> (try dsimp only) <;> (repeat' split) <;> simp

@[simp] theorem State.releaseExpired_pr :
    (s.releaseExpired).pr = s.pr := by
  unfold State.releaseExpired; (try dsimp only); (repeat' split) <;> (try dsimp only) <;> (repeat' split) <;> simp

@[simp] theorem State.releaseExpired_hm :
    (s.releaseExpired).hm = s.hm := by
  unfold State.releaseExpired; (try dsimp only); (repeat' split) <;> (try dsimp only) <;> (repeat' split) <;> simp

@[simp] theorem State.releaseExpired_au :
    (s.releaseExpired).au = s.au := by
  unfold State.releaseExpired; (try dsimp only); (repeat' split) <;> (try dsimp only) <;> (repeat' split) <;> simp

@[simp] theorem State.releaseExpired_al :
    (s.releaseExpired).al = s.al := by
  unfold State.releaseExpired; (try dsimp only); (repeat' split) <;> (try dsimp only) <;> (repeat' split) <;> simp

@[simp] theorem State.releaseExpired_draws :
    (s.releaseExpired).draws = s.draws := by
  unfold State.releaseExpired; (try dsimp only); (repeat' split) <;> (try dsimp only) <;> (repeat' split) <;> simp

@[simp] theorem State.releaseExpired_pending :
    (s.releaseExpired).pending = s.pending := by
  unfold State.releaseExpired; (try dsimp only); (repeat' split) <;> (try dsimp only) <;> (repeat' split) <;> simp

end Sys2Proof.Machine
end

