-- ==== Sys2Proof/Laws/Commands.lean ====
section
/-! SUPPORT. How a property of every command of the administration link is shown: command by command, and then for the
bytes of the link. -/

namespace Sys2Proof.Machine

/-- A property that each command has, for every value of its argument bytes, holds of whatever a code and its argument
bytes give. -/
theorem commandOf_cases {P : Command → Prop}
    (readStatus : P (readStatusCommand))
    (readEntry : ∀ (x : Byte), P (readEntryCommand x))
    (writeEntry : ∀ (x y z w : Byte), P (writeEntryCommand x y z w))
    (clearEntry : ∀ (x : Byte), P (clearEntryCommand x))
    (setPrinterAddress : ∀ (x : Byte), P (setPrinterAddressCommand x))
    (setQuota : ∀ (x : Byte) (q : BitVec 16), P (setQuotaCommand x q))
    (setTrunkProfile : ∀ (x y z w v : Byte) (q : BitVec 16) (u t : Byte), P (setTrunkProfileCommand x y z w v q u t))
    (setPortProfile : ∀ (x y z w v u : Byte), P (setPortProfileCommand x y z w v u))
    (portEnable : ∀ (x : Byte), P (portEnableCommand x))
    (portStandby : ∀ (x : Byte), P (portStandbyCommand x))
    (readPort : ∀ (x : Byte), P (readPortCommand x))
    (setHealthLimits : ∀ (q r p : BitVec 16) (x y z : Byte), P (setHealthLimitsCommand q r p x y z))
    (setWeights : ∀ (weights : Weights), P (setWeightsCommand weights))
    (readHealth : ∀ (x : Byte), P (readHealthCommand x))
    (forceIsolate : ∀ (x : Byte), P (forceIsolateCommand x))
    (forceReadmit : ∀ (x : Byte), P (forceReadmitCommand x))
    (setMayIsolate : ∀ (x y : Byte), P (setMayIsolateCommand x y))
    (setPrintProfile : ∀ (x y z w v u : Byte) (q : BitVec 16), P (setPrintProfileCommand x y z w v u q))
    (printerEnable : P (printerEnableCommand))
    (printerDisable : P (printerDisableCommand))
    (readPrinter : P (readPrinterCommand))
    (listJobs : P (listJobsCommand))
    (readJob : ∀ (x : Byte), P (readJobCommand x))
    (holdJob : ∀ (x : Byte), P (holdJobCommand x))
    (releaseJob : ∀ (x : Byte), P (releaseJobCommand x))
    (cancelJob : ∀ (x : Byte), P (cancelJobCommand x))
    (promoteJob : ∀ (x : Byte), P (promoteJobCommand x))
    (resumePrinter : P (resumePrinterCommand))
    (setAlerts : ∀ (q r : BitVec 16), P (setAlertsCommand q r))
    (clearCauses : ∀ (q : BitVec 16), P (clearCausesCommand q))
    (readReport : P (readReportCommand))
    (restart : ∀ (x : Byte), P (restartCommand x))
    (refuse : P (refuse .unknownCommand))
    (code : Nat) (args : List Byte) : P (commandOf code args) := by
  have i {c : Prop} [Decidable c] {a b : Command} (ha : P a) (hb : P b) : P (if c then a else b) := by
    split
    · exact ha
    · exact hb
  have hb : P (bareCommand code) :=
    i readStatus (i printerEnable (i printerDisable (i readPrinter (i listJobs (i resumePrinter (i readReport
      refuse))))))
  have h1 (x : Byte) : P (byteCommand code x) :=
    i (readEntry x) (i (clearEntry x) (i (setPrinterAddress x) (i (portEnable x) (i (portStandby x) (i (readPort x)
      (i (readHealth x) (i (forceIsolate x) (i (forceReadmit x) (i (readJob x) (i (holdJob x) (i (releaseJob x)
      (i (cancelJob x) (i (promoteJob x) (i (restart x) refuse))))))))))))))
  unfold commandOf
  split
  · exact hb
  · exact h1 _
  · exact i (setMayIsolate _ _) (i (clearCauses _) refuse)
  · exact i (setQuota _ _) refuse
  · exact i (writeEntry _ _ _ _) (i (setAlerts _ _) refuse)
  · exact i (setPortProfile _ _ _ _ _ _) refuse
  · exact i (setPrintProfile _ _ _ _ _ _ _) refuse
  · exact i (setTrunkProfile _ _ _ _ _ _ _ _) (i (setHealthLimits _ _ _ _ _ _) refuse)
  · exact i (setWeights _) refuse
  · exact refuse

variable {s : State} {I : State → Prop}

/-- A property of the blocks outlasts an execution when the command keeps it. -/
theorem execute_keeps (hal : ∀ u al, I u → I { u with al }) (cont : Bool) {c : Command} (hc : I (c s).2) :
    I (s.execute cont c) :=
  hal _ _ hc

/-- A property of the blocks that every command keeps outlasts a lead byte. -/
theorem takeLead_keeps (hal : ∀ u al, I u → I { u with al })
    (hc : ∀ code args u, I u → I (commandOf code args u).2) (b : Byte) (h : I s) : I (s.takeLead b) := by
  unfold State.takeLead
  dsimp only
  split
  · exact hal _ _ (hal _ _ h)
  · exact execute_keeps hal _ (hc _ _ _ (hal _ _ h))
  · exact execute_keeps hal _ (hc _ _ _ (hal _ _ h))

/-- A property of the blocks that every command keeps outlasts an argument byte. -/
theorem takeArgument_keeps (hal : ∀ u al, I u → I { u with al })
    (hc : ∀ code args u, I u → I (commandOf code args u).2) (b : Byte) (h : I s) : I (s.takeArgument b) := by
  unfold State.takeArgument
  dsimp only
  split
  · exact execute_keeps hal _ (hc _ _ _ (hal _ _ h))
  · exact hal _ _ h

/-- A property that the action on every job keeps outlasts a command that names a job. -/
theorem onJob_keeps (id : Byte) (f : Job → Command) (hf : ∀ j, s.job? id.toNat = some j → I s → I (f j s).2) (h : I s) :
    I (onJob id f s).2 := by
  unfold onJob
  split
  · exact h
  · split
    · exact h
    · exact hf _ ‹_› h

end Sys2Proof.Machine
end

