-- ==== Sys2Proof/Laws/Raised.lean ====
section
/-! SUPPORT. What every operation does to the Alert Unit: it hands it occurrences, and nothing else. -/

set_option linter.unnecessarySeqFocus false
set_option linter.unusedTactic false
set_option linter.unreachableTactic false
set_option linter.unusedSimpArgs false

namespace Sys2Proof.Machine

/-- The second Alert Unit stands after some occurrences were handed to the first. -/
inductive Raised : AlertUnit → AlertUnit → Prop
  | refl (u : AlertUnit) : Raised u u
  | take {u v : AlertUnit} (c : Cause) (n : Nat) (d : Detail) : Raised u v → Raised u (v.take c n d)

theorem raised_foldl {α : Type} {f : State → α → State} {u : AlertUnit}
    (hf : ∀ t a, Raised u t.au → Raised u (f t a).au) (l : List α) (s : State) (h : Raised u s.au) :
    Raised u (l.foldl f s).au := by
  induction l generalizing s with
  | nil => exact h
  | cons a l ih => exact ih _ (hf _ _ h)

variable {u : AlertUnit} (s : State)

@[simp] theorem raised_take {v : AlertUnit} (c : Cause) (n : Nat) (d : Detail) (h : Raised u v) :
    Raised u (v.take c n d) := h.take c n d

@[simp] theorem State.raised_reportPort (n : PortNo) (hr : Raised u s.au) :
    Raised u (s.reportPort n).au := by
  unfold State.reportPort; (try dsimp only); (repeat' split) <;> (try dsimp only) <;> (repeat' split) <;> simp [hr]

@[simp] theorem State.raised_raiseLow (k : Nat) (hr : Raised u s.au) :
    Raised u (s.raiseLow k).au := by
  unfold State.raiseLow; (try dsimp only); (repeat' split) <;> (try dsimp only) <;> (repeat' split) <;> simp [hr]

@[simp] theorem State.raised_admitText (j : Job) (text : List Byte) (hr : Raised u s.au) :
    Raised u (s.admitText j text).au := by
  unfold State.admitText; (try dsimp only); (repeat' split) <;> (try dsimp only) <;> (repeat' split) <;> simp [hr]

@[simp] theorem State.raised_removeJob (j : Job) (e : Ending) (hr : Raised u s.au) :
    Raised u (s.removeJob j e).au := by
  unfold State.removeJob; (try dsimp only); (repeat' split) <;> (try dsimp only) <;> (repeat' split) <;> simp [hr]

@[simp] theorem State.raised_discardOpen (n : PortNo) (hr : Raised u s.au) :
    Raised u (s.discardOpen n).au := by
  unfold State.discardOpen; (try dsimp only); (repeat' split) <;> (try dsimp only) <;> (repeat' split) <;> simp [hr]

@[simp] theorem State.raised_reportEngine (b : EngineState) (hr : Raised u s.au) :
    Raised u (s.reportEngine b).au := by
  unfold State.reportEngine; (try dsimp only); (repeat' split) <;> (try dsimp only) <;> (repeat' split) <;> simp [hr]

@[simp] theorem State.raised_endJob (e : Ending) (hr : Raised u s.au) :
    Raised u (s.endJob e).au := by
  unfold State.endJob; (try dsimp only); (repeat' split) <;> (try dsimp only) <;> (repeat' split) <;> simp [hr]

@[simp] theorem State.raised_copyEnd (j : Job) (hr : Raised u s.au) :
    Raised u (s.copyEnd j).au := by
  unfold State.copyEnd; (try dsimp only); (repeat' split) <;> (try dsimp only) <;> (repeat' split) <;> simp [hr]

@[simp] theorem State.raised_textTaken (j : Job) (p : Position) (hr : Raised u s.au) :
    Raised u (s.textTaken j p).au := by
  unfold State.textTaken; (try dsimp only); (repeat' split) <;> (try dsimp only) <;> (repeat' split) <;> simp [hr]

@[simp] theorem State.raised_characterTaken (hr : Raised u s.au) :
    Raised u (s.characterTaken).au := by
  unfold State.characterTaken; (try dsimp only); (repeat' split) <;> (try dsimp only) <;> (repeat' split) <;> simp [hr]

@[simp] theorem State.raised_characterLost (hr : Raised u s.au) :
    Raised u (s.characterLost).au := by
  unfold State.characterLost; (try dsimp only); (repeat' split) <;> (try dsimp only) <;> (repeat' split) <;> simp [hr]

@[simp] theorem State.raised_stopEngine (hr : Raised u s.au) :
    Raised u (s.stopEngine).au := by
  unfold State.stopEngine; (try dsimp only); (repeat' split) <;> (try dsimp only) <;> (repeat' split) <;> simp [hr]

@[simp] theorem State.raised_disableEngine (hr : Raised u s.au) :
    Raised u (s.disableEngine).au := by
  unfold State.disableEngine; (try dsimp only); (repeat' split) <;> (try dsimp only) <;> (repeat' split) <;> simp [hr]

@[simp] theorem State.raised_enableEngine (hr : Raised u s.au) :
    Raised u (s.enableEngine).au := by
  unfold State.enableEngine; (try dsimp only); (repeat' split) <;> (try dsimp only) <;> (repeat' split) <;> simp [hr]

@[simp] theorem State.raised_offerJobs (hr : Raised u s.au) :
    Raised u (s.offerJobs).au := by
  unfold State.offerJobs; (try dsimp only); (repeat' split) <;> (try dsimp only) <;> (repeat' split) <;> simp [hr]

@[simp] theorem State.raised_resumePrinter (hr : Raised u s.au) :
    Raised u (s.resumePrinter).au := by
  unfold State.resumePrinter; (try dsimp only); (repeat' split) <;> (try dsimp only) <;> (repeat' split) <;> simp [hr]

@[simp] theorem State.raised_closeJob (j : Job) (hr : Raised u s.au) :
    Raised u (s.closeJob j).au := by
  unfold State.closeJob; (try dsimp only); (repeat' split) <;> (try dsimp only) <;> (repeat' split) <;> simp [hr]

@[simp] theorem State.raised_cancelJob (j : Job) (hr : Raised u s.au) :
    Raised u (s.cancelJob j).au := by
  unfold State.cancelJob; (try dsimp only); (repeat' split) <;> (try dsimp only) <;> (repeat' split) <;> simp [hr]

@[simp] theorem State.raised_idleExpired (j : Job) (hr : Raised u s.au) :
    Raised u (s.idleExpired j).au := by
  unfold State.idleExpired; (try dsimp only); (repeat' split) <;> (try dsimp only) <;> (repeat' split) <;> simp [hr]

@[simp] theorem State.raised_printEffect (src : Source) (k : Byte) (p : List Byte) (hr : Raised u s.au) :
    Raised u (s.printEffect src k p).au := by
  unfold State.printEffect; (try dsimp only); (repeat' split) <;> (try dsimp only) <;> (repeat' split) <;> simp [hr]

@[simp] theorem State.raised_primaryClose (hr : Raised u s.au) :
    Raised u (s.primaryClose).au := by
  unfold State.primaryClose; (try dsimp only); (repeat' split) <;> (try dsimp only) <;> (repeat' split) <;> simp [hr]

@[simp] theorem State.raised_isolatePort (n : PortNo) (hr : Raised u s.au) :
    Raised u (s.isolatePort n).au := by
  unfold State.isolatePort; (try dsimp only); (repeat' split) <;> (try dsimp only) <;> (repeat' split) <;> simp [hr]

@[simp] theorem State.raised_reportObject (o : ObjectId) (d : HealthDetail) (l : PortState) (hr : Raised u s.au) :
    Raised u (s.reportObject o d l).au := by
  unfold State.reportObject; (try dsimp only); (repeat' split) <;> (try dsimp only) <;> (repeat' split) <;> simp [hr]

@[simp] theorem State.raised_isolateObject (o : ObjectId) (hr : Raised u s.au) :
    Raised u (s.isolateObject o).au := by
  unfold State.isolateObject; (try dsimp only); (repeat' split) <;> (try dsimp only) <;> (repeat' split) <;> simp [hr]

@[simp] theorem State.raised_readmitObject (o : ObjectId) (h : Health) (hr : Raised u s.au) :
    Raised u (s.readmitObject o h).au := by
  unfold State.readmitObject; (try dsimp only); (repeat' split) <;> (try dsimp only) <;> (repeat' split) <;> simp [hr]

@[simp] theorem State.raised_evaluateMark (o : ObjectId) (hr : Raised u s.au) :
    Raised u (s.evaluateMark o).au := by
  unfold State.evaluateMark; (try dsimp only); (repeat' split) <;> (try dsimp only) <;> (repeat' split) <;> simp [hr]

@[simp] theorem State.raised_evaluate (o : ObjectId) (hr : Raised u s.au) :
    Raised u (s.evaluate o).au := by
  unfold State.evaluate; (try dsimp only); (repeat' split) <;> (try dsimp only) <;> (repeat' split) <;> simp [hr]

@[simp] theorem State.raised_addScore (o : ObjectId) (w : Nat) (hr : Raised u s.au) :
    Raised u (s.addScore o w).au := by
  unfold State.addScore; (try dsimp only); (repeat' split) <;> (try dsimp only) <;> (repeat' split) <;> simp [hr]

@[simp] theorem State.raised_chargeStation (a : Address) (w : Byte) (hr : Raised u s.au) :
    Raised u (s.chargeStation a w).au := by
  unfold State.chargeStation; (try dsimp only); (repeat' split) <;> (try dsimp only) <;> (repeat' split) <;> simp [hr]

@[simp] theorem State.raised_chargeSegment (g : Seg) (w : Byte) (hr : Raised u s.au) :
    Raised u (s.chargeSegment g w).au := by
  unfold State.chargeSegment; (try dsimp only); (repeat' split) <;> (try dsimp only) <;> (repeat' split) <;> simp [hr]

@[simp] theorem State.raised_chargePort (n : PortNo) (w : Byte) (hr : Raised u s.au) :
    Raised u (s.chargePort n w).au := by
  unfold State.chargePort; (try dsimp only); (repeat' split) <;> (try dsimp only) <;> (repeat' split) <;> simp [hr]

@[simp] theorem State.raised_probeFailure (o : ObjectId) (hr : Raised u s.au) :
    Raised u (s.probeFailure o).au := by
  unfold State.probeFailure; (try dsimp only); (repeat' split) <;> (try dsimp only) <;> (repeat' split) <;> simp [hr]

@[simp] theorem State.raised_probeCredit (o : ObjectId) (hr : Raised u s.au) :
    Raised u (s.probeCredit o).au := by
  unfold State.probeCredit; (try dsimp only); (repeat' split) <;> (try dsimp only) <;> (repeat' split) <;> simp [hr]

@[simp] theorem State.raised_pollMiss (g : Seg) (a : Address) (hr : Raised u s.au) :
    Raised u (s.pollMiss g a).au := by
  unfold State.pollMiss; (try dsimp only); (repeat' split) <;> (try dsimp only) <;> (repeat' split) <;> simp [hr]

@[simp] theorem State.raised_chargeConflict (g : Seg) (hr : Raised u s.au) :
    Raised u (s.chargeConflict g).au := by
  unfold State.chargeConflict; (try dsimp only); (repeat' split) <;> (try dsimp only) <;> (repeat' split) <;> simp [hr]

@[simp] theorem State.raised_clearObject (o : ObjectId) (m : Bool) (hr : Raised u s.au) :
    Raised u (s.clearObject o m).au := by
  unfold State.clearObject; (try dsimp only); (repeat' split) <;> (try dsimp only) <;> (repeat' split) <;> simp [hr]

@[simp] theorem State.raised_clearKeeping (o : ObjectId) (hr : Raised u s.au) :
    Raised u (s.clearKeeping o).au := by
  unfold State.clearKeeping; (try dsimp only); (repeat' split) <;> (try dsimp only) <;> (repeat' split) <;> simp [hr]

@[simp] theorem State.raised_enterStandby (n : PortNo) (hr : Raised u s.au) :
    Raised u (s.enterStandby n).au := by
  unfold State.enterStandby
  exact State.raised_discardOpen _ _ (State.raised_clearKeeping _ _ (State.raised_reportPort _ _ (by simp [hr])))

@[simp] theorem State.raised_finishStopping (n : PortNo) (hr : Raised u s.au) :
    Raised u (s.finishStopping n).au := by
  unfold State.finishStopping; (try dsimp only); (repeat' split) <;> (try dsimp only) <;> (repeat' split) <;> simp [hr]

@[simp] theorem State.raised_move (g : Seg) (a : Address) (hr : Raised u s.au) :
    Raised u (s.move g a).au := by
  unfold State.move; (try dsimp only); (repeat' split) <;> (try dsimp only) <;> (repeat' split) <;> simp [hr]

@[simp] theorem State.raised_conflict (g : Seg) (a : Address) (hr : Raised u s.au) :
    Raised u (s.conflict g a).au := by
  unfold State.conflict; (try dsimp only); (repeat' split) <;> (try dsimp only) <;> (repeat' split) <;> simp [hr]

@[simp] theorem State.raised_learn (g : Seg) (a : Address) (hr : Raised u s.au) :
    Raised u (s.learn g a).au := by
  unfold State.learn; (try dsimp only); (repeat' split) <;> (try dsimp only) <;> (repeat' split) <;> simp [hr]

@[simp] theorem State.raised_ageEntry (a : Address) (hr : Raised u s.au) :
    Raised u (s.ageEntry a).au := by
  unfold State.ageEntry; (try dsimp only); (repeat' split) <;> (try dsimp only) <;> (repeat' split) <;> simp [hr]

@[simp] theorem State.raised_clearEntry (a : Address) (hr : Raised u s.au) :
    Raised u (s.clearEntry a).au := by
  unfold State.clearEntry; (try dsimp only); (repeat' split) <;> (try dsimp only) <;> (repeat' split) <;> simp [hr]

@[simp] theorem State.raised_vacatePrinter (a : Address) (hr : Raised u s.au) :
    Raised u (s.vacatePrinter a).au := by
  unfold State.vacatePrinter; (try dsimp only); (repeat' split) <;> (try dsimp only) <;> (repeat' split) <;> simp [hr]

@[simp] theorem State.raised_makePrinter (a : Address) (hr : Raised u s.au) :
    Raised u (s.makePrinter a).au := by
  unfold State.makePrinter; (try dsimp only); (repeat' split) <;> (try dsimp only) <;> (repeat' split) <;> simp [hr]

@[simp] theorem State.raised_writeEntry (a : Address) (l : Location) (x : StandIn) (hr : Raised u s.au) :
    Raised u (s.writeEntry a l x).au := by
  unfold State.writeEntry; (try dsimp only); (repeat' split) <;> (try dsimp only) <;> (repeat' split) <;> simp [hr]

@[simp] theorem State.raised_ageAll (hr : Raised u s.au) :
    Raised u (s.ageAll).au := by
  unfold State.ageAll; exact raised_foldl (fun t o h => t.raised_ageEntry o h) _ s hr

@[simp] theorem State.raised_probeOutcome (p : Probe) (b : Bool) (hr : Raised u s.au) :
    Raised u (s.probeOutcome p b).au := by
  unfold State.probeOutcome; (try dsimp only); (repeat' split) <;> (try dsimp only) <;> (repeat' split) <;> simp [hr]

@[simp] theorem State.raised_assessSegment (hr : Raised u s.au) :
    Raised u (s.assessSegment).au := by
  unfold State.assessSegment; (try dsimp only); (repeat' split) <;> (try dsimp only) <;> (repeat' split) <;> simp [hr]

@[simp] theorem State.raised_assessPort (n : PortNo) (hr : Raised u s.au) :
    Raised u (s.assessPort n).au := by
  unfold State.assessPort; (try dsimp only); (repeat' split) <;> (try dsimp only) <;> (repeat' split) <;> simp [hr]

@[simp] theorem State.raised_probeExpiry (hr : Raised u s.au) :
    Raised u (s.probeExpiry).au := by
  unfold State.probeExpiry; dsimp only
  refine raised_foldl (fun t o h => t.raised_assessPort o h) _ _ ?_
  dsimp only; split <;> simp [hr]

@[simp] theorem State.raised_portEvidence (n : PortNo) (hr : Raised u s.au) :
    Raised u (s.portEvidence n).au := by
  unfold State.portEvidence; (try dsimp only); (repeat' split) <;> (try dsimp only) <;> (repeat' split) <;> simp [hr]

@[simp] theorem State.raised_armWatch (g : Seg) (a : Address) (hr : Raised u s.au) :
    Raised u (s.armWatch g a).au := by
  unfold State.armWatch; (try dsimp only); (repeat' split) <;> (try dsimp only) <;> (repeat' split) <;> simp [hr]

@[simp] theorem State.raised_resolveWatch (g : Seg) (a : Address) (hr : Raised u s.au) :
    Raised u (s.resolveWatch g a).au := by
  unfold State.resolveWatch; (try dsimp only); (repeat' split) <;> (try dsimp only) <;> (repeat' split) <;> simp [hr]

@[simp] theorem State.raised_forwardNow (g : Seg) (k : BurstKind) (a : Address) (q : Nat) (hr : Raised u s.au) :
    Raised u (s.forwardNow g k a q).au := by
  unfold State.forwardNow; (try dsimp only); (repeat' split) <;> (try dsimp only) <;> (repeat' split) <;> simp [hr]

@[simp] theorem State.raised_holdForward (k : BurstKind) (a : Address) (hr : Raised u s.au) :
    Raised u (s.holdForward k a).au := by
  unfold State.holdForward; (try dsimp only); (repeat' split) <;> (try dsimp only) <;> (repeat' split) <;> simp [hr]

@[simp] theorem State.raised_forwardToB (k : BurstKind) (a : Address) (q : Nat) (hr : Raised u s.au) :
    Raised u (s.forwardToB k a q).au := by
  unfold State.forwardToB; (try dsimp only); (repeat' split) <;> (try dsimp only) <;> (repeat' split) <;> simp [hr]

@[simp] theorem State.raised_forwardToA (k : BurstKind) (a : Address) (b : Bool) (q : Nat) (hr : Raised u s.au) :
    Raised u (s.forwardToA k a b q).au := by
  unfold State.forwardToA; (try dsimp only); (repeat' split) <;> (try dsimp only) <;> (repeat' split) <;> simp [hr]

@[simp] theorem State.raised_probeSees (a : Address) (hr : Raised u s.au) :
    Raised u (s.probeSees a).au := by
  unfold State.probeSees; (try dsimp only); (repeat' split) <;> (try dsimp only) <;> (repeat' split) <;> simp [hr]

@[simp] theorem State.raised_addressTaken (g : Seg) (k : BurstKind) (a : Address) (q : Nat) (hr : Raised u s.au) :
    Raised u (s.addressTaken g k a q).au := by
  unfold State.addressTaken; (try dsimp only); (repeat' split) <;> (try dsimp only) <;> (repeat' split) <;>
    first
    | (simp [hr]; done)
    | exact State.raised_forwardToA _ _ _ _ _ (State.raised_probeSees _ _ (State.raised_resolveWatch _ _ _ (by simp [hr])))

@[simp] theorem State.raised_validBurst (g : Seg) (k : BurstKind) (a : Address) (b : List Byte) (hr : Raised u s.au) :
    Raised u (s.validBurst g k a b).au := by
  unfold State.validBurst; (try dsimp only); (repeat' split) <;> (try dsimp only) <;> (repeat' split) <;> simp [hr]

@[simp] theorem State.raised_applyVerdict (g : Seg) (r : TrunkRx) (v : Verdict) (hr : Raised u s.au) :
    Raised u (s.applyVerdict g r v).au := by
  unfold State.applyVerdict; (try dsimp only); (repeat' split) <;> (try dsimp only) <;> (repeat' split) <;> simp [hr]

@[simp] theorem State.raised_probeReplyEnds (g : Seg) (b : Bool) (hr : Raised u s.au) :
    Raised u (s.probeReplyEnds g b).au := by
  unfold State.probeReplyEnds; (try dsimp only); (repeat' split) <;> (try dsimp only) <;> (repeat' split) <;> simp [hr]

@[simp] theorem State.raised_burstEnds (g : Seg) (i : Bool) (hr : Raised u s.au) :
    Raised u (s.burstEnds g i).au := by
  unfold State.burstEnds; (try dsimp only); (repeat' split) <;> (try dsimp only) <;> (repeat' split) <;> simp [hr]

@[simp] theorem State.raised_armAfterCopy (g : Seg) (c : Copy) (hr : Raised u s.au) :
    Raised u (s.armAfterCopy g c).au := by
  unfold State.armAfterCopy; (try dsimp only); (repeat' split) <;> (try dsimp only) <;> (repeat' split) <;> simp [hr]

@[simp] theorem State.raised_cutCopy (g : Seg) (hr : Raised u s.au) :
    Raised u (s.cutCopy g).au := by
  unfold State.cutCopy; (try dsimp only); (repeat' split) <;> (try dsimp only) <;> (repeat' split) <;> simp [hr]

@[simp] theorem State.raised_chargeJabber (g : Seg) (hr : Raised u s.au) :
    Raised u (s.chargeJabber g).au := by
  unfold State.chargeJabber; (try dsimp only); (repeat' split) <;> (try dsimp only) <;> (repeat' split) <;> simp [hr]

@[simp] theorem State.raised_jabbers (g : Seg) (hr : Raised u s.au) :
    Raised u (s.jabbers g).au := by
  unfold State.jabbers; (try dsimp only); (repeat' split) <;> (try dsimp only) <;> (repeat' split) <;>
    first
    | (simp [hr]; done)
    | exact (State.takeUpBoth_au _).symm ▸
        State.raised_probeReplyEnds _ _ _ (State.raised_chargeJabber _ _ (by simp [hr]))

@[simp] theorem State.raised_copyEnds (g : Seg) (c : Copy) (hr : Raised u s.au) :
    Raised u (s.copyEnds g c).au := by
  unfold State.copyEnds; (try dsimp only); (repeat' split) <;> (try dsimp only) <;> (repeat' split) <;> simp [hr]

@[simp] theorem State.raised_transmitterEnds (g : Seg) (hr : Raised u s.au) :
    Raised u (s.transmitterEnds g).au := by
  unfold State.transmitterEnds; (try dsimp only); (repeat' split) <;> (try dsimp only) <;> (repeat' split) <;> simp [hr]

@[simp] theorem State.raised_printFrame (n : PortNo) (k : Byte) (p : List Byte) (hr : Raised u s.au) :
    Raised u (s.printFrame n k p).au := by
  unfold State.printFrame; (try dsimp only); (repeat' split) <;> (try dsimp only) <;> (repeat' split) <;> simp [hr]

@[simp] theorem State.raised_goodFrame (n : PortNo) (k : Byte) (p : List Byte) (hr : Raised u s.au) :
    Raised u (s.goodFrame n k p).au := by
  unfold State.goodFrame; (try dsimp only); (repeat' split) <;> (try dsimp only) <;> (repeat' split) <;> simp [hr]

@[simp] theorem State.raised_applyFrame (n : PortNo) (r : PortRx) (v : FrameVerdict) (hr : Raised u s.au) :
    Raised u (s.applyFrame n r v).au := by
  unfold State.applyFrame; (try dsimp only); (repeat' split) <;> (try dsimp only) <;> (repeat' split) <;> simp [hr]

@[simp] theorem State.raised_charError (n : PortNo) (e : Bool) (hr : Raised u s.au) :
    Raised u (s.charError n e).au := by
  unfold State.charError; (try dsimp only); (repeat' split) <;> (try dsimp only) <;> (repeat' split) <;> simp [hr]

@[simp] theorem State.raised_frameEvent (n : PortNo) (v : FrameVerdict) (hr : Raised u s.au) :
    Raised u (s.frameEvent n v).au := by
  unfold State.frameEvent; (try dsimp only); (repeat' split) <;> (try dsimp only) <;> (repeat' split) <;> simp [hr]

@[simp] theorem State.raised_frameEnds (n : PortNo) (r : PortRx) (o : Bool) (c : Byte) (e : Bool) (hr : Raised u s.au) :
    Raised u (s.frameEnds n r o c e).au := by
  unfold State.frameEnds
  exact State.raised_frameEvent _ _ _ (State.raised_charError _ _ _ (State.raised_applyFrame _ _ _ _ (by simp [hr])))

@[simp] theorem State.raised_frameGoesOn (n : PortNo) (r : PortRx) (e : Bool) (hr : Raised u s.au) :
    Raised u (s.frameGoesOn n r e).au := by
  unfold State.frameGoesOn; (try dsimp only); (repeat' split) <;> (try dsimp only) <;> (repeat' split) <;> simp [hr]

@[simp] theorem State.raised_portCharacter (n : PortNo) (v : Byte) (e : Bool) (hr : Raised u s.au) :
    Raised u (s.portCharacter n v e).au := by
  unfold State.portCharacter; (try dsimp only); (repeat' split) <;> (try dsimp only) <;> (repeat' split) <;> simp [hr]

@[simp] theorem State.raised_gapExpires (n : PortNo) (hr : Raised u s.au) :
    Raised u (s.gapExpires n).au := by
  unfold State.gapExpires; (try dsimp only); (repeat' split) <;> (try dsimp only) <;> (repeat' split) <;> simp [hr]

@[simp] theorem State.raised_breakBegins (n : PortNo) (hr : Raised u s.au) :
    Raised u (s.breakBegins n).au := by
  unfold State.breakBegins; (try dsimp only); (repeat' split) <;> (try dsimp only) <;> (repeat' split) <;> simp [hr]

@[simp] theorem State.raised_enablePort (n : PortNo) (hr : Raised u s.au) :
    Raised u (s.enablePort n).au := by
  unfold State.enablePort; (try dsimp only); (repeat' split) <;> (try dsimp only) <;> (repeat' split) <;> simp [hr]

@[simp] theorem State.raised_stopPort (n : PortNo) (hr : Raised u s.au) :
    Raised u (s.stopPort n).au := by
  unfold State.stopPort; (try dsimp only); (repeat' split) <;> (try dsimp only) <;> (repeat' split) <;> simp [hr]

@[simp] theorem State.raised_evaluateAll (l : List ObjectId) (hr : Raised u s.au) :
    Raised u (s.evaluateAll l).au := by
  unfold State.evaluateAll; exact raised_foldl (fun t o h => t.raised_evaluate o h) _ s hr

@[simp] theorem State.raised_forceIsolate (o : ObjectId) (hr : Raised u s.au) :
    Raised u (s.forceIsolate o).au := by
  unfold State.forceIsolate; (try dsimp only); (repeat' split) <;> (try dsimp only) <;> (repeat' split) <;> simp [hr]

@[simp] theorem State.raised_setMayIsolate (o : ObjectId) (b : Bool) (hr : Raised u s.au) :
    Raised u (s.setMayIsolate o b).au := by
  unfold State.setMayIsolate; (try dsimp only); (repeat' split) <;> (try dsimp only) <;> (repeat' split) <;> simp [hr]

@[simp] theorem State.raised_decay (o : ObjectId) (hr : Raised u s.au) :
    Raised u (s.decay o).au := by
  unfold State.decay; (try dsimp only); (repeat' split) <;> (try dsimp only) <;> (repeat' split) <;> simp [hr]

end Sys2Proof.Machine
end

