-- ==== Sys2Proof/Laws/Alerts.lean ====
section
/-! SUPPORT. What handing an occurrence to the Alert Unit does (R161), and the primary's submissions and replies as its last
users. -/

namespace Sys2Proof.Machine

/-! ### The steps of R161 -/

theorem numbered_append (q : List Report) (r : Report) (next : Byte) (h : numbered q next = true)
    (hr : r.sequence = next) : numbered (q ++ [r]) (next + 1) = true := by
  subst hr
  induction q with
  | nil => simp [numbered]
  | cons a q ih =>
    cases q with
    | nil => simpa [numbered] using h
    | cons b q =>
      simp only [numbered, Bool.and_eq_true] at h
      simp only [List.cons_append, numbered, Bool.and_eq_true]
      exact ⟨h.1, ih h.2⟩

theorem numbered_tail (r : Report) (q : List Report) (next : Byte) (h : numbered (r :: q) next = true) :
    numbered q next = true := by
  cases q with
  | nil => rfl
  | cons b q => simp only [numbered, Bool.and_eq_true] at h; exact h.2

/-- The queue stays within 16 records with consecutive numbers. -/
theorem AlertUnit.take_queue (u : AlertUnit) (c : Cause) (n : Nat) (d : Detail)
    (h : u.queue.length ≤ 16 ∧ numbered u.queue u.nextSequence = true) :
    (u.take c n d).queue.length ≤ 16 ∧ numbered (u.take c n d).queue (u.take c n d).nextSequence = true := by
  unfold AlertUnit.take
  split
  · exact h
  · split
    · next hl => exact ⟨by simp; omega, numbered_append _ _ _ h.2 rfl⟩
    · exact h

theorem or_and_absorb {w : Nat} (x b : BitVec w) : (x ||| b) &&& b = b := by
  ext i hi
  simp only [BitVec.getElem_and, BitVec.getElem_or]
  cases x[i] <;> cases b[i] <;> rfl

/-- The flag of the cause is latched. -/
theorem AlertUnit.take_flag (u : AlertUnit) (c : Cause) (n : Nat) (d : Detail) :
    (u.take c n d).flags &&& c.bit = c.bit := by
  unfold AlertUnit.take
  split
  · exact or_and_absorb _ _
  · split <;> exact or_and_absorb _ _

/-- The report law outlasts any occurrences. -/
theorem ReportLaw.of_raised {s t : State} (h : Raised s.au t.au) (hs : ReportLaw s) : ReportLaw t := by
  unfold ReportLaw at *
  generalize s.au = u at h hs
  generalize t.au = v at h
  induction h with
  | refl => exact hs
  | take c n d _ ih => exact AlertUnit.take_queue _ c n d ih

theorem Raised.trans {u v w : AlertUnit} (h : Raised u v) (h' : Raised v w) : Raised u w := by
  induction h' with
  | refl => exact h
  | take c n d _ ih => exact ih.take c n d

/-- A flag that is latched stays so. -/
theorem Raised.flag {u v : AlertUnit} (h : Raised u v) (c : Cause) (hc : u.flags &&& c.bit = c.bit) :
    v.flags &&& c.bit = c.bit := by
  have key (x y b : BitVec 9) (h : x &&& b = b) : (x ||| y) &&& b = b := by
    have hx : (x ||| y) &&& b = (x &&& b) ||| (y &&& b) := by
      ext i hi
      simp only [BitVec.getElem_and, BitVec.getElem_or]
      cases x[i] <;> cases y[i] <;> cases b[i] <;> rfl
    rw [hx, h]
    ext i hi
    simp only [BitVec.getElem_and, BitVec.getElem_or]
    cases y[i] <;> cases b[i] <;> rfl
  induction h with
  | refl => exact hc
  | take c' n d _ ih =>
    unfold AlertUnit.take
    split
    · exact key _ _ _ ih
    · split
      · exact key _ _ _ ih
      · rw [BitVec.or_assoc]; exact key _ _ _ ih

/-! ### The primary's submissions and the start point -/

theorem State.primaryAdmit_raised {s t : State} {u : AlertUnit} (text : List Byte) (hr : Raised u s.au)
    (h : s.primaryAdmit text = some t) : Raised u t.au := by
  unfold State.primaryAdmit at h
  (repeat' split at h)
  · cases h
  · cases h; simp [hr]
  · cases h
  · dsimp only at h
    split at h <;> cases h <;> simp [hr]

theorem State.raised_submitPrimary {s : State} {u : AlertUnit} (m : List Byte) (hr : Raised u s.au) :
    Raised u (s.submitPrimary m).2.au := by
  unfold State.submitPrimary
  split
  · split <;> simp [hr]
  · dsimp only
    split
    · exact hr
    · next t h =>
      have h1 : Raised u t.au := by
        split at h
        · cases h; exact hr
        · exact s.primaryAdmit_raised _ hr h
      dsimp only
      split <;> simp [h1]

theorem State.raised_decideReply {s : State} {u : AlertUnit} (t : Taking) (hr : Raised u s.au) :
    Raised u (s.decideReply t).2.au := by
  unfold State.decideReply
  (repeat' split) <;> simp [hr]
  all_goals
    next h => exact (congrArg (fun x => Raised u x.2.au) h).mp (s.raised_submitPrimary _ hr)

theorem State.raised_startReply {s : State} {u : AlertUnit} (t : Taking) (hr : Raised u s.au) :
    Raised u (s.startReply t).au := by
  have h := s.raised_decideReply t hr
  unfold State.startReply
  split <;> simp_all

end Sys2Proof.Machine
end

