-- ==== Sys2Proof/Laws/Bits.lean ====
section
/-! SUPPORT. What the bits on the lines are: their number and their order, sent and received (R62, R182, R184). -/

namespace Sys2Proof.Machine

/-- Bit i of a byte is sent in place i. -/
theorem valueBits_eq_ofFn (b : Byte) : valueBits b = List.ofFn fun i : Fin 8 => b.getLsbD i := by
  rfl

@[simp] theorem valueBits_length (b : Byte) : (valueBits b).length = 8 := by simp [valueBits]

@[simp] theorem trunkBits_length (ch : TrunkChar) : (trunkBits ch).length = 9 := by simp [trunkBits]

@[simp] theorem Parity.bits_length (p : Parity) (b : Byte) : (p.bits b).length = if p = .none then 0 else 1 := by
  cases p <;> rfl

/-- A receiver groups eight bits into the byte that was sent. -/
@[simp] theorem bitsValue_valueBits (b : Byte) : bitsValue (valueBits b) = b := by revert b; decide +kernel

@[simp] theorem PortProfile.samples_eq (p : PortProfile) : p.samples = if p.parity = .none then 10 else 11 := by
  cases h : p.parity <;> simp [PortProfile.samples, Parity.width, h]

/-- What a port receiver makes of the levels of one character, whatever follows its first stop bit (R62). -/
theorem PortProfile.charOf_levels (p : PortProfile) (v : Byte) (start stop parity : Bool) (rest : List Bool) :
    p.charOf (start :: valueBits v ++ (if p.parity = .none then [] else [parity]) ++ stop :: rest) =
      ⟨v, p.parity != .none && parity, stop⟩ := by
  cases h : p.parity <;> simp [PortProfile.charOf, Parity.width, h, List.getElem?_append]

/-- A port receiver takes the character that a transmitter of its profile sends, without error (R62, R64). -/
theorem PortProfile.charOf_charBits {p : PortProfile} (hs : 1 ≤ p.stopBits) (v : Byte) :
    (p.charOf (p.charBits v)).value = v ∧
      characterError p.parity v (p.charOf (p.charBits v)).parityBit (p.charOf (p.charBits v)).stopBit = false := by
  obtain ⟨k, hk⟩ : ∃ k, p.stopBits = k + 1 := ⟨p.stopBits - 1, by omega⟩
  have h := p.charOf_levels v space mark (match p.parity with | .odd => !oddOnes v | _ => oddOnes v) (List.replicate k mark)
  have hb : p.charBits v = space :: valueBits v ++ (if p.parity = .none then [] else
      [match p.parity with | .odd => !oddOnes v | _ => oddOnes v]) ++ mark :: List.replicate k mark := by
    cases hp : p.parity <;> simp [PortProfile.charBits, Parity.bits, hp, hk, List.replicate_succ]
  rw [hb, h]
  cases hp : p.parity <;> simp [characterError, parityError, mark]

/-- PD0 to PD7 carry the bits of the character in their order (R109). -/
theorem Engine.dataLines_eq_ofFn (e : Engine) : e.dataLines = List.ofFn fun i : Fin 8 => e.pd.getLsbD i := rfl

/-- The strobe of PSTB_N goes with the handshake, which a reset ends (R109, R127). -/
@[simp] theorem Engine.strobeLine_atReset (pgnt : Bool) : (Engine.atReset pgnt).strobeLine = [true] := rfl

@[simp] theorem Engine.strobeLine_restarted (e : Engine) : e.restarted.strobeLine = [true] := rfl

@[simp] theorem Engine.strobeLine_letGo (e : Engine) : e.letGo.strobeLine = [true] := rfl

/-- What PSTB_N has carried is determined by the handshake. -/
theorem Engine.strobeLine_congr {e e' : Engine} (h : e'.handshake = e.handshake) : e'.strobeLine = e.strobeLine := by
  simp only [Engine.strobeLine, h]

/-- The line stands deasserted after every level it has had: it is at rest but for the pulse (R109). -/
theorem Engine.strobeLine_getLast? (e : Engine) : e.strobeLine.getLast? = some true := by
  cases h : e.handshake <;> simp [Engine.strobeLine, h]

/-- After a hard reset the link takes no byte before the next START, and acknowledges none (R181). -/
@[simp] theorem AdminLink.takeIdleByte_atReset (straps : BitVec 2) (b : Byte) :
    (AdminLink.atReset straps).takeIdleByte b = .atReset straps := rfl

@[simp] theorem AdminLink.sdaOfTakenByte_atReset (straps : BitVec 2) :
    (AdminLink.atReset straps).sdaOfTakenByte = List.replicate 9 true := rfl

@[simp] theorem AdminLink.commandOfBits_atReset (straps : BitVec 2) (bits : List Bool) (ninth : Bool) :
    (AdminLink.atReset straps).commandOfBits bits ninth = .addressByte (sdaByte bits) := rfl

/-- A byte of a transaction from which the part takes nothing (R168). -/
theorem AdminLink.takeIdleByte_ignoring {al : AdminLink} (h : al.ignoring = true) (b : Byte) :
    al.takeIdleByte b = { al with acknowledged := false } := by simp [AdminLink.takeIdleByte, h]

/-- The address byte after a START (R168). -/
theorem AdminLink.takeIdleByte_started {al : AdminLink} (h : al.ignoring = false) (b : Byte) :
    al.takeIdleByte b = al.takeAddress b := by simp [AdminLink.takeIdleByte, h]

/-- On SDA the most significant bit comes first (R168). -/
theorem sdaBits_eq_ofFn (b : Byte) : sdaBits b = List.ofFn fun i : Fin 8 => b.getMsbD i := by
  simp [sdaBits, valueBits, BitVec.getMsbD, List.range, List.range.loop]

/-- A receiver on the bus groups the bits into the byte that was sent. -/
@[simp] theorem sdaByte_sdaBits (b : Byte) : sdaByte (sdaBits b) = b := by revert b; decide +kernel

@[simp] theorem sdaBits_length (b : Byte) : (sdaBits b).length = 8 := by simp [sdaBits]

/-- The line of a segment is determined by its driver enable and its characters. -/
theorem State.trunkLine_congr {s t : State} {g : Seg} (hd : t.drives g = s.drives g)
    (hl : (t.seg g).line = (s.seg g).line) : t.trunkLine g = s.trunkLine g := by
  simp only [State.trunkLine, hd, hl]

/-- What STXn carries is determined by the transmitter and the profile. -/
theorem Port.deskLine_congr {p q : Port} (ht : q.tx = p.tx) (hp : q.profile = p.profile) : q.deskLine = p.deskLine := by
  simp only [Port.deskLine, ht, hp]

end Sys2Proof.Machine
end

