-- ==== Sys2Proof/Laws/Boundary.lean ====
section
/-! SUPPORT. What the segments do at a burst boundary, said once (R35, R40): which changes stay held back and which profiles are
taken up. -/

namespace Sys2Proof.Machine

variable {s : State}

theorem State.atBoundary_congr {t : State} {g : Seg} (ha : (t.seg g).activity = (s.seg g).activity)
    (ht : (t.seg g).tx = (s.seg g).tx) (hc : t.noCopy = s.noCopy) : t.atBoundary g = s.atBoundary g := by
  simp only [State.atBoundary, ha, ht, hc]

/-- A segment as it stands once a burst boundary has been reached or not: a change held back is let go at a boundary, and a profile
is taken up there while nothing is held back. -/
def Segment.boundaryPassed (x : Segment) (boundary held : Bool) (written : TrunkProfile) : Segment :=
  { x with
    changeHeld := x.changeHeld && !boundary
    profile := if boundary && !held then written else x.profile }

/-- A change is still held back after the segments at a boundary have let it go. -/
def State.stillHeld (s : State) : Bool :=
  s.ti.segA.changeHeld && !s.atBoundary .a || s.ti.segB.changeHeld && !s.atBoundary .b

/-- All that the taking up of a profile does. -/
theorem State.takeUpBoth_eq : s.takeUpBoth = { s with ti := { s.ti with
    segA := s.ti.segA.boundaryPassed (s.atBoundary .a) s.stillHeld s.ti.written
    segB := s.ti.segB.boundaryPassed (s.atBoundary .b) s.stillHeld s.ti.written } } := by
  obtain ⟨sd, ⟨w, a, b, gate⟩, pr, ports, sm, pe, hm, au, al, draws, pending⟩ := s
  obtain ⟨ap, ah, ar, aa, at_, al_, ac, aw⟩ := a
  obtain ⟨bp, bh, br, ba, bt, bl, bc, bw⟩ := b
  by_cases hA : (aa.isNone && at_ == .idle && (ac.isNone && bc.isNone)) = true <;>
    by_cases hB : (ba.isNone && bt == .idle && (ac.isNone && bc.isNone)) = true <;>
      cases ah <;> cases bh <;>
        simp [State.takeUpBoth, State.reachBoundary, State.takeUp, State.changeHeld, State.stillHeld, State.atBoundary,
          State.noCopy, Segment.boundaryPassed, State.seg, State.setSeg, hA, hB]

@[simp] theorem State.takeUpBoth_ti_written : s.takeUpBoth.ti.written = s.ti.written := by rw [State.takeUpBoth_eq]

@[simp] theorem State.takeUpBoth_ti_gateB : s.takeUpBoth.ti.gateB = s.ti.gateB := by rw [State.takeUpBoth_eq]

theorem State.seg_takeUpBoth (g : Seg) :
    s.takeUpBoth.seg g = (s.seg g).boundaryPassed (s.atBoundary g) s.stillHeld s.ti.written := by
  rw [State.takeUpBoth_eq]; cases g <;> rfl

/-- All that the writing of a profile does. -/
theorem State.writeTrunkProfile_eq (p : TrunkProfile) : s.writeTrunkProfile p = { s with ti := { s.ti with
    written := p
    segA := { s.ti.segA with changeHeld := !s.noCopy, profile := if s.atBoundary .a then p else s.ti.segA.profile }
    segB := { s.ti.segB with changeHeld := !s.noCopy, profile := if s.atBoundary .b then p else s.ti.segB.profile } } } := by
  rw [State.writeTrunkProfile, State.takeUpBoth_eq]
  by_cases h : s.noCopy = true
  · simp only [State.noCopy, Bool.and_eq_true] at h
    simp [State.stillHeld, State.atBoundary, State.noCopy, Segment.boundaryPassed, State.seg, h]
  · simp only [Bool.not_eq_true] at h
    have h' := h
    simp only [State.noCopy] at h'
    simp [State.stillHeld, State.atBoundary, State.noCopy, Segment.boundaryPassed, State.seg, h']

end Sys2Proof.Machine
end

