-- ==== Sys2Proof/Laws/Due.lean ====
section
/-! SUPPORT. What the engine does when a character falls due and when it leaves a stall, and what the commitment of a filled reply
does, each said once (R52, R116, R119 to R122). -/

namespace Sys2Proof.Machine

variable {s : State} {e : Engine} {n : PortNo}

/-! ### The engine -/

/-- The condition that the engine reads is the one that exists, with its reason. -/
theorem Engine.condition_eq : e.condition = if e.hindered = true then some e.reason else none := by
  cases hp : e.ppe <;> cases hf : e.pfltN <;> simp [Engine.condition, Engine.hindered, Engine.reason, hp, hf]

/-- Without a condition, the printer is ready when it is selected. -/
theorem Engine.ready_eq : e.ready = (e.psel && !e.hindered) := by
  cases hs : e.psel <;> cases hp : e.ppe <;> cases hf : e.pfltN <;> simp [Engine.ready, Engine.hindered, hs, hp, hf]

/-- All that a stall does. -/
theorem State.stall_eq (r : StallReason) : s.stall r = { s with pe := s.pe.stalledFor r s.pe.phase } := rfl

/-- The character due is the one at the print position, or the end-of-copy form feed. -/
theorem State.dueCharacter_eq {j : Job} (h : s.printing? = some j) : s.dueCharacter = s.dueAt s.pe.phase j.position := by
  unfold State.dueCharacter State.dueAt
  cases s.pe.phase <;> cases hp : j.position <;> simp [h, hp, State.characterAt, formFeed]

/-- All that happens when a character becomes due in RUNNING. -/
theorem State.characterDue_eq (h : s.pe.state = .running) : s.characterDue =
    { s with pe := (if s.pe.hindered = true then s.pe.stalledFor s.pe.reason s.pe.phase
                    else s.pe.runsWith s.pe.phase s.dueCharacter) } := by
  unfold State.characterDue
  rw [Engine.condition_eq]
  by_cases hh : s.pe.hindered = true
  · simp [hh, State.stall_eq]
  · have hs : (s.mapPe fun e => { e with handshake := .wait, ackTimer := some (1000 * e.profile.ackTimeout) }).pe.mayStrobe =
        s.pe.strobes := by
      have hr := @Engine.ready_eq s.pe
      simp only [Engine.ready, hh] at hr
      simp only [Engine.mayStrobe, State.mapPe, Engine.ready, Engine.strobes, h, hr]
      simp [Bool.and_assoc]
    simp only [hh, State.tryStrobe, hs]
    cases hb : s.pe.strobes
    · simp [hb, State.mapPe, Engine.runsWith, ← h]
    · simp only [State.mapPe, Engine.runsWith, hb, ← h]
      rfl

/-- All that the end of a stall does, once the position stands where printing goes on. -/
theorem State.resume_eq : s.resume = { s with pe := s.pe.resumed s.pe.phase s.dueCharacter } := by
  unfold State.resume Engine.resumed
  by_cases hg : s.pe.shared = true ∧ s.pe.pgnt = false
  · simp [hg, State.stall_eq]
  · have hb : (s.pe.shared && !s.pe.pgnt) = false := by simpa using hg
    rw [hb, if_neg hg]
    have hd : ({ s with pe := { s.pe with state := .running } } : State).dueCharacter = s.dueCharacter := rfl
    simp only [Bool.false_eq_true, if_false]
    rw [State.characterDue_eq (by rfl), State.mapPe, hd]
    by_cases hh : s.pe.hindered = true <;>
      simp [hh, show ({ s.pe with state := .running } : Engine).hindered = s.pe.hindered from rfl, Engine.stalledFor,
        Engine.runsWith, Engine.reason, Engine.strobes]

/-! ### A filled reply (R52) -/

theorem State.fillCommits_early {c : ReplyCode} {m : List Byte} :
    FillCommits s (match s.fillingFor n with | some k => s.commitEarly k c m | none => s) n c m := by
  refine ⟨fun h => ?_, fun k h => ?_⟩
  · simp [h]
  · simp only [h]
    exact ⟨rfl, rfl, _, Nat.min_le_right .., rfl⟩

/-- A frame that ends without being appended commits the fill of its port to NIL. -/
theorem State.fillCommits_fillNil : FillCommits s (s.fillNil n) n .nil [] := by
  have h := @State.fillCommits_early s n .nil []
  unfold State.fillNil
  split <;> simp_all

/-- A port that leaves ONLINE commits its fill to OFFLINE. -/
theorem State.fillCommits_fillOffline : FillCommits s (s.fillOffline n) n .offline [] := by
  have h := @State.fillCommits_early s n .offline []
  unfold State.fillOffline
  split <;> simp_all

/-- Only the reply context, the trunk and the count of draws are read of the state after. -/
theorem FillCommits.congr {t u : State} {c : ReplyCode} {m : List Byte} (h : FillCommits s t n c m) (hp : u.pr = t.pr)
    (ht : u.ti = t.ti) (hd : u.draws = t.draws) : FillCommits s u n c m := by
  unfold FillCommits at *
  rwa [hp, ht, hd]

end Sys2Proof.Machine
end

