-- ==== Sys2Proof/Laws/Step.lean ====
section
/-! SUPPORT. How a law of the part is shown to outlast every step: one clause for each thing that a step can do to the
blocks, with the conditions under which it does it. -/

namespace Sys2Proof.Machine

/-- The clauses that a property of the blocks must meet to outlast every step. -/
structure Kept (I : State → Prop) : Prop where
  link : ∀ s al, I s → I { s with al }
  rest : ∀ s q, I s → I { s with pending := q }
  tick : ∀ s, I s → I s.tick
  restartBlocks : ∀ s, I s → I s.restartBlocks
  restartTraffic : ∀ s, I s → I s.restartTraffic
  writeEntry : ∀ s a l x, l ≠ .printer → s.takenByOther a l = false →
    (l = (s.entry a).location ∨ s.onBusyPort a = false) → I s → I (s.writeEntry a l x)
  clearEntry : ∀ s a, s.onBusyPort a = false → I s → I (s.clearEntry a)
  makePrinter : ∀ s a, (s.entry a).location.isPort = false → I s → I (s.makePrinter a)
  setQuota : ∀ s src n, n ≤ 512 → I s → I (s.setQuota src n)
  trunkProfile : ∀ s p n, I s →
    I ({ s with sd := { s.sd with ageLimit := n } }.writeTrunkProfile p)
  portProfile : ∀ s n p, (s.port n).state = .standby → I s → I (s.mapPort n fun q => { q with profile := p })
  enablePort : ∀ s n, (s.port n).state = .standby → I s → I (s.enablePort n)
  stopPort : ∀ s n, I s → I (s.stopPort n)
  limits : ∀ s (l : HealthLimits), l.readmit < l.suspect → l.suspect < l.isolate → l.isolate ≤ 1023 → I s →
    I ({ s with hm := s.hm.setLimits l }.evaluateAll allObjects)
  weights : ∀ s w, I s → I { s with hm := { s.hm with weights := w } }
  forceIsolate : ∀ s o, s.mayForceIsolate o = true → I s → I (s.forceIsolate o)
  clearKeeping : ∀ s o, I s → I (s.clearKeeping o)
  setMayIsolate : ∀ s o f, o ≠ .segment .a → I s → I (s.setMayIsolate o f)
  printProfile : ∀ s p t m, I s →
    I { s with pe := { s.pe with profile := p }, sm := { s.sm with idleTimeout := t, lowMark := m } }
  enableEngine : ∀ s, I s → I s.enableEngine
  disableEngine : ∀ s, I s → I s.disableEngine
  resumePrinter : ∀ s, I s → I s.resumePrinter
  holdJob : ∀ s j, s.job? j.id = some j → j.state = .queued → I s → I (s.setJobState j .held .held)
  releaseJob : ∀ s j, s.job? j.id = some j → j.state = .held → I s → I (s.setJobState j .queued .queued).offerJobs
  cancelJob : ∀ s j, s.job? j.id = some j → I s → I (s.cancelJob j)
  promote : ∀ s j, s.job? j.id = some j → I s → I (s.promote j)
  alerts : ∀ s a r, I s → I { s with au := { s.au with alerts := a, reports := r } }
  flags : ∀ s c, I s → I { s with au := { s.au with flags := s.au.flags &&& ~~~c } }
  readReport : ∀ s r q, s.au.queue = r :: q → I s → I { s with au := { s.au with queue := q } }
  second : ∀ s, I s → I { s with au := { s.au with seconds := s.au.seconds + 1, secondTimer := 1000 } }
  minute : ∀ s, I s → I { s with sd := { s.sd with minuteTimer := 60000 } }.ageAll
  activity : ∀ s g, (s.seg g).takesBits = true → I s →
    I (s.setSeg g { s.seg g with activity := some ((s.seg g).activity.getD 0) })
  syncMatch : ∀ s g r, (s.seg g).takesBits = true → (s.seg g).rx.phase = .hunt → I s →
    I (s.setSeg g { s.seg g with activity := some ((s.seg g).activity.getD 0), rx := r })
  addressTaken : ∀ s g k a q, I s → I (s.addressTaken g k a q)
  trunkCharacter : ∀ s g c, I s → I (s.characterOnTrunk g c)
  burstEnds : ∀ s g i, I s → I (s.burstEnds g i)
  idleSeen : ∀ s g, I s → I (s.idleSeen g)
  jabbers : ∀ s g, I s → I (s.jabbers g)
  startHeld : ∀ s q, I s → I (s.startHeld q)
  transmitterEnds : ∀ s g, I s → I (s.transmitterEnds g)
  pollMissExpiry : ∀ s g w, (s.seg g).watch = some w → I s →
    I ((s.setSeg g { s.seg g with watch := none }).pollMiss g w.station)
  replyStart : ∀ s t q, s.pr = .waiting t → s.ti.segA.available q = true → I s → I (s.startReply t)
  replyDeadline : ∀ s t, s.pr = .waiting t → I s → I { s with pr := .idle }
  fillExhausted : ∀ s t n, s.pr = .filling t n → I s → I (s.commit t s.fillsLeft .nil [])
  portCharacter : ∀ s n v e, I s → I (s.portCharacter n v e)
  portStartBit : ∀ s n, I s → I (s.mapPort n fun p => { p with gapHeld := true })
  gapExpires : ∀ s n, I s → I (s.gapExpires n)
  breakBegins : ∀ s n, I s → I (s.breakBegins n)
  breakEnd : ∀ s n, I s → I (s.mapPort n fun p => { p with inBreak := false })
  peerAsserted : ∀ s n t, execPeerReadyAsserted n s = .next t → I s → I t
  peerDeasserted : ∀ s n t, execPeerReadyDeasserted n s = .next t → I s → I t
  detach : ∀ s n, (s.port n).detachTimer.isSome = true → (s.port n).state = .online → I s →
    I (((s.mapPort n Port.detach).reportPort n).fillOffline n)
  frameSent : ∀ s n f, (s.port n).tx = .sending f → I s → I ((s.mapPort n fun p => p.frameSent f).finishStopping n)
  idleExpired : ∀ s j, s.job? j.id = some j → j.state = .opened → I s → I (s.idleExpired j)
  lineChanged : ∀ s l h, s.pe.line l ≠ h → I s → I ((s.lineChanged l h).reportEngine s.pe.state)
  characterTaken : ∀ s, s.pe.inAck = true → I s → I (s.characterTaken.reportEngine s.pe.state)
  characterLost : ∀ s, s.pe.state = .running → s.pe.handshake ≠ .none → I s →
    I (s.characterLost.reportEngine s.pe.state)
  grantChanged : ∀ s h, s.pe.pgnt ≠ h → I s → I ((s.grantChanged h).reportEngine s.pe.state)
  releaseExpired : ∀ s, s.pe.releaseTimer.isSome = true → I s → I (s.releaseExpired.reportEngine s.pe.state)
  decayExpiry : ∀ s, I s →
    I (allObjects.foldl State.decay { s with hm := { s.hm with decayTimer := 10 * s.hm.decayInterval } })
  probeExpiry : ∀ s, I s → I s.probeExpiry
  probeStart : ∀ s k t q, s.hm.probe = some ⟨.pending, k, t⟩ → s.probeMayStart k q = true → I s →
    I (s.startProbe ⟨.pending, k, t⟩)
  probeDeadline : ∀ s t, s.hm.probe = some ⟨.pending, .segment, t⟩ → I s →
    I (s.probeOutcome ⟨.pending, .segment, t⟩ false)
  probeWindow : ∀ s w k t, s.hm.probe = some ⟨.awaiting w, k, t⟩ → I s →
    I (s.probeOutcome ⟨.awaiting w, k, t⟩ false)

variable {I : State → Prop} {s t : State}

theorem job?_id {id : Nat} {j : Job} (h : s.job? id = some j) : j.id = id := by
  have := List.find?_some h
  simpa using this

theorem job?_self {id : Nat} {j : Job} (h : s.job? id = some j) : s.job? j.id = some j := by
  rw [job?_id h]; exact h

theorem locationOf_ne_printer {l p : Byte} {x : Location} (h : locationOf l p = some x) : x ≠ .printer := by
  unfold locationOf at h
  (repeat' split at h) <;> (try simp at h)
  · rintro rfl; cases h
  · rintro rfl; cases h
  · rintro rfl; cases h
  · obtain ⟨n, _, rfl⟩ := h; simp

theorem healthLimitsOf_spec {a b c : BitVec 16} {d e f : Byte} {l : HealthLimits}
    (h : healthLimitsOf a b c d e f = some l) :
    l.readmit < l.suspect ∧ l.suspect < l.isolate ∧ l.isolate ≤ 1023 ∧ l.suspect = a.toNat ∧ l.isolate = b.toNat ∧
      l.readmit = c.toNat ∧ l.shift = d.toNat ∧ l.decay = e.toNat ∧ l.probe = f.toNat ∧
      1 ≤ l.shift ∧ l.shift ≤ 7 ∧ 1 ≤ l.decay ∧ 1 ≤ l.probe ∧ l.probe ≤ 60 := by
  simp only [healthLimitsOf, inRange, Option.bind_eq_bind, Option.bind_eq_some_iff, Option.ite_none_right_eq_some,
    Option.some.injEq] at h
  obtain ⟨_, ⟨h1, rfl⟩, _, ⟨h2, rfl⟩, _, ⟨h3, rfl⟩, _, ⟨h4, rfl⟩, _, ⟨h5, rfl⟩, _, ⟨h6, rfl⟩, h7, h8⟩ := h
  cases h8
  exact ⟨h7.1, h7.2, h2.2, rfl, rfl, rfl, rfl, rfl, rfl, h4.1, h4.2, h5.1, h6.1, h6.2⟩

/-- A property that meets the clauses outlasts whatever a code and its argument bytes give. -/
theorem Kept.command (k : Kept I) (code : Nat) (args : List Byte) (s : State) (hs : I s) :
    I (commandOf code args s).2 := by
  revert s
  apply commandOf_cases (P := fun c => ∀ s, I s → I (c s).2)
  all_goals intros
  all_goals rename_i s hs
  · exact hs
  · unfold readEntryCommand; split <;> exact hs
  · unfold writeEntryCommand
    split
    · split
      · exact hs
      · split
        · exact hs
        · next h1 h2 =>
          refine k.writeEntry _ _ _ _ (locationOf_ne_printer ‹_›) (by simpa using h1) ?_ hs
          simp only [not_and, Bool.not_eq_true] at h2
          exact (Classical.em _).imp_right h2
    · exact hs
  · unfold clearEntryCommand
    split
    · exact hs
    · split
      · exact hs
      · exact k.clearEntry _ _ (by simp_all) hs
  · unfold setPrinterAddressCommand
    split
    · exact hs
    · split
      · exact hs
      · exact k.makePrinter _ _ (by simp_all) hs
  · unfold setQuotaCommand
    split
    · exact hs
    · split
      · exact hs
      · exact k.setQuota _ _ _ (by omega) hs
  · unfold setTrunkProfileCommand
    split
    · exact hs
    · exact k.trunkProfile _ _ _ hs
  · unfold setPortProfileCommand
    split
    · split
      · exact hs
      · exact k.portProfile _ _ _ (by simp_all) hs
    · exact hs
  · unfold portEnableCommand
    split
    · exact hs
    · split
      · exact hs
      · exact k.enablePort _ _ (by simp_all) hs
  · unfold portStandbyCommand
    split
    · exact hs
    · exact k.stopPort _ _ hs
  · unfold readPortCommand; split <;> exact hs
  · unfold setHealthLimitsCommand
    split
    · exact hs
    · next h =>
      have := healthLimitsOf_spec h
      dsimp only [accept]
      exact k.limits _ _ this.1 this.2.1 this.2.2.1 hs
  · exact k.weights _ _ hs
  · unfold readHealthCommand; (repeat' split) <;> exact hs
  · unfold forceIsolateCommand
    split
    · exact hs
    · split
      · exact k.forceIsolate _ _ ‹_› hs
      · exact hs
  · unfold forceReadmitCommand
    split
    · exact hs
    · exact k.clearKeeping _ _ hs
  · unfold setMayIsolateCommand
    split
    · split
      · split <;> exact hs
      · exact k.setMayIsolate _ _ _ ‹_› hs
    · exact hs
  · unfold setPrintProfileCommand
    split
    · exact k.printProfile _ _ _ _ hs
    · exact hs
  · exact k.enableEngine _ hs
  · exact k.disableEngine _ hs
  · exact hs
  · exact hs
  · exact onJob_keeps _ _ (fun _ _ h => h) hs
  · refine onJob_keeps _ _ (fun j hj h => ?_) hs
    split
    · exact k.holdJob _ _ (job?_self hj) ‹_› h
    all_goals exact h
  · refine onJob_keeps _ _ (fun j hj h => ?_) hs
    split
    · exact k.releaseJob _ _ (job?_self hj) ‹_› h
    all_goals exact h
  · exact onJob_keeps _ _ (fun j hj h => k.cancelJob _ _ (job?_self hj) h) hs
  · exact onJob_keeps _ _ (fun j hj h => k.promote _ _ (job?_self hj) h) hs
  · exact k.resumePrinter _ hs
  · unfold setAlertsCommand
    split
    · exact k.alerts _ _ _ hs
    · exact hs
  · unfold clearCausesCommand
    split
    · exact k.flags _ _ hs
    · exact hs
  · unfold readReportCommand
    split
    · exact hs
    · exact k.readReport _ _ _ ‹_› hs
  · unfold restartCommand
    split
    · exact hs
    · exact k.link _ _ hs
  · exact hs

/-- A property that meets the clauses outlasts the end of a transaction. -/
theorem Kept.endTransaction (k : Kept I) (hs : I s) (b : Bool) : I (s.endTransaction b) := by
  have h (u : State) (hu : I u) : I u.executeRestart := by
    unfold State.executeRestart
    split
    · exact k.link _ _ (k.restartBlocks _ hu)
    · exact k.restartTraffic _ hu
    · exact hu
  refine k.link _ _ (h _ ?_)
  split
  · exact k.link _ _ hs
  · exact hs

/-- Two bytes of a 16-bit argument give it back. -/
theorem word16_bytes (q : BitVec 16) : word16 (q.extractLsb' 8 8) (q.extractLsb' 0 8) = q := by
  unfold word16
  ext i hi
  simp only [BitVec.getElem_append, BitVec.getElem_extractLsb']
  split
  · simp [BitVec.getLsbD_eq_getElem hi]
  · have h : 8 + (i - 8) = i := by omega
    simp [h, BitVec.getLsbD_eq_getElem hi]

/-- A property that meets the clauses outlasts every command. -/
theorem Kept.exec (k : Kept I) (c : Instr) (hs : I s) (ht : exec c s = .next t) : I t := by
  have cmd {cont : Bool} {c : Command} (h : I (c s).2) : I (s.execute cont c) := k.link _ _ h
  have on (code : Nat) (args : List Byte) {c : Command} (h : commandOf code args = c) : I (c s).2 :=
    h ▸ k.command code args s hs
  cases c <;> (dsimp only [Sys2Proof.Machine.exec] at ht)
  case hardReset => cases ht; exact k.link _ _ (k.restartBlocks _ hs)
  case i2cStart => cases ht; exact k.endTransaction hs _
  case i2cStop => cases ht; exact k.endTransaction hs _
  case addressByte => cases ht; split; exacts [k.link _ _ hs, hs]
  case leadByte => cases ht; split; exacts [takeLead_keeps k.link (k.command) _ hs, hs]
  case argumentByte => cases ht; split; exacts [takeArgument_keeps k.link (k.command) _ hs, hs]
  case discardByte => cases ht; split; exacts [k.link _ _ hs, hs]
  case readByte => cases ht; split; exacts [k.link _ _ hs, hs]
  case readStatus => cases ht; exact cmd hs
  case readEntry x => cases ht; exact cmd (on 0x02 [x] rfl)
  case writeEntry a l p x => cases ht; exact cmd (on 0x03 [a, l, p, x] rfl)
  case clearEntry x => cases ht; exact cmd (on 0x04 [x] rfl)
  case setPrinterAddress x => cases ht; exact cmd (on 0x05 [x] rfl)
  case setQuota x q =>
    cases ht
    exact cmd (on 0x06 (x :: argument16 q) (congrArg (setQuotaCommand x) (word16_bytes q)))
  case setTrunkProfile r y n d f j m a =>
    cases ht
    exact cmd (on 0x08 ([r, y, n, d, f] ++ argument16 j ++ [m, a])
      (congrArg (setTrunkProfileCommand r y n d f · m a) (word16_bytes j)))
  case setPortProfile p r y x g d => cases ht; exact cmd (on 0x09 [p, r, y, x, g, d] rfl)
  case portEnable x => cases ht; exact cmd (on 0x0A [x] rfl)
  case portStandby x => cases ht; exact cmd (on 0x0B [x] rfl)
  case readPort x => cases ht; exact cmd (on 0x0C [x] rfl)
  case setHealthLimits a b c d e f =>
    cases ht
    refine cmd (on 0x10 (argument16 a ++ argument16 b ++ argument16 c ++ [d, e, f]) ?_)
    show setHealthLimitsCommand (word16 _ _) (word16 _ _) (word16 _ _) d e f = _
    rw [word16_bytes, word16_bytes, word16_bytes]
  case setWeights w => cases ht; exact cmd (on 0x11 (weightBytes w) rfl)
  case readHealth x => cases ht; exact cmd (on 0x12 [x] rfl)
  case forceIsolate x => cases ht; exact cmd (on 0x13 [x] rfl)
  case forceReadmit x => cases ht; exact cmd (on 0x14 [x] rfl)
  case setMayIsolate x f => cases ht; exact cmd (on 0x15 [x, f] rfl)
  case setPrintProfile c r f a g i low =>
    cases ht
    exact cmd (on 0x18 ([c, r, f, a, g, i] ++ argument16 low)
      (congrArg (setPrintProfileCommand c r f a g i) (word16_bytes low)))
  case printerEnable => cases ht; exact cmd (on 0x19 [] rfl)
  case printerDisable => cases ht; exact cmd (on 0x1A [] rfl)
  case readPrinter => cases ht; exact cmd hs
  case listJobs => cases ht; exact cmd hs
  case readJob id => cases ht; exact cmd (on 0x1D [id] rfl)
  case holdJob id => cases ht; exact cmd (on 0x1E [id] rfl)
  case releaseJob id => cases ht; exact cmd (on 0x1F [id] rfl)
  case cancelJob id => cases ht; exact cmd (on 0x20 [id] rfl)
  case promoteJob id => cases ht; exact cmd (on 0x21 [id] rfl)
  case resumePrinter => cases ht; exact cmd (on 0x22 [] rfl)
  case setAlerts a r =>
    cases ht
    refine cmd (on 0x28 (argument16 a ++ argument16 r) ?_)
    show setAlertsCommand (word16 _ _) (word16 _ _) = _
    rw [word16_bytes, word16_bytes]
  case clearCauses q =>
    cases ht
    exact cmd (on 0x29 (argument16 q) (congrArg clearCausesCommand (word16_bytes q)))
  case readReport => cases ht; exact cmd (on 0x2A [] rfl)
  case restart x => cases ht; exact cmd (on 0x30 [x] rfl)
  case addressCharacterTaken g b a q => cases ht; exact k.addressTaken _ _ _ _ _ hs
  case burstEnd g i => cases ht; exact k.burstEnds _ _ _ hs
  case jabber g => cases ht; exact k.jabbers _ _ hs
  case forwardHeldStart q => cases ht; exact k.startHeld _ _ hs
  case transmitterBurstEnd g => cases ht; exact k.transmitterEnds _ _ hs
  case pollMissWindowExpiry g => cases ht; split; exacts [hs, k.pollMissExpiry _ _ _ ‹_› hs]
  case replyStartPoint q =>
    cases ht
    split
    · split
      exacts [k.replyStart _ _ _ ‹_› ‹_› hs, hs]
    · exact hs
  case replyDeadlineExpiry => cases ht; split; exacts [k.replyDeadline _ _ ‹_› hs, hs]
  case fillBudgetExhausted => cases ht; split; exacts [k.fillExhausted _ _ _ ‹_› hs, hs]
  case minuteTimerExpiry => exact Host.Outcome.next.inj ht ▸ k.minute _ hs
  case portCharacterTaken n v p x => cases ht; exact k.portCharacter _ _ _ _ hs
  case frameComplete n v p x => cases ht; split; exacts [k.portCharacter _ _ _ _ hs, hs]
  case frameGapExpiry n => cases ht; exact k.gapExpires _ _ hs
  case breakRecognized n => cases ht; exact k.breakBegins _ _ hs
  case breakEnd n => cases ht; exact k.breakEnd _ _ hs
  case peerReadyAsserted n => exact k.peerAsserted _ _ _ ht hs
  case peerReadyDeasserted n => exact k.peerDeasserted _ _ _ ht hs
  case detachTimerExpiry n => cases ht; split; exacts [k.detach _ _ (by simp_all) (by simp_all) hs, hs]
  case portFrameSent n =>
    cases ht
    split
    · exact k.frameSent _ _ _ ‹_› hs
    all_goals exact hs
  case jobIdleTimeout id =>
    cases ht
    split
    · split
      · next hj h => exact k.idleExpired _ _ (job?_self hj) h.1 hs
      · exact hs
    · exact hs
  case printerLineChange l h => cases ht; split; exacts [hs, k.lineChanged _ _ _ ‹_› hs]
  case packEdge => cases ht; split; exacts [k.characterTaken _ ‹_› hs, hs]
  case ackTimerExpiry =>
    cases ht
    split
    · next h => exact k.characterLost _ h.1 h.2.1 hs
    · exact hs
  case pgntChange h => cases ht; split; exacts [hs, k.grantChanged _ _ ‹_› hs]
  case releaseTimerExpiry => cases ht; split; exacts [k.releaseExpired _ ‹_› hs, hs]
  case decayTimerExpiry => exact Host.Outcome.next.inj ht ▸ k.decayExpiry _ hs
  case probeTimerExpiry => exact Host.Outcome.next.inj ht ▸ k.probeExpiry _ hs
  case probePollStart q =>
    cases ht
    split
    · split
      exacts [k.probeStart _ _ _ _ ‹_› ‹_› hs, hs]
    · exact hs
  case probePollDeadline => cases ht; split; exacts [k.probeDeadline _ _ ‹_› hs, hs]
  case probeWindowExpiry => cases ht; split; exacts [k.probeWindow _ _ _ _ ‹_› hs, hs]
  case secondsCounterTick => cases ht; exact k.second _ hs
  case lineActivityStart g => cases ht; split; exacts [k.activity _ _ ‹_› hs, hs]
  case syncMatch g =>
    cases ht
    split
    · next h =>
      simp only [Bool.and_eq_true, beq_iff_eq] at h
      exact k.syncMatch _ _ _ h.1 h.2 hs
    · exact hs
  case trunkCharacterTaken g c => cases ht; exact k.trunkCharacter _ _ _ hs
  case idleRecognized g => cases ht; exact k.idleSeen _ _ hs
  case portStartBit n => cases ht; split; exacts [k.portStartBit _ _ hs, hs]

/-- A property that meets the clauses outlasts every step. -/
theorem Kept.step (k : Kept I) (hs : I s) (ht : step s = .next t) : I t := by
  unfold Sys2Proof.Machine.step at ht
  split at ht
  · cases ht; exact k.tick _ hs
  · exact k.exec _ (k.rest _ _ hs) ht

end Sys2Proof.Machine
end

