-- ==== Sys2Proof/Laws/Memory.lean ====
section
/-! SUPPORT. The spool memory: reading after writing, the canonical form, and that every operation keeps it. -/

set_option linter.unnecessarySeqFocus false
set_option linter.unusedTactic false
set_option linter.unreachableTactic false
set_option linter.unusedSimpArgs false

namespace Sys2Proof.Machine

/-! ### One byte -/

/-- Every address listed is above a bound. -/
def Memory.above (m : Memory) (a : Nat) : Prop := ∀ c ∈ m, a < c.1

theorem Memory.wf_cons {k : Nat} {v : Byte} {m : Memory} :
    Memory.wf ((k, v) :: m) = true ↔ v ≠ Memory.blank ∧ m.above k ∧ m.wf = true := by
  induction m generalizing k v with
  | nil => simp [Memory.wf, Memory.above]
  | cons c m ih =>
    obtain ⟨k', v'⟩ := c
    have h := ih (k := k') (v := v')
    simp only [Memory.wf, Bool.and_eq_true, bne_iff_ne, decide_eq_true_eq]
    rw [h]
    simp only [Memory.above, List.mem_cons, forall_eq_or_imp]
    constructor
    · rintro ⟨⟨h1, h2⟩, h3, h4, h5⟩
      exact ⟨h1, ⟨h2, fun c hc => lt_trans h2 (h4 c hc)⟩, h3, h4, h5⟩
    · rintro ⟨h1, ⟨h2, _⟩, h3, h4, h5⟩
      exact ⟨⟨h1, h2⟩, h3, h4, h5⟩

/-- An address below every listed one reads as blank. -/
theorem Memory.read_above {m : Memory} {k a : Nat} (h : m.above k) (ha : a ≤ k) : m.read a = Memory.blank := by
  induction m with
  | nil => rfl
  | cons c m ih =>
    obtain ⟨k', v'⟩ := c
    have h1 : k < k' := h (k', v') (by simp)
    rw [Memory.read, if_neg (by omega)]
    exact ih fun c hc => h c (by simp [hc])

theorem Memory.write_above {m : Memory} {k a : Nat} (b : Byte) (h : m.above k) (ha : k < a) :
    (m.write a b).above k := by
  induction m with
  | nil =>
    intro c hc
    simp only [Memory.write] at hc
    split at hc <;> simp_all
  | cons c m ih =>
    obtain ⟨k', v'⟩ := c
    have h1 : k < k' := h (k', v') (by simp)
    have h2 : Memory.above m k := fun c hc => h c (by simp [hc])
    intro c hc
    simp only [Memory.write] at hc
    split at hc
    · split at hc
      · exact h c hc
      · rcases List.mem_cons.mp hc with rfl | hc
        · exact ha
        · exact h c hc
    · split at hc
      · split at hc
        · exact h2 c hc
        · rcases List.mem_cons.mp hc with rfl | hc
          · exact h1
          · exact h2 c hc
      · rcases List.mem_cons.mp hc with rfl | hc
        · exact h1
        · exact ih h2 c hc

/-- A write keeps the canonical form. -/
theorem Memory.wf_write {m : Memory} (a : Nat) (b : Byte) (h : m.wf = true) : (m.write a b).wf = true := by
  induction m with
  | nil =>
    simp only [Memory.write]
    split
    · rfl
    · simpa [Memory.wf] using ‹_›
  | cons c m ih =>
    obtain ⟨k, v⟩ := c
    obtain ⟨hv, hk, hm⟩ := Memory.wf_cons.mp h
    simp only [Memory.write]
    split
    · split
      · exact h
      · refine Memory.wf_cons.mpr ⟨‹_›, ?_, h⟩
        intro c hc
        rcases List.mem_cons.mp hc with rfl | hc
        · assumption
        · exact lt_trans ‹_› (hk c hc)
    · split
      · split
        · exact hm
        · exact Memory.wf_cons.mpr ⟨‹_›, hk, hm⟩
      · exact Memory.wf_cons.mpr ⟨hv, Memory.write_above b hk (by omega), ih hm⟩

/-- A read after a write gives the byte written there, and every other address reads as before. -/
theorem Memory.read_write {m : Memory} (a c : Nat) (b : Byte) (h : m.wf = true) :
    (m.write a b).read c = if c = a then b else m.read c := by
  induction m with
  | nil =>
    simp only [Memory.write]
    split
    · split <;> simp_all [Memory.read]
    · simp only [Memory.read]
      by_cases hc : c = a
      · simp [hc]
      · simp [hc, Ne.symm hc]
  | cons p m ih =>
    obtain ⟨k, v⟩ := p
    obtain ⟨hv, hk, hm⟩ := Memory.wf_cons.mp h
    have ih := ih hm
    simp only [Memory.write]
    split
    · have h0 : Memory.read ((k, v) :: m) a = Memory.blank := by
        rw [Memory.read, if_neg (by omega)]
        exact Memory.read_above hk (by omega)
      split
      · by_cases hc : c = a
        · rw [if_pos hc, hc, h0]
          exact (‹b = Memory.blank›).symm
        · simp [hc]
      · by_cases hc : c = a
        · rw [Memory.read, if_pos hc.symm, if_pos hc]
        · rw [Memory.read, if_neg (Ne.symm hc), if_neg hc]
    · split
      · next h1 =>
        subst h1
        split
        · by_cases hc : c = a
          · subst hc
            simp only [if_true]
            rw [Memory.read_above hk (le_refl _)]
            exact (‹b = Memory.blank›).symm
          · simp [hc, Memory.read, Ne.symm hc]
        · by_cases hc : c = a
          · simp [hc, Memory.read]
          · simp [hc, Memory.read, Ne.symm hc]
      · simp only [Memory.read, ih]
        by_cases hc : k = c
        · rw [if_pos hc, if_pos hc, if_neg (by omega)]
        · rw [if_neg hc, if_neg hc]

/-! ### Texts -/

theorem Memory.wf_writeText (chain : List (Fin 512)) (m : Memory) (i : Nat) (text : List Byte) (h : m.wf = true) :
    (Memory.writeText chain m i text).wf = true := by
  induction text generalizing m i with
  | nil => exact h
  | cons c cs ih => exact ih _ _ (Memory.wf_write _ _ h)

/-- A text written from an index on leaves every place that is not the place of one of its characters. -/
theorem Memory.read_writeText_other (chain : List (Fin 512)) (m : Memory) (i : Nat) (text : List Byte) (a : Nat)
    (h : m.wf = true) (ha : ∀ k, i ≤ k → k < i + text.length → chainAddress chain k ≠ a) :
    (Memory.writeText chain m i text).read a = m.read a := by
  induction text generalizing m i with
  | nil => rfl
  | cons c cs ih =>
    rw [Memory.writeText, ih _ _ (Memory.wf_write _ _ h)
      (fun k h1 h2 => ha k (by omega) (by simp only [List.length_cons]; omega)), Memory.read_write _ _ _ h,
      if_neg (Ne.symm (ha i (le_refl _) (by simp)))]

/-- Each character of a text stands at its place, when no two of its places are the same. -/
theorem Memory.read_writeText (chain : List (Fin 512)) (m : Memory) (i : Nat) (text : List Byte) (n : Nat)
    (h : m.wf = true) (hn : n < text.length)
    (hd : ∀ k l, i ≤ k → k < l → l < i + text.length → chainAddress chain k ≠ chainAddress chain l) :
    (Memory.writeText chain m i text).read (chainAddress chain (i + n)) = text[n] := by
  induction text generalizing m i n with
  | nil => simp at hn
  | cons c cs ih =>
    simp only [List.length_cons] at hn hd
    rw [Memory.writeText]
    cases n with
    | zero =>
      show _ = c
      rw [show chainAddress chain (i + 0) = chainAddress chain i from rfl, Memory.read_writeText_other _ _ _ _ _ (Memory.wf_write _ _ h)
        (fun k h1 h2 => Ne.symm (hd i k (le_refl _) (by omega) (by omega))), Memory.read_write _ _ _ h,
        if_pos rfl]
    | succ n =>
      have := ih (m.write (chainAddress chain i) c) (i + 1) n (Memory.wf_write _ _ h) (by omega)
        (fun k l h1 h2 h3 => hd k l (by omega) h2 (by omega))
      rw [show i + (n + 1) = i + 1 + n by omega, this]
      rfl

/-! ### Every operation keeps the canonical form -/

theorem memory_foldl {α : Type} {f : State → α → State}
    (hf : ∀ t a, t.sm.memory.wf = true → (f t a).sm.memory.wf = true) (l : List α) (s : State)
    (h : s.sm.memory.wf = true) : (l.foldl f s).sm.memory.wf = true := by
  induction l generalizing s with
  | nil => exact h
  | cons a l ih => exact ih _ (hf _ _ h)

variable (s : State)

/-- An admission writes its text behind the job's text, and nothing else of the memory (R91). -/
theorem State.admitText_memory (j : Job) (text : List Byte) :
    (s.admitText j text).sm.memory =
      s.sm.memory.writeText (j.chain ++ s.sm.free.take (blocksNeeded j.count text.length)) j.count text := by
  unfold State.admitText; simp

theorem State.read_admitText_other (j : Job) (text : List Byte) (a : Nat) (hm : s.sm.memory.wf = true)
    (ha : ∀ i, i < text.length →
      a ≠ chainAddress (j.chain ++ s.sm.free.take (blocksNeeded j.count text.length)) (j.count + i)) :
    (s.admitText j text).sm.memory.read a = s.sm.memory.read a := by
  rw [s.admitText_memory]
  refine Memory.read_writeText_other _ _ _ _ _ hm fun k h1 h2 => ?_
  have h := ha (k - j.count) (by omega)
  rw [Nat.add_sub_cancel' h1] at h
  exact Ne.symm h

@[simp] theorem State.memory_admitText (j : Job) (text : List Byte) (hm : s.sm.memory.wf = true) :
    (s.admitText j text).sm.memory.wf = true := by
  unfold State.admitText; dsimp only
  simp [Memory.wf_writeText, hm]

@[simp] theorem State.memory_openJob (src : Source) (copies : Nat) (p : Priority) (hm : s.sm.memory.wf = true) :
    (s.openJob src copies p).sm.memory.wf = true := by
  unfold State.openJob; (try dsimp only); (repeat' split) <;> (try dsimp only) <;> (repeat' split) <;>
    simp [hm]

@[simp] theorem State.memory_removeJob (j : Job) (e : Ending) (hm : s.sm.memory.wf = true) :
    (s.removeJob j e).sm.memory.wf = true := by
  unfold State.removeJob; (try dsimp only); (repeat' split) <;> (try dsimp only) <;> (repeat' split) <;>
    simp [hm]

@[simp] theorem State.memory_discardOpen (n : PortNo) (hm : s.sm.memory.wf = true) :
    (s.discardOpen n).sm.memory.wf = true := by
  unfold State.discardOpen; (try dsimp only); (repeat' split) <;> (try dsimp only) <;> (repeat' split) <;>
    simp [hm]

@[simp] theorem State.memory_enqueue (j : Job) (hm : s.sm.memory.wf = true) :
    (s.enqueue j).sm.memory.wf = true := by
  unfold State.enqueue; (try dsimp only); (repeat' split) <;> (try dsimp only) <;> (repeat' split) <;>
    simp [hm]

@[simp] theorem State.memory_copyStart (id : Nat) (hm : s.sm.memory.wf = true) :
    (s.copyStart id).sm.memory.wf = true := by
  unfold State.copyStart; (try dsimp only); (repeat' split) <;> (try dsimp only) <;> (repeat' split) <;>
    simp [hm]

@[simp] theorem State.memory_toPageMark (id : Nat) (hm : s.sm.memory.wf = true) :
    (s.toPageMark id).sm.memory.wf = true := by
  unfold State.toPageMark; (try dsimp only); (repeat' split) <;> (try dsimp only) <;> (repeat' split) <;>
    simp [hm]

@[simp] theorem State.memory_enterRunning (hm : s.sm.memory.wf = true) :
    (s.enterRunning).sm.memory.wf = true := by
  unfold State.enterRunning; (try dsimp only); (repeat' split) <;> (try dsimp only) <;> (repeat' split) <;>
    simp [hm]

@[simp] theorem State.memory_select (j : Job) (hm : s.sm.memory.wf = true) :
    (s.select j).sm.memory.wf = true := by
  unfold State.select; (try dsimp only); (repeat' split) <;> (try dsimp only) <;> (repeat' split) <;>
    simp [hm]

@[simp] theorem State.memory_selectIfIdle (hm : s.sm.memory.wf = true) :
    (s.selectIfIdle).sm.memory.wf = true := by
  unfold State.selectIfIdle; (try dsimp only); (repeat' split) <;> (try dsimp only) <;> (repeat' split) <;>
    simp [hm]

@[simp] theorem State.memory_enterByReadiness (hm : s.sm.memory.wf = true) :
    (s.enterByReadiness).sm.memory.wf = true := by
  unfold State.enterByReadiness; (try dsimp only); (repeat' split) <;> (try dsimp only) <;> (repeat' split) <;>
    simp [hm]

@[simp] theorem State.memory_proceed (hm : s.sm.memory.wf = true) :
    (s.proceed).sm.memory.wf = true := by
  unfold State.proceed; (try dsimp only); (repeat' split) <;> (try dsimp only) <;> (repeat' split) <;>
    simp [hm]

@[simp] theorem State.memory_endJob (e : Ending) (hm : s.sm.memory.wf = true) :
    (s.endJob e).sm.memory.wf = true := by
  unfold State.endJob; (try dsimp only); (repeat' split) <;> (try dsimp only) <;> (repeat' split) <;>
    simp [hm]

@[simp] theorem State.memory_returnToQueue (hm : s.sm.memory.wf = true) :
    (s.returnToQueue).sm.memory.wf = true := by
  unfold State.returnToQueue; (try dsimp only); (repeat' split) <;> (try dsimp only) <;> (repeat' split) <;>
    simp [hm]

@[simp] theorem State.memory_afterHandshake (u : Option StallReason) (hm : s.sm.memory.wf = true) :
    (s.afterHandshake u).sm.memory.wf = true := by
  unfold State.afterHandshake; (try dsimp only); (repeat' split) <;> (try dsimp only) <;> (repeat' split) <;>
    simp [hm]

@[simp] theorem State.memory_copyEnd (j : Job) (hm : s.sm.memory.wf = true) :
    (s.copyEnd j).sm.memory.wf = true := by
  unfold State.copyEnd; (try dsimp only); (repeat' split) <;> (try dsimp only) <;> (repeat' split) <;>
    simp [hm]

@[simp] theorem State.memory_textTaken (j : Job) (p : Position) (hm : s.sm.memory.wf = true) :
    (s.textTaken j p).sm.memory.wf = true := by
  unfold State.textTaken; (try dsimp only); (repeat' split) <;> (try dsimp only) <;> (repeat' split) <;>
    simp [hm]

@[simp] theorem State.memory_characterTaken (hm : s.sm.memory.wf = true) :
    (s.characterTaken).sm.memory.wf = true := by
  unfold State.characterTaken; (try dsimp only); (repeat' split) <;> (try dsimp only) <;> (repeat' split) <;>
    simp [hm]

@[simp] theorem State.memory_characterLost (hm : s.sm.memory.wf = true) :
    (s.characterLost).sm.memory.wf = true := by
  unfold State.characterLost; (try dsimp only); (repeat' split) <;> (try dsimp only) <;> (repeat' split) <;>
    simp [hm]

@[simp] theorem State.memory_stopEngine (hm : s.sm.memory.wf = true) :
    (s.stopEngine).sm.memory.wf = true := by
  unfold State.stopEngine; (try dsimp only); (repeat' split) <;> (try dsimp only) <;> (repeat' split) <;>
    simp [hm]

@[simp] theorem State.memory_disableEngine (hm : s.sm.memory.wf = true) :
    (s.disableEngine).sm.memory.wf = true := by
  unfold State.disableEngine; (try dsimp only); (repeat' split) <;> (try dsimp only) <;> (repeat' split) <;>
    simp [hm]

@[simp] theorem State.memory_enableEngine (hm : s.sm.memory.wf = true) :
    (s.enableEngine).sm.memory.wf = true := by
  unfold State.enableEngine; (try dsimp only); (repeat' split) <;> (try dsimp only) <;> (repeat' split) <;>
    simp [hm]

@[simp] theorem State.memory_offerJobs (hm : s.sm.memory.wf = true) :
    (s.offerJobs).sm.memory.wf = true := by
  unfold State.offerJobs; (try dsimp only); (repeat' split) <;> (try dsimp only) <;> (repeat' split) <;>
    simp [hm]

@[simp] theorem State.memory_rewind (hm : s.sm.memory.wf = true) :
    (s.rewind).sm.memory.wf = true := by
  unfold State.rewind; (try dsimp only); (repeat' split) <;> (try dsimp only) <;> (repeat' split) <;>
    simp [hm]

@[simp] theorem State.memory_resumeFromMark (hm : s.sm.memory.wf = true) :
    (s.resumeFromMark).sm.memory.wf = true := by
  unfold State.resumeFromMark; (try dsimp only); (repeat' split) <;> (try dsimp only) <;> (repeat' split) <;>
    simp [hm]

@[simp] theorem State.memory_resumeByPolicy (hm : s.sm.memory.wf = true) :
    (s.resumeByPolicy).sm.memory.wf = true := by
  unfold State.resumeByPolicy; (try dsimp only); (repeat' split) <;> (try dsimp only) <;> (repeat' split) <;>
    simp [hm]

@[simp] theorem State.memory_resumePrinter (hm : s.sm.memory.wf = true) :
    (s.resumePrinter).sm.memory.wf = true := by
  unfold State.resumePrinter; (try dsimp only); (repeat' split) <;> (try dsimp only) <;> (repeat' split) <;>
    simp [hm]

@[simp] theorem State.memory_lineChanged (l : PrinterLine) (h : Bool) (hm : s.sm.memory.wf = true) :
    (s.lineChanged l h).sm.memory.wf = true := by
  unfold State.lineChanged; (try dsimp only); (repeat' split) <;> (try dsimp only) <;> (repeat' split) <;>
    simp [hm]

@[simp] theorem State.memory_grantChanged (h : Bool) (hm : s.sm.memory.wf = true) :
    (s.grantChanged h).sm.memory.wf = true := by
  unfold State.grantChanged; (try dsimp only); (repeat' split) <;> (try dsimp only) <;> (repeat' split) <;>
    simp [hm]

@[simp] theorem State.memory_closeJob (j : Job) (hm : s.sm.memory.wf = true) :
    (s.closeJob j).sm.memory.wf = true := by
  unfold State.closeJob; (try dsimp only); (repeat' split) <;> (try dsimp only) <;> (repeat' split) <;>
    simp [hm]

@[simp] theorem State.memory_cancelJob (j : Job) (hm : s.sm.memory.wf = true) :
    (s.cancelJob j).sm.memory.wf = true := by
  unfold State.cancelJob; (try dsimp only); (repeat' split) <;> (try dsimp only) <;> (repeat' split) <;>
    simp [hm]

@[simp] theorem State.memory_idleExpired (j : Job) (hm : s.sm.memory.wf = true) :
    (s.idleExpired j).sm.memory.wf = true := by
  unfold State.idleExpired; (try dsimp only); (repeat' split) <;> (try dsimp only) <;> (repeat' split) <;>
    simp [hm]

@[simp] theorem State.memory_printEffect (src : Source) (k : Byte) (p : List Byte) (hm : s.sm.memory.wf = true) :
    (s.printEffect src k p).sm.memory.wf = true := by
  unfold State.printEffect; (try dsimp only); (repeat' split) <;> (try dsimp only) <;> (repeat' split) <;>
    simp [hm]

@[simp] theorem State.memory_primaryClose (hm : s.sm.memory.wf = true) :
    (s.primaryClose).sm.memory.wf = true := by
  unfold State.primaryClose; (try dsimp only); (repeat' split) <;> (try dsimp only) <;> (repeat' split) <;>
    simp [hm]

@[simp] theorem State.memory_setJobState (j : Job) (st : JobState) (x : NoticeState) (hm : s.sm.memory.wf = true) :
    (s.setJobState j st x).sm.memory.wf = true := by
  unfold State.setJobState; (try dsimp only); (repeat' split) <;> (try dsimp only) <;> (repeat' split) <;>
    simp [hm]

@[simp] theorem State.memory_promote (j : Job) (hm : s.sm.memory.wf = true) :
    (s.promote j).sm.memory.wf = true := by
  unfold State.promote; (try dsimp only); (repeat' split) <;> (try dsimp only) <;> (repeat' split) <;>
    simp [hm]

@[simp] theorem State.memory_isolatePort (n : PortNo) (hm : s.sm.memory.wf = true) :
    (s.isolatePort n).sm.memory.wf = true := by
  unfold State.isolatePort; (try dsimp only); (repeat' split) <;> (try dsimp only) <;> (repeat' split) <;>
    simp [hm]

@[simp] theorem State.memory_isolateObject (o : ObjectId) (hm : s.sm.memory.wf = true) :
    (s.isolateObject o).sm.memory.wf = true := by
  unfold State.isolateObject; (try dsimp only); (repeat' split) <;> (try dsimp only) <;> (repeat' split) <;>
    simp [hm]

@[simp] theorem State.memory_evaluate (o : ObjectId) (hm : s.sm.memory.wf = true) :
    (s.evaluate o).sm.memory.wf = true := by
  unfold State.evaluate; (try dsimp only); (repeat' split) <;> (try dsimp only) <;> (repeat' split) <;>
    simp [hm]

@[simp] theorem State.memory_addScore (o : ObjectId) (w : Nat) (hm : s.sm.memory.wf = true) :
    (s.addScore o w).sm.memory.wf = true := by
  unfold State.addScore; (try dsimp only); (repeat' split) <;> (try dsimp only) <;> (repeat' split) <;>
    simp [hm]

@[simp] theorem State.memory_chargeStation (a : Address) (w : Byte) (hm : s.sm.memory.wf = true) :
    (s.chargeStation a w).sm.memory.wf = true := by
  unfold State.chargeStation; (try dsimp only); (repeat' split) <;> (try dsimp only) <;> (repeat' split) <;>
    simp [hm]

@[simp] theorem State.memory_chargeSegment (g : Seg) (w : Byte) (hm : s.sm.memory.wf = true) :
    (s.chargeSegment g w).sm.memory.wf = true := by
  unfold State.chargeSegment; (try dsimp only); (repeat' split) <;> (try dsimp only) <;> (repeat' split) <;>
    simp [hm]

@[simp] theorem State.memory_chargePort (n : PortNo) (w : Byte) (hm : s.sm.memory.wf = true) :
    (s.chargePort n w).sm.memory.wf = true := by
  unfold State.chargePort; (try dsimp only); (repeat' split) <;> (try dsimp only) <;> (repeat' split) <;>
    simp [hm]

@[simp] theorem State.memory_probeFailure (o : ObjectId) (hm : s.sm.memory.wf = true) :
    (s.probeFailure o).sm.memory.wf = true := by
  unfold State.probeFailure; (try dsimp only); (repeat' split) <;> (try dsimp only) <;> (repeat' split) <;>
    simp [hm]

@[simp] theorem State.memory_probeCredit (o : ObjectId) (hm : s.sm.memory.wf = true) :
    (s.probeCredit o).sm.memory.wf = true := by
  unfold State.probeCredit; (try dsimp only); (repeat' split) <;> (try dsimp only) <;> (repeat' split) <;>
    simp [hm]

@[simp] theorem State.memory_pollMiss (g : Seg) (a : Address) (hm : s.sm.memory.wf = true) :
    (s.pollMiss g a).sm.memory.wf = true := by
  unfold State.pollMiss; (try dsimp only); (repeat' split) <;> (try dsimp only) <;> (repeat' split) <;>
    simp [hm]

@[simp] theorem State.memory_chargeConflict (g : Seg) (hm : s.sm.memory.wf = true) :
    (s.chargeConflict g).sm.memory.wf = true := by
  unfold State.chargeConflict; (try dsimp only); (repeat' split) <;> (try dsimp only) <;> (repeat' split) <;>
    simp [hm]

@[simp] theorem State.memory_enterStandby (n : PortNo) (hm : s.sm.memory.wf = true) :
    (s.enterStandby n).sm.memory.wf = true := by
  unfold State.enterStandby; (try dsimp only); (repeat' split) <;> (try dsimp only) <;> (repeat' split) <;>
    simp [hm]

@[simp] theorem State.memory_finishStopping (n : PortNo) (hm : s.sm.memory.wf = true) :
    (s.finishStopping n).sm.memory.wf = true := by
  unfold State.finishStopping; (try dsimp only); (repeat' split) <;> (try dsimp only) <;> (repeat' split) <;>
    simp [hm]

@[simp] theorem State.memory_move (g : Seg) (a : Address) (hm : s.sm.memory.wf = true) :
    (s.move g a).sm.memory.wf = true := by
  unfold State.move; (try dsimp only); (repeat' split) <;> (try dsimp only) <;> (repeat' split) <;>
    simp [hm]

@[simp] theorem State.memory_conflict (g : Seg) (a : Address) (hm : s.sm.memory.wf = true) :
    (s.conflict g a).sm.memory.wf = true := by
  unfold State.conflict; (try dsimp only); (repeat' split) <;> (try dsimp only) <;> (repeat' split) <;>
    simp [hm]

@[simp] theorem State.memory_learn (g : Seg) (a : Address) (hm : s.sm.memory.wf = true) :
    (s.learn g a).sm.memory.wf = true := by
  unfold State.learn; (try dsimp only); (repeat' split) <;> (try dsimp only) <;> (repeat' split) <;>
    simp [hm]

@[simp] theorem State.memory_probeOutcome (p : Probe) (b : Bool) (hm : s.sm.memory.wf = true) :
    (s.probeOutcome p b).sm.memory.wf = true := by
  unfold State.probeOutcome; (try dsimp only); (repeat' split) <;> (try dsimp only) <;> (repeat' split) <;>
    simp [hm]

@[simp] theorem State.memory_assessSegment (hm : s.sm.memory.wf = true) :
    (s.assessSegment).sm.memory.wf = true := by
  unfold State.assessSegment; (try dsimp only); (repeat' split) <;> (try dsimp only) <;> (repeat' split) <;>
    simp [hm]

@[simp] theorem State.memory_assessPort (n : PortNo) (hm : s.sm.memory.wf = true) :
    (s.assessPort n).sm.memory.wf = true := by
  unfold State.assessPort; (try dsimp only); (repeat' split) <;> (try dsimp only) <;> (repeat' split) <;>
    simp [hm]

@[simp] theorem State.memory_probeExpiry (hm : s.sm.memory.wf = true) :
    (s.probeExpiry).sm.memory.wf = true := by
  unfold State.probeExpiry; dsimp only
  refine memory_foldl (fun t o h => t.memory_assessPort o h) _ _ ?_
  dsimp only; split <;> simp [hm]

@[simp] theorem State.memory_portEvidence (n : PortNo) (hm : s.sm.memory.wf = true) :
    (s.portEvidence n).sm.memory.wf = true := by
  unfold State.portEvidence; (try dsimp only); (repeat' split) <;> (try dsimp only) <;> (repeat' split) <;>
    simp [hm]

@[simp] theorem State.memory_armWatch (g : Seg) (a : Address) (hm : s.sm.memory.wf = true) :
    (s.armWatch g a).sm.memory.wf = true := by
  unfold State.armWatch; (try dsimp only); (repeat' split) <;> (try dsimp only) <;> (repeat' split) <;>
    simp [hm]

@[simp] theorem State.memory_resolveWatch (g : Seg) (a : Address) (hm : s.sm.memory.wf = true) :
    (s.resolveWatch g a).sm.memory.wf = true := by
  unfold State.resolveWatch; (try dsimp only); (repeat' split) <;> (try dsimp only) <;> (repeat' split) <;>
    simp [hm]

@[simp] theorem State.memory_forwardNow (g : Seg) (k : BurstKind) (a : Address) (q : Nat) (hm : s.sm.memory.wf = true) :
    (s.forwardNow g k a q).sm.memory.wf = true := by
  unfold State.forwardNow; (try dsimp only); (repeat' split) <;> (try dsimp only) <;> (repeat' split) <;>
    simp [hm]

@[simp] theorem State.memory_holdForward (k : BurstKind) (a : Address) (hm : s.sm.memory.wf = true) :
    (s.holdForward k a).sm.memory.wf = true := by
  unfold State.holdForward; (try dsimp only); (repeat' split) <;> (try dsimp only) <;> (repeat' split) <;>
    simp [hm]

@[simp] theorem State.memory_forwardToB (k : BurstKind) (a : Address) (q : Nat) (hm : s.sm.memory.wf = true) :
    (s.forwardToB k a q).sm.memory.wf = true := by
  unfold State.forwardToB; (try dsimp only); (repeat' split) <;> (try dsimp only) <;> (repeat' split) <;>
    simp [hm]

@[simp] theorem State.memory_forwardToA (k : BurstKind) (a : Address) (b : Bool) (q : Nat) (hm : s.sm.memory.wf = true) :
    (s.forwardToA k a b q).sm.memory.wf = true := by
  unfold State.forwardToA; (try dsimp only); (repeat' split) <;> (try dsimp only) <;> (repeat' split) <;>
    simp [hm]

@[simp] theorem State.memory_probeSees (a : Address) (hm : s.sm.memory.wf = true) :
    (s.probeSees a).sm.memory.wf = true := by
  unfold State.probeSees; (try dsimp only); (repeat' split) <;> (try dsimp only) <;> (repeat' split) <;>
    simp [hm]

@[simp] theorem State.memory_addressTaken (g : Seg) (k : BurstKind) (a : Address) (q : Nat) (hm : s.sm.memory.wf = true) :
    (s.addressTaken g k a q).sm.memory.wf = true := by
  unfold State.addressTaken; (try dsimp only); (repeat' split) <;> (try dsimp only) <;> (repeat' split) <;>
    first
    | (simp [hm]; done)
    | exact State.memory_forwardToA _ _ _ _ _ (State.memory_probeSees _ _ (State.memory_resolveWatch _ _ _ (by simp [hm])))

@[simp] theorem State.memory_validBurst (g : Seg) (k : BurstKind) (a : Address) (b : List Byte) (hm : s.sm.memory.wf = true) :
    (s.validBurst g k a b).sm.memory.wf = true := by
  unfold State.validBurst; (try dsimp only); (repeat' split) <;> (try dsimp only) <;> (repeat' split) <;>
    simp [hm]

@[simp] theorem State.memory_applyVerdict (g : Seg) (r : TrunkRx) (v : Verdict) (hm : s.sm.memory.wf = true) :
    (s.applyVerdict g r v).sm.memory.wf = true := by
  unfold State.applyVerdict; (try dsimp only); (repeat' split) <;> (try dsimp only) <;> (repeat' split) <;>
    simp [hm]

@[simp] theorem State.memory_probeReplyEnds (g : Seg) (b : Bool) (hm : s.sm.memory.wf = true) :
    (s.probeReplyEnds g b).sm.memory.wf = true := by
  unfold State.probeReplyEnds; (try dsimp only); (repeat' split) <;> (try dsimp only) <;> (repeat' split) <;>
    simp [hm]

@[simp] theorem State.memory_burstEnds (g : Seg) (i : Bool) (hm : s.sm.memory.wf = true) :
    (s.burstEnds g i).sm.memory.wf = true := by
  unfold State.burstEnds; (try dsimp only); (repeat' split) <;> (try dsimp only) <;> (repeat' split) <;>
    simp [hm]

@[simp] theorem State.memory_armAfterCopy (g : Seg) (c : Copy) (hm : s.sm.memory.wf = true) :
    (s.armAfterCopy g c).sm.memory.wf = true := by
  unfold State.armAfterCopy; (try dsimp only); (repeat' split) <;> (try dsimp only) <;> (repeat' split) <;>
    simp [hm]

@[simp] theorem State.memory_cutCopy (g : Seg) (hm : s.sm.memory.wf = true) :
    (s.cutCopy g).sm.memory.wf = true := by
  unfold State.cutCopy; (try dsimp only); (repeat' split) <;> (try dsimp only) <;> (repeat' split) <;>
    simp [hm]

@[simp] theorem State.memory_chargeJabber (g : Seg) (hm : s.sm.memory.wf = true) :
    (s.chargeJabber g).sm.memory.wf = true := by
  unfold State.chargeJabber; (try dsimp only); (repeat' split) <;> (try dsimp only) <;> (repeat' split) <;>
    simp [hm]

@[simp] theorem State.memory_jabbers (g : Seg) (hm : s.sm.memory.wf = true) :
    (s.jabbers g).sm.memory.wf = true := by
  unfold State.jabbers; (try dsimp only); (repeat' split) <;> (try dsimp only) <;> (repeat' split) <;>
    first
    | (simp [hm]; done)
    | exact (State.takeUpBoth_sm _).symm ▸
        State.memory_probeReplyEnds _ _ _ (State.memory_chargeJabber _ _ (by simp [hm]))

@[simp] theorem State.memory_copyEnds (g : Seg) (c : Copy) (hm : s.sm.memory.wf = true) :
    (s.copyEnds g c).sm.memory.wf = true := by
  unfold State.copyEnds; (try dsimp only); (repeat' split) <;> (try dsimp only) <;> (repeat' split) <;>
    simp [hm]

@[simp] theorem State.memory_transmitterEnds (g : Seg) (hm : s.sm.memory.wf = true) :
    (s.transmitterEnds g).sm.memory.wf = true := by
  unfold State.transmitterEnds; (try dsimp only); (repeat' split) <;> (try dsimp only) <;> (repeat' split) <;>
    simp [hm]

@[simp] theorem State.memory_printFrame (n : PortNo) (k : Byte) (p : List Byte) (hm : s.sm.memory.wf = true) :
    (s.printFrame n k p).sm.memory.wf = true := by
  unfold State.printFrame; (try dsimp only); (repeat' split) <;> (try dsimp only) <;> (repeat' split) <;>
    simp [hm]

@[simp] theorem State.memory_goodFrame (n : PortNo) (k : Byte) (p : List Byte) (hm : s.sm.memory.wf = true) :
    (s.goodFrame n k p).sm.memory.wf = true := by
  unfold State.goodFrame; (try dsimp only); (repeat' split) <;> (try dsimp only) <;> (repeat' split) <;>
    simp [hm]

@[simp] theorem State.memory_applyFrame (n : PortNo) (r : PortRx) (v : FrameVerdict) (hm : s.sm.memory.wf = true) :
    (s.applyFrame n r v).sm.memory.wf = true := by
  unfold State.applyFrame; (try dsimp only); (repeat' split) <;> (try dsimp only) <;> (repeat' split) <;>
    simp [hm]

@[simp] theorem State.memory_charError (n : PortNo) (e : Bool) (hm : s.sm.memory.wf = true) :
    (s.charError n e).sm.memory.wf = true := by
  unfold State.charError; (try dsimp only); (repeat' split) <;> (try dsimp only) <;> (repeat' split) <;>
    simp [hm]

@[simp] theorem State.memory_frameEvent (n : PortNo) (v : FrameVerdict) (hm : s.sm.memory.wf = true) :
    (s.frameEvent n v).sm.memory.wf = true := by
  unfold State.frameEvent; (try dsimp only); (repeat' split) <;> (try dsimp only) <;> (repeat' split) <;>
    simp [hm]

@[simp] theorem State.memory_frameEnds (n : PortNo) (r : PortRx) (o : Bool) (c : Byte) (e : Bool) (hm : s.sm.memory.wf = true) :
    (s.frameEnds n r o c e).sm.memory.wf = true := by
  unfold State.frameEnds
  exact State.memory_frameEvent _ _ _ (State.memory_charError _ _ _ (State.memory_applyFrame _ _ _ _ (by simp [hm])))

@[simp] theorem State.memory_frameGoesOn (n : PortNo) (r : PortRx) (e : Bool) (hm : s.sm.memory.wf = true) :
    (s.frameGoesOn n r e).sm.memory.wf = true := by
  unfold State.frameGoesOn; (try dsimp only); (repeat' split) <;> (try dsimp only) <;> (repeat' split) <;>
    simp [hm]

@[simp] theorem State.memory_portCharacter (n : PortNo) (v : Byte) (e : Bool) (hm : s.sm.memory.wf = true) :
    (s.portCharacter n v e).sm.memory.wf = true := by
  unfold State.portCharacter; (try dsimp only); (repeat' split) <;> (try dsimp only) <;> (repeat' split) <;>
    simp [hm]

@[simp] theorem State.memory_gapExpires (n : PortNo) (hm : s.sm.memory.wf = true) :
    (s.gapExpires n).sm.memory.wf = true := by
  unfold State.gapExpires; (try dsimp only); (repeat' split) <;> (try dsimp only) <;> (repeat' split) <;>
    simp [hm]

@[simp] theorem State.memory_breakBegins (n : PortNo) (hm : s.sm.memory.wf = true) :
    (s.breakBegins n).sm.memory.wf = true := by
  unfold State.breakBegins; (try dsimp only); (repeat' split) <;> (try dsimp only) <;> (repeat' split) <;>
    simp [hm]

@[simp] theorem State.memory_stopPort (n : PortNo) (hm : s.sm.memory.wf = true) :
    (s.stopPort n).sm.memory.wf = true := by
  unfold State.stopPort; (try dsimp only); (repeat' split) <;> (try dsimp only) <;> (repeat' split) <;>
    simp [hm]

@[simp] theorem State.memory_evaluateAll (l : List ObjectId) (hm : s.sm.memory.wf = true) :
    (s.evaluateAll l).sm.memory.wf = true := by
  unfold State.evaluateAll; exact memory_foldl (fun t o h => t.memory_evaluate o h) _ s hm

@[simp] theorem State.memory_forceIsolate (o : ObjectId) (hm : s.sm.memory.wf = true) :
    (s.forceIsolate o).sm.memory.wf = true := by
  unfold State.forceIsolate; (try dsimp only); (repeat' split) <;> (try dsimp only) <;> (repeat' split) <;>
    simp [hm]

@[simp] theorem State.memory_setMayIsolate (o : ObjectId) (b : Bool) (hm : s.sm.memory.wf = true) :
    (s.setMayIsolate o b).sm.memory.wf = true := by
  unfold State.setMayIsolate; (try dsimp only); (repeat' split) <;> (try dsimp only) <;> (repeat' split) <;>
    simp [hm]

@[simp] theorem State.memory_decay (o : ObjectId) (hm : s.sm.memory.wf = true) :
    (s.decay o).sm.memory.wf = true := by
  unfold State.decay; (try dsimp only); (repeat' split) <;> (try dsimp only) <;> (repeat' split) <;>
    simp [hm]

@[simp] theorem State.memory_releaseExpired (hm : s.sm.memory.wf = true) :
    (s.releaseExpired).sm.memory.wf = true := by
  unfold State.releaseExpired; (try dsimp only); (repeat' split) <;> (try dsimp only) <;> (repeat' split) <;>
    simp [hm]

end Sys2Proof.Machine
end

