-- ==== Sys2Proof/Laws/PerInstr.lean ====
section
/-! SUPPORT. One lemma per command about its spelling on the administration link (R185). -/

namespace Sys2Proof.Laws.Spelled

open Sys2Proof Sys2Proof.Machine

/-- A command that the administration link spells is well formed, and its argument bytes are as many as the code's row of
R185 gives. -/
def Statement (i : Instr) : Prop :=
  ∀ w, spelling i = some w → WellFormed i = true ∧ argumentCount w.code.toNat = some w.args.length

/-- A spelling that is known settles the statement. -/
theorem of_spelling {i : Instr} {w : Spelling} (h : spelling i = some w) (hw : WellFormed i = true)
    (ha : argumentCount w.code.toNat = some w.args.length) : Statement i := by
  intro v hv
  rw [h] at hv
  cases hv
  exact ⟨hw, ha⟩

/-- An event of another interface has no spelling. -/
theorem of_none {i : Instr} (h : spelling i = none) : Statement i := by
  intro v hv
  rw [h] at hv
  cases hv

theorem hardReset : Statement .hardReset := of_none rfl

theorem i2cStart : Statement .i2cStart := of_none rfl

theorem i2cStop : Statement .i2cStop := of_none rfl

theorem addressByte (b : Byte) : Statement (.addressByte b) := of_none rfl

theorem leadByte (b : Byte) : Statement (.leadByte b) := of_none rfl

theorem argumentByte (b : Byte) : Statement (.argumentByte b) := of_none rfl

theorem discardByte (b : Byte) : Statement (.discardByte b) := of_none rfl

theorem readByte (ack : Bool) : Statement (.readByte ack) := of_none rfl

theorem readStatus (cont : Bool) : Statement (.readStatus cont) := of_spelling rfl rfl rfl

theorem readEntry (cont : Bool) (source : Byte) : Statement (.readEntry cont source) := of_spelling rfl rfl rfl

theorem writeEntry (cont : Bool) (address location port standIn : Byte)
    : Statement (.writeEntry cont address location port standIn) :=
  of_spelling rfl rfl rfl

theorem clearEntry (cont : Bool) (address : Byte) : Statement (.clearEntry cont address) := of_spelling rfl rfl rfl

theorem setPrinterAddress (cont : Bool) (address : Byte) : Statement (.setPrinterAddress cont address) :=
  of_spelling rfl rfl rfl

theorem setQuota (cont : Bool) (source : Byte) (quota : BitVec 16) : Statement (.setQuota cont source quota) :=
  of_spelling rfl rfl rfl

theorem setTrunkProfile (cont : Bool) (rate sync syncCount deadline fill : Byte) (jabber : BitVec 16) (mode ageLimit : Byte)
    : Statement (.setTrunkProfile cont rate sync syncCount deadline fill jabber mode ageLimit) :=
  of_spelling rfl rfl rfl

theorem setPortProfile (cont : Bool) (port rate parity stopBits gap peerReady : Byte)
    : Statement (.setPortProfile cont port rate parity stopBits gap peerReady) :=
  of_spelling rfl rfl rfl

theorem portEnable (cont : Bool) (port : Byte) : Statement (.portEnable cont port) := of_spelling rfl rfl rfl

theorem portStandby (cont : Bool) (port : Byte) : Statement (.portStandby cont port) := of_spelling rfl rfl rfl

theorem readPort (cont : Bool) (port : Byte) : Statement (.readPort cont port) := of_spelling rfl rfl rfl

theorem setHealthLimits (cont : Bool) (suspect isolate readmit : BitVec 16) (shift decay probe : Byte)
    : Statement (.setHealthLimits cont suspect isolate readmit shift decay probe) :=
  of_spelling rfl rfl rfl

theorem setWeights (cont : Bool) (weights : Weights) : Statement (.setWeights cont weights) := of_spelling rfl rfl rfl

theorem readHealth (cont : Bool) (selector : Byte) : Statement (.readHealth cont selector) := of_spelling rfl rfl rfl

theorem forceIsolate (cont : Bool) (selector : Byte) : Statement (.forceIsolate cont selector) :=
  of_spelling rfl rfl rfl

theorem forceReadmit (cont : Bool) (selector : Byte) : Statement (.forceReadmit cont selector) :=
  of_spelling rfl rfl rfl

theorem setMayIsolate (cont : Bool) (selector flag : Byte) : Statement (.setMayIsolate cont selector flag) :=
  of_spelling rfl rfl rfl

theorem setPrintProfile (cont : Bool) (cable resume formFeed ackTimeout releaseGap idleTimeout : Byte) (lowMark : BitVec 16)
    : Statement (.setPrintProfile cont cable resume formFeed ackTimeout releaseGap idleTimeout lowMark) :=
  of_spelling rfl rfl rfl

theorem printerEnable (cont : Bool) : Statement (.printerEnable cont) := of_spelling rfl rfl rfl

theorem printerDisable (cont : Bool) : Statement (.printerDisable cont) := of_spelling rfl rfl rfl

theorem readPrinter (cont : Bool) : Statement (.readPrinter cont) := of_spelling rfl rfl rfl

theorem listJobs (cont : Bool) : Statement (.listJobs cont) := of_spelling rfl rfl rfl

theorem readJob (cont : Bool) (id : Byte) : Statement (.readJob cont id) := of_spelling rfl rfl rfl

theorem holdJob (cont : Bool) (id : Byte) : Statement (.holdJob cont id) := of_spelling rfl rfl rfl

theorem releaseJob (cont : Bool) (id : Byte) : Statement (.releaseJob cont id) := of_spelling rfl rfl rfl

theorem cancelJob (cont : Bool) (id : Byte) : Statement (.cancelJob cont id) := of_spelling rfl rfl rfl

theorem promoteJob (cont : Bool) (id : Byte) : Statement (.promoteJob cont id) := of_spelling rfl rfl rfl

theorem resumePrinter (cont : Bool) : Statement (.resumePrinter cont) := of_spelling rfl rfl rfl

theorem setAlerts (cont : Bool) (alerts reports : BitVec 16) : Statement (.setAlerts cont alerts reports) :=
  of_spelling rfl rfl rfl

theorem clearCauses (cont : Bool) (causes : BitVec 16) : Statement (.clearCauses cont causes) :=
  of_spelling rfl rfl rfl

theorem readReport (cont : Bool) : Statement (.readReport cont) := of_spelling rfl rfl rfl

theorem restart (cont : Bool) (kind : Byte) : Statement (.restart cont kind) := of_spelling rfl rfl rfl

theorem addressCharacterTaken (seg : Seg) (kind : BurstKind) (station : Address) (quiet : Nat)
    : Statement (.addressCharacterTaken seg kind station quiet) :=
  of_none rfl

theorem burstEnd (seg : Seg) (inside : Bool) : Statement (.burstEnd seg inside) := of_none rfl

theorem jabber (seg : Seg) : Statement (.jabber seg) := of_none rfl

theorem forwardHeldStart (quiet : Nat) : Statement (.forwardHeldStart quiet) := of_none rfl

theorem transmitterBurstEnd (seg : Seg) : Statement (.transmitterBurstEnd seg) := of_none rfl

theorem pollMissWindowExpiry (seg : Seg) : Statement (.pollMissWindowExpiry seg) := of_none rfl

theorem replyStartPoint (quiet : Nat) : Statement (.replyStartPoint quiet) := of_none rfl

theorem replyDeadlineExpiry : Statement .replyDeadlineExpiry := of_none rfl

theorem fillBudgetExhausted : Statement .fillBudgetExhausted := of_none rfl

theorem minuteTimerExpiry : Statement .minuteTimerExpiry := of_none rfl

theorem portCharacterTaken (port : PortNo) (value : Byte) (parityBit stopBit : Bool)
    : Statement (.portCharacterTaken port value parityBit stopBit) :=
  of_none rfl

theorem frameComplete (port : PortNo) (value : Byte) (parityBit stopBit : Bool)
    : Statement (.frameComplete port value parityBit stopBit) :=
  of_none rfl

theorem frameGapExpiry (port : PortNo) : Statement (.frameGapExpiry port) := of_none rfl

theorem breakRecognized (port : PortNo) : Statement (.breakRecognized port) := of_none rfl

theorem breakEnd (port : PortNo) : Statement (.breakEnd port) := of_none rfl

theorem peerReadyAsserted (port : PortNo) : Statement (.peerReadyAsserted port) := of_none rfl

theorem peerReadyDeasserted (port : PortNo) : Statement (.peerReadyDeasserted port) := of_none rfl

theorem detachTimerExpiry (port : PortNo) : Statement (.detachTimerExpiry port) := of_none rfl

theorem portFrameSent (port : PortNo) : Statement (.portFrameSent port) := of_none rfl

theorem jobIdleTimeout (id : Byte) : Statement (.jobIdleTimeout id) := of_none rfl

theorem printerLineChange (line : PrinterLine) (high : Bool) : Statement (.printerLineChange line high) := of_none rfl

theorem packEdge : Statement .packEdge := of_none rfl

theorem ackTimerExpiry : Statement .ackTimerExpiry := of_none rfl

theorem pgntChange (high : Bool) : Statement (.pgntChange high) := of_none rfl

theorem releaseTimerExpiry : Statement .releaseTimerExpiry := of_none rfl

theorem decayTimerExpiry : Statement .decayTimerExpiry := of_none rfl

theorem probeTimerExpiry : Statement .probeTimerExpiry := of_none rfl

theorem probePollStart (quiet : Nat) : Statement (.probePollStart quiet) := of_none rfl

theorem probePollDeadline : Statement .probePollDeadline := of_none rfl

theorem probeWindowExpiry : Statement .probeWindowExpiry := of_none rfl

theorem secondsCounterTick : Statement .secondsCounterTick := of_none rfl

theorem lineActivityStart (seg : Seg) : Statement (.lineActivityStart seg) := of_none rfl

theorem syncMatch (seg : Seg) : Statement (.syncMatch seg) := of_none rfl

theorem trunkCharacterTaken (seg : Seg) (ch : TrunkChar) : Statement (.trunkCharacterTaken seg ch) := of_none rfl

theorem idleRecognized (seg : Seg) : Statement (.idleRecognized seg) := of_none rfl

theorem portStartBit (port : PortNo) : Statement (.portStartBit port) := of_none rfl

end Sys2Proof.Laws.Spelled
end

