-- ==== Sys2Proof/Laws/Routing.lean ====
section
/-! SUPPORT. What every operation does to the routing of the directory: nothing but the directory's own operations changes
more of an entry than its held count. -/

set_option linter.unnecessarySeqFocus false
set_option linter.unusedTactic false
set_option linter.unreachableTactic false
set_option linter.unusedSimpArgs false

namespace Sys2Proof.Machine

/-- An entry but for its held count. -/
def Directory.route (d : Directory) (a : Address) : Entry := { d.entries[a] with held := 0 }

variable (s : State)

theorem State.location_of_route {s t : State} {a : Address} (h : t.sd.route a = s.sd.route a) :
    (t.entry a).location = (s.entry a).location := by
  have h := congrArg Entry.location h
  exact h

theorem State.origin_of_route {s t : State} {a : Address} (h : t.sd.route a = s.sd.route a) :
    (t.entry a).origin = (s.entry a).origin := by
  have h := congrArg Entry.origin h
  exact h

@[simp] theorem State.route_setHeld (src : Source) (k : Nat) (a : Address) :
    (s.setHeld src k).sd.route a = s.sd.route a := by
  have h := s.entry_setHeld src k a
  simp only [State.entry] at h
  simp only [Directory.route]
  rw [h]

@[simp] theorem State.route_admitText (j : Job) (text : List Byte) (a' : Address) :
    (s.admitText j text).sd.route a' = s.sd.route a' := by
  unfold State.admitText; (try dsimp only); (repeat' split) <;> (try dsimp only) <;> (repeat' split) <;>
    simp

@[simp] theorem State.route_removeJob (j : Job) (e : Ending) (a' : Address) :
    (s.removeJob j e).sd.route a' = s.sd.route a' := by
  unfold State.removeJob; (try dsimp only); (repeat' split) <;> (try dsimp only) <;> (repeat' split) <;>
    simp

@[simp] theorem State.route_discardOpen (n : PortNo) (a' : Address) :
    (s.discardOpen n).sd.route a' = s.sd.route a' := by
  unfold State.discardOpen; (try dsimp only); (repeat' split) <;> (try dsimp only) <;> (repeat' split) <;>
    simp

@[simp] theorem State.route_endJob (e : Ending) (a' : Address) :
    (s.endJob e).sd.route a' = s.sd.route a' := by
  unfold State.endJob; (try dsimp only); (repeat' split) <;> (try dsimp only) <;> (repeat' split) <;>
    simp

@[simp] theorem State.route_copyEnd (j : Job) (a' : Address) :
    (s.copyEnd j).sd.route a' = s.sd.route a' := by
  unfold State.copyEnd; (try dsimp only); (repeat' split) <;> (try dsimp only) <;> (repeat' split) <;>
    simp

@[simp] theorem State.route_textTaken (j : Job) (p : Position) (a' : Address) :
    (s.textTaken j p).sd.route a' = s.sd.route a' := by
  unfold State.textTaken; (try dsimp only); (repeat' split) <;> (try dsimp only) <;> (repeat' split) <;>
    simp

@[simp] theorem State.route_characterTaken (a' : Address) :
    (s.characterTaken).sd.route a' = s.sd.route a' := by
  unfold State.characterTaken; (try dsimp only); (repeat' split) <;> (try dsimp only) <;> (repeat' split) <;>
    simp

@[simp] theorem State.route_characterLost (a' : Address) :
    (s.characterLost).sd.route a' = s.sd.route a' := by
  unfold State.characterLost; (try dsimp only); (repeat' split) <;> (try dsimp only) <;> (repeat' split) <;>
    simp

@[simp] theorem State.route_stopEngine (a' : Address) :
    (s.stopEngine).sd.route a' = s.sd.route a' := by
  unfold State.stopEngine; (try dsimp only); (repeat' split) <;> (try dsimp only) <;> (repeat' split) <;>
    simp

@[simp] theorem State.route_closeJob (j : Job) (a' : Address) :
    (s.closeJob j).sd.route a' = s.sd.route a' := by
  unfold State.closeJob; (try dsimp only); (repeat' split) <;> (try dsimp only) <;> (repeat' split) <;>
    simp

@[simp] theorem State.route_cancelJob (j : Job) (a' : Address) :
    (s.cancelJob j).sd.route a' = s.sd.route a' := by
  unfold State.cancelJob; (try dsimp only); (repeat' split) <;> (try dsimp only) <;> (repeat' split) <;>
    simp

@[simp] theorem State.route_idleExpired (j : Job) (a' : Address) :
    (s.idleExpired j).sd.route a' = s.sd.route a' := by
  unfold State.idleExpired; (try dsimp only); (repeat' split) <;> (try dsimp only) <;> (repeat' split) <;>
    simp

@[simp] theorem State.route_printEffect (src : Source) (k : Byte) (p : List Byte) (a' : Address) :
    (s.printEffect src k p).sd.route a' = s.sd.route a' := by
  unfold State.printEffect; (try dsimp only); (repeat' split) <;> (try dsimp only) <;> (repeat' split) <;>
    simp

@[simp] theorem State.route_primaryClose (a' : Address) :
    (s.primaryClose).sd.route a' = s.sd.route a' := by
  unfold State.primaryClose; (try dsimp only); (repeat' split) <;> (try dsimp only) <;> (repeat' split) <;>
    simp

@[simp] theorem State.route_isolatePort (n : PortNo) (a' : Address) :
    (s.isolatePort n).sd.route a' = s.sd.route a' := by
  unfold State.isolatePort; (try dsimp only); (repeat' split) <;> (try dsimp only) <;> (repeat' split) <;>
    simp

@[simp] theorem State.route_isolateObject (o : ObjectId) (a' : Address) :
    (s.isolateObject o).sd.route a' = s.sd.route a' := by
  unfold State.isolateObject; (try dsimp only); (repeat' split) <;> (try dsimp only) <;> (repeat' split) <;>
    simp

@[simp] theorem State.route_evaluate (o : ObjectId) (a' : Address) :
    (s.evaluate o).sd.route a' = s.sd.route a' := by
  unfold State.evaluate; (try dsimp only); (repeat' split) <;> (try dsimp only) <;> (repeat' split) <;>
    simp

@[simp] theorem State.route_addScore (o : ObjectId) (w : Nat) (a' : Address) :
    (s.addScore o w).sd.route a' = s.sd.route a' := by
  unfold State.addScore; (try dsimp only); (repeat' split) <;> (try dsimp only) <;> (repeat' split) <;>
    simp

@[simp] theorem State.route_chargeStation (a : Address) (w : Byte) (a' : Address) :
    (s.chargeStation a w).sd.route a' = s.sd.route a' := by
  unfold State.chargeStation; (try dsimp only); (repeat' split) <;> (try dsimp only) <;> (repeat' split) <;>
    simp

@[simp] theorem State.route_chargeSegment (g : Seg) (w : Byte) (a' : Address) :
    (s.chargeSegment g w).sd.route a' = s.sd.route a' := by
  unfold State.chargeSegment; (try dsimp only); (repeat' split) <;> (try dsimp only) <;> (repeat' split) <;>
    simp

@[simp] theorem State.route_chargePort (n : PortNo) (w : Byte) (a' : Address) :
    (s.chargePort n w).sd.route a' = s.sd.route a' := by
  unfold State.chargePort; (try dsimp only); (repeat' split) <;> (try dsimp only) <;> (repeat' split) <;>
    simp

@[simp] theorem State.route_probeFailure (o : ObjectId) (a' : Address) :
    (s.probeFailure o).sd.route a' = s.sd.route a' := by
  unfold State.probeFailure; (try dsimp only); (repeat' split) <;> (try dsimp only) <;> (repeat' split) <;>
    simp

@[simp] theorem State.route_probeCredit (o : ObjectId) (a' : Address) :
    (s.probeCredit o).sd.route a' = s.sd.route a' := by
  unfold State.probeCredit; (try dsimp only); (repeat' split) <;> (try dsimp only) <;> (repeat' split) <;>
    simp

@[simp] theorem State.route_pollMiss (g : Seg) (a : Address) (a' : Address) :
    (s.pollMiss g a).sd.route a' = s.sd.route a' := by
  unfold State.pollMiss; (try dsimp only); (repeat' split) <;> (try dsimp only) <;> (repeat' split) <;>
    simp

@[simp] theorem State.route_chargeConflict (g : Seg) (a' : Address) :
    (s.chargeConflict g).sd.route a' = s.sd.route a' := by
  unfold State.chargeConflict; (try dsimp only); (repeat' split) <;> (try dsimp only) <;> (repeat' split) <;>
    simp

@[simp] theorem State.route_enterStandby (n : PortNo) (a' : Address) :
    (s.enterStandby n).sd.route a' = s.sd.route a' := by
  unfold State.enterStandby; (try dsimp only); (repeat' split) <;> (try dsimp only) <;> (repeat' split) <;>
    simp

@[simp] theorem State.route_finishStopping (n : PortNo) (a' : Address) :
    (s.finishStopping n).sd.route a' = s.sd.route a' := by
  unfold State.finishStopping; (try dsimp only); (repeat' split) <;> (try dsimp only) <;> (repeat' split) <;>
    simp

@[simp] theorem State.route_conflict (g : Seg) (a : Address) (a' : Address) :
    (s.conflict g a).sd.route a' = s.sd.route a' := by
  unfold State.conflict; (try dsimp only); (repeat' split) <;> (try dsimp only) <;> (repeat' split) <;>
    simp

@[simp] theorem State.route_probeOutcome (p : Probe) (b : Bool) (a' : Address) :
    (s.probeOutcome p b).sd.route a' = s.sd.route a' := by
  unfold State.probeOutcome; (try dsimp only); (repeat' split) <;> (try dsimp only) <;> (repeat' split) <;>
    simp

@[simp] theorem State.route_assessSegment (a' : Address) :
    (s.assessSegment).sd.route a' = s.sd.route a' := by
  unfold State.assessSegment; (try dsimp only); (repeat' split) <;> (try dsimp only) <;> (repeat' split) <;>
    simp

@[simp] theorem State.route_assessPort (n : PortNo) (a' : Address) :
    (s.assessPort n).sd.route a' = s.sd.route a' := by
  unfold State.assessPort; (try dsimp only); (repeat' split) <;> (try dsimp only) <;> (repeat' split) <;>
    simp

@[simp] theorem State.route_probeExpiry (a' : Address) :
    (s.probeExpiry).sd.route a' = s.sd.route a' := by
  unfold State.probeExpiry; dsimp only
  rw [foldl_kept (fun t : State => t.sd.route a') (fun t n => t.route_assessPort n a')]; split <;> simp

@[simp] theorem State.route_portEvidence (n : PortNo) (a' : Address) :
    (s.portEvidence n).sd.route a' = s.sd.route a' := by
  unfold State.portEvidence; (try dsimp only); (repeat' split) <;> (try dsimp only) <;> (repeat' split) <;>
    simp

@[simp] theorem State.route_armWatch (g : Seg) (a : Address) (a' : Address) :
    (s.armWatch g a).sd.route a' = s.sd.route a' := by
  unfold State.armWatch; (try dsimp only); (repeat' split) <;> (try dsimp only) <;> (repeat' split) <;>
    simp

@[simp] theorem State.route_resolveWatch (g : Seg) (a : Address) (a' : Address) :
    (s.resolveWatch g a).sd.route a' = s.sd.route a' := by
  unfold State.resolveWatch; (try dsimp only); (repeat' split) <;> (try dsimp only) <;> (repeat' split) <;>
    simp

@[simp] theorem State.route_forwardNow (g : Seg) (k : BurstKind) (a : Address) (q : Nat) (a' : Address) :
    (s.forwardNow g k a q).sd.route a' = s.sd.route a' := by
  unfold State.forwardNow; (try dsimp only); (repeat' split) <;> (try dsimp only) <;> (repeat' split) <;>
    simp

@[simp] theorem State.route_holdForward (k : BurstKind) (a : Address) (a' : Address) :
    (s.holdForward k a).sd.route a' = s.sd.route a' := by
  unfold State.holdForward; (try dsimp only); (repeat' split) <;> (try dsimp only) <;> (repeat' split) <;>
    simp

@[simp] theorem State.route_forwardToB (k : BurstKind) (a : Address) (q : Nat) (a' : Address) :
    (s.forwardToB k a q).sd.route a' = s.sd.route a' := by
  unfold State.forwardToB; (try dsimp only); (repeat' split) <;> (try dsimp only) <;> (repeat' split) <;>
    simp

@[simp] theorem State.route_forwardToA (k : BurstKind) (a : Address) (b : Bool) (q : Nat) (a' : Address) :
    (s.forwardToA k a b q).sd.route a' = s.sd.route a' := by
  unfold State.forwardToA; (try dsimp only); (repeat' split) <;> (try dsimp only) <;> (repeat' split) <;>
    simp

@[simp] theorem State.route_probeSees (a : Address) (a' : Address) :
    (s.probeSees a).sd.route a' = s.sd.route a' := by
  unfold State.probeSees; (try dsimp only); (repeat' split) <;> (try dsimp only) <;> (repeat' split) <;>
    simp

@[simp] theorem State.route_addressTaken (g : Seg) (k : BurstKind) (a : Address) (q : Nat) (a' : Address) :
    (s.addressTaken g k a q).sd.route a' = s.sd.route a' := by
  unfold State.addressTaken; (try dsimp only); (repeat' split) <;> (try dsimp only) <;> (repeat' split) <;>
    simp

@[simp] theorem State.route_probeReplyEnds (g : Seg) (b : Bool) (a' : Address) :
    (s.probeReplyEnds g b).sd.route a' = s.sd.route a' := by
  unfold State.probeReplyEnds; (try dsimp only); (repeat' split) <;> (try dsimp only) <;> (repeat' split) <;>
    simp

@[simp] theorem State.route_armAfterCopy (g : Seg) (c : Copy) (a' : Address) :
    (s.armAfterCopy g c).sd.route a' = s.sd.route a' := by
  unfold State.armAfterCopy; (try dsimp only); (repeat' split) <;> (try dsimp only) <;> (repeat' split) <;>
    simp

@[simp] theorem State.route_cutCopy (g : Seg) (a' : Address) :
    (s.cutCopy g).sd.route a' = s.sd.route a' := by
  unfold State.cutCopy; (try dsimp only); (repeat' split) <;> (try dsimp only) <;> (repeat' split) <;>
    simp

@[simp] theorem State.route_chargeJabber (g : Seg) (a' : Address) :
    (s.chargeJabber g).sd.route a' = s.sd.route a' := by
  unfold State.chargeJabber; (try dsimp only); (repeat' split) <;> (try dsimp only) <;> (repeat' split) <;>
    simp

@[simp] theorem State.route_jabbers (g : Seg) (a' : Address) :
    (s.jabbers g).sd.route a' = s.sd.route a' := by
  unfold State.jabbers; (try dsimp only); (repeat' split) <;> (try dsimp only) <;> (repeat' split) <;>
    simp

@[simp] theorem State.route_copyEnds (g : Seg) (c : Copy) (a' : Address) :
    (s.copyEnds g c).sd.route a' = s.sd.route a' := by
  unfold State.copyEnds; (try dsimp only); (repeat' split) <;> (try dsimp only) <;> (repeat' split) <;>
    simp

@[simp] theorem State.route_transmitterEnds (g : Seg) (a' : Address) :
    (s.transmitterEnds g).sd.route a' = s.sd.route a' := by
  unfold State.transmitterEnds; (try dsimp only); (repeat' split) <;> (try dsimp only) <;> (repeat' split) <;>
    simp

@[simp] theorem State.route_printFrame (n : PortNo) (k : Byte) (p : List Byte) (a' : Address) :
    (s.printFrame n k p).sd.route a' = s.sd.route a' := by
  unfold State.printFrame; (try dsimp only); (repeat' split) <;> (try dsimp only) <;> (repeat' split) <;>
    simp

@[simp] theorem State.route_goodFrame (n : PortNo) (k : Byte) (p : List Byte) (a' : Address) :
    (s.goodFrame n k p).sd.route a' = s.sd.route a' := by
  unfold State.goodFrame; (try dsimp only); (repeat' split) <;> (try dsimp only) <;> (repeat' split) <;>
    simp

@[simp] theorem State.route_applyFrame (n : PortNo) (r : PortRx) (v : FrameVerdict) (a' : Address) :
    (s.applyFrame n r v).sd.route a' = s.sd.route a' := by
  unfold State.applyFrame; (try dsimp only); (repeat' split) <;> (try dsimp only) <;> (repeat' split) <;>
    simp

@[simp] theorem State.route_charError (n : PortNo) (e : Bool) (a' : Address) :
    (s.charError n e).sd.route a' = s.sd.route a' := by
  unfold State.charError; (try dsimp only); (repeat' split) <;> (try dsimp only) <;> (repeat' split) <;>
    simp

@[simp] theorem State.route_frameEvent (n : PortNo) (v : FrameVerdict) (a' : Address) :
    (s.frameEvent n v).sd.route a' = s.sd.route a' := by
  unfold State.frameEvent; (try dsimp only); (repeat' split) <;> (try dsimp only) <;> (repeat' split) <;>
    simp

@[simp] theorem State.route_frameEnds (n : PortNo) (r : PortRx) (o : Bool) (c : Byte) (e : Bool) (a' : Address) :
    (s.frameEnds n r o c e).sd.route a' = s.sd.route a' := by
  unfold State.frameEnds; (try dsimp only); (repeat' split) <;> (try dsimp only) <;> (repeat' split) <;>
    simp

@[simp] theorem State.route_frameGoesOn (n : PortNo) (r : PortRx) (e : Bool) (a' : Address) :
    (s.frameGoesOn n r e).sd.route a' = s.sd.route a' := by
  unfold State.frameGoesOn; (try dsimp only); (repeat' split) <;> (try dsimp only) <;> (repeat' split) <;>
    simp

@[simp] theorem State.route_portCharacter (n : PortNo) (v : Byte) (e : Bool) (a' : Address) :
    (s.portCharacter n v e).sd.route a' = s.sd.route a' := by
  unfold State.portCharacter; (try dsimp only); (repeat' split) <;> (try dsimp only) <;> (repeat' split) <;>
    simp

@[simp] theorem State.route_gapExpires (n : PortNo) (a' : Address) :
    (s.gapExpires n).sd.route a' = s.sd.route a' := by
  unfold State.gapExpires; (try dsimp only); (repeat' split) <;> (try dsimp only) <;> (repeat' split) <;>
    simp

@[simp] theorem State.route_breakBegins (n : PortNo) (a' : Address) :
    (s.breakBegins n).sd.route a' = s.sd.route a' := by
  unfold State.breakBegins; (try dsimp only); (repeat' split) <;> (try dsimp only) <;> (repeat' split) <;>
    simp

@[simp] theorem State.route_stopPort (n : PortNo) (a' : Address) :
    (s.stopPort n).sd.route a' = s.sd.route a' := by
  unfold State.stopPort; (try dsimp only); (repeat' split) <;> (try dsimp only) <;> (repeat' split) <;>
    simp

@[simp] theorem State.route_evaluateAll (l : List ObjectId) (a' : Address) :
    (s.evaluateAll l).sd.route a' = s.sd.route a' := foldl_kept (fun t : State => t.sd.route a') (fun t o => t.route_evaluate o a') _ s

@[simp] theorem State.route_forceIsolate (o : ObjectId) (a' : Address) :
    (s.forceIsolate o).sd.route a' = s.sd.route a' := by
  unfold State.forceIsolate; (try dsimp only); (repeat' split) <;> (try dsimp only) <;> (repeat' split) <;>
    simp

@[simp] theorem State.route_setMayIsolate (o : ObjectId) (b : Bool) (a' : Address) :
    (s.setMayIsolate o b).sd.route a' = s.sd.route a' := by
  unfold State.setMayIsolate; (try dsimp only); (repeat' split) <;> (try dsimp only) <;> (repeat' split) <;>
    simp

@[simp] theorem State.route_decay (o : ObjectId) (a' : Address) :
    (s.decay o).sd.route a' = s.sd.route a' := by
  unfold State.decay; (try dsimp only); (repeat' split) <;> (try dsimp only) <;> (repeat' split) <;>
    simp

end Sys2Proof.Machine
end

