-- ==== Sys2Proof/Tests/Slice0.lean ====
section
/-! SUPPORT. Tests of single events, their expected values taken from the spec's rules and worked sequences, and the
witnesses: for every statement with hypotheses, concrete states and operands that meet them. -/

namespace Sys2Proof.Tests

open Sys2Proof Sys2Proof.Machine

/-! ### Helpers -/

/-- The next state of an outcome. No test here meets another outcome: `test_outcome` shows that one would not pass. -/
def next : Result → State
  | .next t => t
  | _ => { State.reset with draws := 99 }

/-- The state after a few events. -/
def after (s : State) (cs : List Instr) : State := cs.foldl (fun t c => next (exec c t)) s

/-- The status that a command leaves in the response buffer. -/
def status (c : Instr) (s : State) : Status := (next (exec c s)).al.response.status

/-- A port that is ONLINE, with its desk's peer-ready asserted. -/
def online : Port := { Port.atReset .default true false with state := .online }

/-- Port 2 as given, mapped to address 12 (the office of chapter 12). -/
def office (p : Port) : State := (State.reset.setEntry 12 { Entry.unused with location := .port 2 }).setPort 2 p

/-- Station 17 LEARNED on segment B with stand-in OFFLINE, station 5 STATIC on segment A. -/
def coax : State :=
  (State.reset.setEntry 17 { Entry.unused with location := .segB, origin := .learned, standIn := .offline }).setEntry 5
    { Entry.unused with location := .segA }

/-- A receiver that has taken an address character, or none yet, and the data characters of a body. -/
def burst (s : State) (g : Seg) (address : Option (BurstKind × Address)) (body : List Byte) : State :=
  s.setSeg g { s.seg g with
    activity := some 0
    rx := { phase := .inBurst, malformed := false, address, body, endsInMark := false } }

/-- A port with a frame complete but for its CHECK. -/
def framed (p : Port) (kind : Byte) (payload : List Byte) : Port :=
  { p with
    rx := { phase := .check, kind, len := byteOf payload.length, payload, errorMark := false }
    gapTimer := some 50 }

/-- The administration link in a phase. -/
def linked (s : State) (phase : LinkPhase) : State := { s with al := { s.al with phase } }

/-- A health object at a score, in a state. -/
def scored (s : State) (o : ObjectId) (score : Nat) (state : Health) : State :=
  s.setObject o { s.object o with score, state }

/-- A reply context that waits at the printer, at a desk or at the stand-in. -/
def waiting (s : State) (request : Request) (handling : Handling) : State :=
  { s with pr := .waiting { station := 12, request, handling, standIn := .offline, deadline := 16 } }

/-- A job of PRIMARY with one block, block 0, that holds the characters `A` and `B`. -/
def oneJob (state : JobState) : Job :=
  { id := 1, source := .primary, state, priority := .normal, copies := 1, copiesDone := 0, count := 2, chain := [0]
    position := none, pageMark := none, idleTimer := none }

/-- The part with that job alone, in the queue unless it is OPEN. -/
def spooled (j : Job) : State :=
  { State.reset with
    sd := { State.reset.sd with primaryHeld := 1 }
    sm := { State.reset.sm with
      memory := [(0, 0x41), (1, 0x42)]
      free := (List.finRange 511).map Fin.succ
      jobs := [j], lastId := 1, queue := if j.closed then [1] else [] } }

/-- The engine with a ready printer, PBUSY low, in a state. -/
def readyEngine (s : State) (state : EngineState) : State :=
  { s with pe := { s.pe with state, psel := true, ppe := false, pfltN := true, pbusy := false } }

/-- The one job PRINTING, its character at an offset of block 0 strobed and not yet acknowledged. -/
def printing (offset : Fin 64) : State :=
  let s := readyEngine
    (spooled { oneJob .printing with position := some ⟨0, offset⟩, pageMark := some ⟨0, 0⟩ }) .running
  { s with pe := { s.pe with job := some 1, handshake := .ack, ackTimer := some 5000 } }

theorem test_outcome : (next (.refused (.notModelled ""))).draws = 99 := by decide

/-! ### Well-formedness, decoding and the machine -/

theorem test_wellFormed_refuses_job_0 : WellFormed (.jobIdleTimeout 0) = false := by decide

theorem test_wellFormed_accepts_job_255 : WellFormed (.jobIdleTimeout 255) = true := by decide

theorem test_no_word_spells_a_command : decodeTableWord 16 0xFFFF = none := by decide

theorem test_core_steps : core.step State.reset = step State.reset := rfl

/-- R182: POLL(0) is 0x00, SELECT(62) 0x7E, REPLY(62) 0xBE, each with marker 1; FILL is 0xFE with marker 1. -/
theorem test_address_characters :
    (addressChar .poll 0, addressChar .select 62, addressChar .reply 62, fillChar) = (0x100#9, 0x17E#9, 0x1BE#9, 0x1FE#9) := by
  decide

/-- R183: NIL ends with check 0xFE, a STATUS probe poll with 0xFF. Sequence 1: the CHECK of POLICY is 0x29, the DATA reply's
0x2F, and the ACK frame is 0xA5, 0x81, 1, 0x01, 0x7D. -/
theorem test_checks :
    (checkByte [0x02], checkByte [0x01]) = (0xFE#8, 0xFF#8) ∧
    checkByte [0x01, 6, 0x50, 0x4F, 0x4C, 0x49, 0x43, 0x59] = 0x29 ∧
    checkByte [0x01, 0x50, 0x4F, 0x4C, 0x49, 0x43, 0x59] = 0x2F ∧
    (SentFrame.response (.ack 0x01)).bytes = [0xA5, 0x81, 1, 0x01, 0x7D] := by decide

/-- R182: the default sync character is sent as 0, 1, 1, 0, 1, 0, 0, 1 and marker 0; POLL(17) ends in marker 1. -/
theorem test_trunk_bits :
    trunkBits 0x096 = [false, true, true, false, true, false, false, true, false] ∧
    trunkBits (addressChar .poll 17) = [true, false, false, false, true, false, false, false, true] := by decide

/-- R184: 0x41 under NONE and one stop bit, and under ODD and two stop bits: its two 1s take a parity bit of 1. -/
theorem test_desk_bits :
    PortProfile.default.charBits 0x41 = [false, true, false, false, false, false, false, true, false, true] ∧
    ({ PortProfile.default with parity := .odd, stopBits := 2 } : PortProfile).charBits 0x41 =
      [false, true, false, false, false, false, false, true, false, true, true, true] := by decide

/-- R62: under EVEN and two stop bits 0x41 is start, its eight bits, parity 0 and a stop bit, and the second stop bit is not examined;
a stop bit at space is a framing error. -/
theorem test_desk_sampling :
    let p : PortProfile := { PortProfile.default with parity := .even, stopBits := 2 }
    p.charOf [false, true, false, false, false, false, false, true, false, false, true, false] = ⟨0x41, false, true⟩ ∧
    p.samples = 11 ∧ startsCharacter true false = true ∧
    (after (office online) [(PortProfile.default.charOf [false, true, false, true, false, false, true, false, true, true]).command 2]).port 2
      = (after (office online) [.portCharacterTaken 2 0xA5 false true]).port 2 ∧
    (PortProfile.default.charOf [false, true, false, true, false, false, true, false, true, false]).command 2 =
      .portCharacterTaken 2 0xA5 false false := by decide

/-- R168: 0x98 goes over SDA as 1, 0, 0, 1, 1, 0, 0, 0; the acknowledge bit of a byte with the part's own address is low, and SDA
falling under a high SCL is a START. -/
theorem test_sda :
    sdaBits 0x98 = [true, false, false, true, true, false, false, false] ∧
    (after State.reset [.i2cStart, .addressByte 0x98]).al.sdaOfTakenByte.getLast? = some false ∧
    (after State.reset [.i2cStart, .addressByte 0x9A]).al.sdaOfTakenByte.getLast? = some true ∧
    busCondition ⟨true, true⟩ ⟨true, false⟩ = some .start ∧ busCondition ⟨false, true⟩ ⟨false, false⟩ = none := by decide

/-! ### The administration link -/

/-- R181: after a hard reset the buffer holds NONE and index 0; the straps select the target 0x4F (R168). -/
theorem test_hardReset :
    (after { State.reset with al := { State.reset.al with straps := 3 } } [.hardReset, .i2cStart, .addressByte 0x9E]).al.phase =
      .lead ∧
    (after (spooled (oneJob .queued)) [.hardReset]).al.response = ⟨.none, 0, []⟩ := by decide

/-- R181: a transaction under way at a hard reset is abandoned, and its next byte, the part's own address even, is not acknowledged;
R109: the strobe of an unacknowledged character is ended, and PD0 to PD7 are 0x00. -/
theorem test_hardReset_abandons :
    let s := after State.reset [.i2cStart, .addressByte 0x98, .hardReset, .addressByte 0x98]
    (s.al.phase, s.al.sdaOfTakenByte.getLast?) = (.idle, some true) ∧
    (printing 0).pe.strobeLine = [false, true] ∧ (after (printing 0) [.hardReset]).pe.strobeLine = [true] ∧
    (after (printing 0) [.packEdge]).pe.dataLines = [false, true, false, false, false, false, true, false] ∧
    (after (printing 0) [.packEdge, .hardReset]).pe.dataLines = List.replicate 8 false := by decide

/-- R172: a STOP in ARGS discards the command as INCOMPLETE. -/
theorem test_i2cStop : status .i2cStop (after State.reset [.i2cStart, .addressByte 0x98, .leadByte 0x0A]) = .incomplete := by decide

/-- R169: a transaction of its address byte alone leaves the response buffer as it was. -/
theorem test_i2cStart : status .i2cStart (after State.reset [.i2cStart, .addressByte 0x98]) = .none := by decide

/-- R168: 0x4C with the read direction is 0x99. -/
theorem test_addressByte :
    (after State.reset [.i2cStart, .addressByte 0x99]).al.phase = .reading ∧
    (after State.reset [.i2cStart, .addressByte 0x9A]).al.acknowledged = false := by decide

/-- R171: code 0x7F names no command. R185: 0x81 is READ_STATUS with continuation 1. -/
theorem test_leadByte :
    status (.leadByte 0x7F) (linked State.reset .lead) = .unknownCommand ∧
    (after (linked State.reset .lead) [.leadByte 0x81]).al.index = 1 := by decide

/-- R185: SET_QUOTA of PRIMARY to 0x0102 blocks, most significant byte first. -/
theorem test_argumentByte :
    (after (linked State.reset .lead) [.leadByte 0x06, .argumentByte 0x40, .argumentByte 0x01,
      .argumentByte 0x02]).sd.primaryQuota = 258 := by decide

theorem test_discardByte : (after (linked State.reset .discard) [.discardByte 0x01]).al.acknowledged = true := by decide

/-- R174: after a hard reset a read returns NONE 0x01, index 0, and then 0xFF; after no acknowledge, nothing. -/
theorem test_readByte :
    let s := linked State.reset .reading
    [(after s [.readByte true]).al.sent, (after s [.readByte true, .readByte true]).al.sent,
     (after s [.readByte true, .readByte true, .readByte true]).al.sent, (after s [.readByte false, .readByte true]).al.sent] =
      [some 0x01, some 0x00, some 0xFF, none] := by decide

/-- R186: the free count 512 is 0x02, 0x00, and no job record stands. -/
theorem test_readStatus : (after State.reset [.readStatus false]).al.response.result.drop 22 = [0x02, 0x00, 0] := by
  decide +kernel

/-- R186, R17: PRIMARY has quota 256, and its other fields are those of an unused entry. -/
theorem test_readEntry :
    (after State.reset [.readEntry false 0x40]).al.response.result =
      [0x40, 0, 0, 0, 0, 0, 0x01, 0x00, 0, 0, 0, 0, 0, 1] ∧
    status (.readEntry false 63) State.reset = .badValue := by decide

/-- Sequence 4: IN_USE while port 3 is not STANDBY, and PORT 5 once it is. R9: case 4 comes before case 5. -/
theorem test_writeEntry :
    status (.writeEntry false 12 3 5 1) (office online) = .inUse ∧
    (after (office { online with state := .standby }) [.writeEntry false 12 3 5 1]).entry 12 =
      { Entry.unused with location := .port 5, standIn := .offline } := by decide

theorem test_clearEntry :
    (after coax [.clearEntry false 17]).entry 17 = Entry.unused ∧
    status (.clearEntry false 12) (office online) = .inUse := by decide

/-- R11: the former printer address takes location NONE. -/
theorem test_setPrinterAddress :
    let s := after State.reset [.setPrinterAddress true 40, .setPrinterAddress true 41]
    ((s.entry 40).location, (s.entry 41).location) = (.none, .printer) ∧
    status (.setPrinterAddress false 12) (office online) = .inUse := by decide

theorem test_setQuota :
    ((after State.reset [.setQuota false 62 512]).entry 62).quota = 512 ∧
    status (.setQuota false 0x40 513) State.reset = .badValue := by decide

/-- R39: J from 200 to 1023, D from 4 to 64. -/
theorem test_setTrunkProfile :
    status (.setTrunkProfile false 0 0x96 2 16 24 199 0 60) State.reset = .badValue ∧
    ((after State.reset [.setTrunkProfile false 2 0x7E 1 64 63 1023 1 0]).seg .b).profile =
      { rate := .k1000, sync := 0x7E, syncCount := 1, deadline := 64, fill := 63, jabber := 1023, mode := .filtered } := by
  decide

theorem test_setPortProfile :
    ((after State.reset [.setPortProfile false 7 7 2 2 255 1]).port 7).profile =
      { rate := 7, parity := .even, stopBits := 2, gap := 255, peerUsed := false } ∧
    status (.setPortProfile false 2 7 2 2 255 1) (office online) = .inUse := by decide

/-- R65: DETACHED without peer-ready, ONLINE with it. -/
theorem test_portEnable :
    ((after State.reset [.portEnable false 2]).port 2).state = .detached ∧
    ((after State.reset [.peerReadyAsserted 2, .portEnable false 2]).port 2).state = .online := by decide

/-- R67: a frame in reception keeps the port in STOPPING. -/
theorem test_portStandby :
    ((after (office (framed online 0x01 [0x41])) [.portStandby false 2]).port 2).state = .stopping ∧
    ((after (office online) [.portStandby false 2]).port 2).state = .standby := by decide

/-- R186: port 2, ONLINE, default profile, address 12, SRDY asserted, everything else empty. -/
theorem test_readPort :
    (after (office online) [.readPort false 2]).al.response.result =
      [2, 1, 3, 0, 1, 50, 0, 12, 1, 0, 0, 0, 0, 0, 0, 0, 0xFF, 0] := by decide

/-- R145: T_r < T_s < T_i at most 1023. -/
theorem test_setHealthLimits :
    status (.setHealthLimits false 1022 1023 1021 7 255 60) State.reset = .ok ∧
    status (.setHealthLimits false 240 240 96 3 10 2) State.reset = .badValue := by decide

theorem test_setWeights :
    (after State.reset [.setWeights false { defaultWeights with penalty := 7 }]).hm.weights.penalty = 7 := by decide

/-- R186, R130, R145: the default parameters. -/
theorem test_readHealth :
    (after State.reset [.readHealth false 0xFF]).al.response.result =
      [0, 240, 0x01, 0xE0, 0, 96, 3, 10, 2, 64, 32, 16, 8, 255, 32, 16, 16, 8, 32, 16, 16, 128, 16, 128, 64] ∧
    (after State.reset [.readHealth false 0x00]).al.response.result = [0, 0, 0, 0, 0, 0, 0] := by decide

/-- R143: segment B at 1023, ISOLATED, its line gated; segment A is refused. -/
theorem test_forceIsolate :
    ((after State.reset [.forceIsolate false 0x01]).hm.segB.score, (after State.reset [.forceIsolate false 0x01]).ti.gateB) =
      (1023, true) ∧
    status (.forceIsolate false 0x00) State.reset = .badValue := by decide

theorem test_forceReadmit :
    (after State.reset [.forceIsolate true 0x01, .forceReadmit false 0x01]).hm.segB = HealthObject.clean true ∧
    (after State.reset [.forceIsolate true 0x01, .forceReadmit false 0x01]).ti.gateB = false := by decide

/-- R144: an ISOLATED object whose flag is written false is readmitted with its score kept. -/
theorem test_setMayIsolate :
    (after State.reset [.forceIsolate true 0x01, .setMayIsolate false 0x01 0]).hm.segB =
      { score := 1023, state := .suspect, mayIsolate := false, limitMark := true } ∧
    status (.setMayIsolate false 0x00 1) State.reset = .badValue := by decide

theorem test_setPrintProfile :
    (after State.reset [.setPrintProfile false 1 1 0 60 100 255 512]).pe.profile =
      { shared := true, resumeChar := true, formFeedAtEnd := false, ackTimeout := 60, releaseGap := 100 } ∧
    status (.setPrintProfile false 0 0 0 61 10 30 32) State.reset = .badValue := by decide

/-- Sequence 3: a QUEUED job is selected and its first character presented. -/
theorem test_printerEnable :
    (after (readyEngine (spooled (oneJob .queued)) .disabled) [.printerEnable false]).pe.pd = 0x41 ∧
    (after State.reset [.printerEnable false]).pe.state = .notReady := by decide

/-- R124: a strobed character is awaited first. -/
theorem test_printerDisable :
    (after (printing 0) [.printerDisable false]).pe.state = .running ∧
    (after (printing 0) [.printerDisable false, .packEdge]).pe.state = .disabled := by decide

/-- R186: engine RUNNING, job 1, position 0:0, page mark 0:0, ACK; line levels PSEL and PFLT_N high. -/
theorem test_readPrinter :
    (after (printing 0) [.readPrinter false]).al.response.result =
      [4, 0, 1, 0, 0, 0, 0, 0, 0, 0, 0, 1, 2, 0, 0x05, 0, 0, 0, 1, 5, 10] := by decide

/-- R186: 511 free blocks; job 1, PRIMARY, QUEUED. -/
theorem test_listJobs :
    (after (spooled (oneJob .queued)) [.listJobs false]).al.response.result = [0x01, 0xFF, 1, 1, 0x40, 1] := by decide +kernel

/-- R186: two characters in block 0, no position, queue position 1. -/
theorem test_readJob :
    (after (spooled (oneJob .queued)) [.readJob false 1]).al.response.result =
      [1, 0x40, 1, 0, 1, 0, 0, 2, 0, 1, 0, 0, 0, 0, 2, 0xFF, 0xFF, 0xFF, 0xFF, 0xFF, 0xFF, 1, 0] ∧
    status (.readJob false 2) (spooled (oneJob .queued)) = .notFound := by decide

theorem test_holdJob :
    ((after (spooled (oneJob .queued)) [.holdJob false 1]).job? 1).map Job.state = some .held ∧
    status (.holdJob false 1) (printing 0) = .inUse := by decide

/-- R103: a job released while the engine is IDLE is selected at once. -/
theorem test_releaseJob :
    (after (readyEngine (spooled (oneJob .held)) .idle) [.releaseJob false 1]).pe.job = some 1 ∧
    status (.releaseJob false 1) (spooled (oneJob .opened)) = .inUse := by decide

/-- R99: the block returns to the tail of the free list. R105: the PRINTING job waits for its character. -/
theorem test_cancelJob :
    (after (spooled (oneJob .queued)) [.cancelJob false 1]).sm.free.length = 512 ∧
    (after (printing 0) [.cancelJob false 1]).pe.stopPending = true := by decide +kernel

theorem test_promoteJob :
    ((after (spooled (oneJob .queued)) [.promoteJob false 1]).job? 1).map Job.priority = some .urgent ∧
    status (.promoteJob false 0) State.reset = .badValue := by decide

/-- R121: printing goes on from the page mark. -/
theorem test_resumePrinter :
    (after (printing 1) [.ackTimerExpiry, .resumePrinter false]).pe.pd = 0x41 ∧
    (after (printing 1) [.ackTimerExpiry]).pe.state = .stalled .noResponse := by decide

/-- R159: causes 0 to 8; bit 9 names none. -/
theorem test_setAlerts :
    (after State.reset [.setAlerts false 0x100 0x1FF]).au.alerts = 0x100 ∧
    status (.setAlerts false 0x200 0) State.reset = .badValue := by decide

theorem test_clearCauses :
    (after (after State.reset [.forceIsolate true 0x01]) [.clearCauses false 0x01]).au.flags = 0 ∧
    status (.clearCauses false 0x8000) State.reset = .badValue := by decide

/-- R186: sequence 0, SEGMENT_STATE, subject B, detail ISOLATED, stamp 0. -/
theorem test_readReport :
    (after State.reset [.setAlerts true 0 0x1FF, .forceIsolate true 0x01, .readReport false]).al.response.result =
      [0, 0, 1, 0, 2, 0, 0] ∧
    status (.readReport false) State.reset = .empty := by decide

/-- R178: nothing is restarted before the end of the transaction; then the quota is the default again. -/
theorem test_restart :
    let s := after (linked State.reset .lead) [.setQuota true 0x40 5, .restart true 1]
    (s.sd.primaryQuota, (after s [.i2cStop]).sd.primaryQuota, (after s [.i2cStop]).al.response) = (5, 256, ⟨.ok, 1, []⟩) := by
  decide

/-! ### The trunk -/

/-- R24: activity starts its measure. -/
theorem test_lineActivityStart : ((after State.reset [.lineActivityStart .b]).seg .b).activity = some 0 := by decide

/-- R21: with sync count 2, one sync character is still to come. -/
theorem test_syncMatch : ((after State.reset [.syncMatch .a]).seg .a).rx.phase = .sync1 := by decide

/-- R21, R22: the second sync character opens the burst; a CONTROL character that is not FILL marks it malformed. -/
theorem test_trunkCharacterTaken :
    ((after State.reset [.syncMatch .a, .trunkCharacterTaken .a 0x096]).seg .a).rx.phase = .inBurst ∧
    ((after (burst State.reset .a none []) [.trunkCharacterTaken .a 0x1C0]).seg .a).rx.malformed = true := by decide

/-- R40: at idle a segment takes up the profile last written. -/
theorem test_idleRecognized :
    ((after State.reset [.lineActivityStart .a, .setTrunkProfile false 1 0x96 2 16 24 200 0 60]).seg .a).profile.rate = .k250 ∧
    ((after State.reset [.lineActivityStart .a, .setTrunkProfile false 1 0x96 2 16 24 200 0 60, .idleRecognized .a]).seg
      .a).profile.rate = .k500 := by decide

/-- R35: a change that meets a copy cut by jabber waits on segment B too until segment A has reached a boundary. -/
theorem test_profile_held_back :
    let cut := after (burst coax .a none []) [.addressCharacterTaken .a .poll 17 1,
      .setTrunkProfile false 1 0x96 2 16 24 200 0 60, .jabber .a]
    (cut.atBoundary .b, (cut.seg .b).profile.rate) = (true, .k250) ∧
    (let t := after cut [.idleRecognized .a]
     ((t.seg .a).profile.rate, (t.seg .b).profile.rate) = (.k500, .k500)) := by decide

/-- R32: POLL(17) is forwarded. R30: on a busy line B it is a CONFLICT of weight 32 against segment A (sequence 2). -/
theorem test_addressCharacterTaken :
    ((after (burst coax .a none []) [.addressCharacterTaken .a .poll 17 1]).seg .b).line = [0x096] ∧
    (after (burst coax .a none []) [.lineActivityStart .b, .addressCharacterTaken .a .poll 17 1]).hm.segA.score = 32 := by
  decide

/-- R12, R32: in FLOOD mode a reply on segment A is forwarded, but not one of a station STATIC at a port (log entry 27). -/
theorem test_replies_on_segmentA :
    ((after (burst coax .a none []) [.addressCharacterTaken .a .reply 17 1]).seg .b).line = [0x096] ∧
    ((after (burst (office online) .a none []) [.addressCharacterTaken .a .reply 12 1]).seg .b).line = [] := by decide

/-- R13: a valid REPLY(30) NIL on segment B is learned. Sequence 5: a bad check of station 17 gives it 64 and segment B 16. -/
theorem test_burstEnd :
    ((after (burst State.reset .b (some (.reply, 30)) [0x02, 0xFE]) [.burstEnd .b false]).entry 30) =
      { Entry.unused with location := .segB, origin := .learned } ∧
    (((after (burst coax .b (some (.reply, 17)) [0x02, 0xFD]) [.burstEnd .b false]).object (.station 17)).score,
      (after (burst coax .b (some (.reply, 17)) [0x02, 0xFD]) [.burstEnd .b false]).hm.segB.score) = (64, 16) := by
  decide

/-- Sequence 2: 255, SUSPECT, then 510, ISOLATED, with TXB gated. -/
theorem test_jabber :
    (after State.reset [.jabber .b]).hm.segB = { score := 255, state := .suspect, mayIsolate := true, limitMark := false } ∧
    (after State.reset [.jabber .b, .jabber .b]).hm.segB =
      { score := 510, state := .isolated, mayIsolate := true, limitMark := false } := by decide

/-- R30: a burst held behind a probe poll begins with a sync character. -/
theorem test_forwardHeldStart :
    let s := coax.setSeg .b { coax.seg .b with copy := some ⟨.poll, 17, false, 0, [0x111], false⟩ }
    ((after s [.forwardHeldStart 1]).seg .b).line = [0x096] ∧ ((after s [.forwardHeldStart 0]).seg .b).line = [] := by
  decide

/-- R36, sequence 5: the watch of a forwarded POLL(17) runs for D + 2 = 18 character times. -/
theorem test_transmitterBurstEnd :
    let s := coax.setSeg .b { coax.seg .b with tx := .copy, copy := some ⟨.poll, 17, true, 0, [0x000], true⟩ }
    ((after s [.transmitterBurstEnd .b]).seg .b).watch = some { station := 17, window := 18 } := by decide

/-- Sequence 5: a missed reply gives station 17 a weight of 32 and segment B one of 8. -/
theorem test_pollMissWindowExpiry :
    let t := after (coax.setSeg .b { coax.seg .b with watch := some ⟨17, 18⟩ }) [.pollMissWindowExpiry .b]
    ((t.object (.station 17)).score, t.hm.segB.score) = (32, 8) := by decide

/-- R183: the NIL reply of station 12 is two sync characters, REPLY(12), 0x02 and its check 0xFE. -/
theorem test_replyStartPoint :
    ((after (waiting (office online) (.poll 0) (.desk 2)) [.replyStartPoint 1]).seg .a).line =
      [0x096, 0x096, 0x18C, 0x002, 0x0FE] ∧
    (after (waiting (office online) (.select [0x41]) (.desk 2)) [.replyStartPoint 1]).pr =
      .sending { station := 12, request := .select [0x41], handling := .desk 2, standIn := .offline, deadline := 16 }
        .accept [] := by decide

theorem test_replyDeadlineExpiry :
    (after (waiting (office online) (.poll 0) (.desk 2)) [.replyDeadlineExpiry]).pr = .idle := by decide

/-- Sequence 1, its last paragraph: after the 24th FILL the reply is NIL. -/
theorem test_fillBudgetExhausted :
    let s := after (waiting (office (framed online 0x01 [0x41])) (.poll 0) (.desk 2)) [.replyStartPoint 1]
    ((after s [.fillBudgetExhausted]).seg .a).line =
      [0x096, 0x096, 0x18C] ++ List.replicate 24 0x1FE ++ [0x002, 0x0FE] ∧
    (let k : Taking := { station := 12, request := .poll 0, handling := .desk 2, standIn := .offline, deadline := 16 }
     ((after { s with pr := .filling k 5 } [.fillBudgetExhausted]).seg .a).line =
       [0x096, 0x096, 0x18C] ++ List.replicate 19 0x1FE ++ [0x002, 0x0FE]) := by decide

/-- R15: with a limit of 60 a learned entry reverts at the 60th expiry, and one STATIC only ages. -/
theorem test_minuteTimerExpiry :
    let old := (coax.setEntry 17 { coax.entry 17 with age := 59 }).setEntry 5 { coax.entry 5 with age := 255 }
    ((after old [.minuteTimerExpiry]).entry 17).location = .none ∧
    ((after old [.minuteTimerExpiry]).entry 5).age = 255 := by decide +kernel

/-! ### The star ports -/

/-- R69: after LEAD, the KIND. R75: a character error in a frame is a CHAR_ERROR of weight 8. -/
theorem test_portCharacterTaken :
    ((after (office online) [.portCharacterTaken 2 0xA5 true true]).port 2).rx.phase = .kind ∧
    ((after (office online) [.portCharacterTaken 2 0xA5 true true, .portCharacterTaken 2 0x06 true false]).object
      (.port 2)).score = 8 := by decide

/-- Sequence 1: the good CHECK 0x29 queues POLICY and begins the ACK. R70: another CHECK is a fault of weight 32. -/
theorem test_frameComplete :
    let s := office (framed online 0x01 [0x50, 0x4F, 0x4C, 0x49, 0x43, 0x59])
    ((after s [.frameComplete 2 0x29 true true]).port 2).tx = .sending (.response (.ack 0x01)) ∧
    ((after s [.frameComplete 2 0x28 true true]).object (.port 2)).score = 32 := by decide

/-- R71: a frame cut short is a TRUNCATED event of weight 16. -/
theorem test_frameGapExpiry :
    ((after (office (framed online 0x01 [0x41])) [.frameGapExpiry 2]).object (.port 2)).score = 16 := by decide

theorem test_breakRecognized :
    ((after (office online) [.breakRecognized 2]).object (.port 2)).score = 128 ∧
    ((after (office online) [.breakRecognized 2, .breakRecognized 2]).object (.port 2)).score = 128 := by decide

theorem test_breakEnd :
    ((after (office online) [.breakRecognized 2, .breakEnd 2, .breakRecognized 2]).object (.port 2)).score = 256 := by
  decide

/-- R80 and the example of section 4.6: a port that returns from DETACHED tells its desk, ahead of a message that waits:
ONLINE, 12, DISABLED, 512 blocks free, none held. -/
theorem test_peerReadyAsserted :
    ((after (office { online with state := .detached, srdy := false, tx := .held, downstream := [[0x41]] })
      [.peerReadyAsserted 2]).port 2).tx =
      .sending (.notice (.linkState .online (some 12) .disabled 512 0)) := by decide +kernel

/-- R66: the detach timer runs for 2 s. -/
theorem test_peerReadyDeasserted :
    ((after (office online) [.peerReadyDeasserted 2]).port 2).detachTimer = some 2000 := by decide

theorem test_detachTimerExpiry :
    ((after (office online) [.peerReadyDeasserted 2, .detachTimerExpiry 2]).port 2).state = .detached := by decide

/-- R79: a DELIVER's message leaves the queue with its last character. -/
theorem test_portFrameSent :
    ((after (office { online with downstream := [[0x41]], tx := .sending (.deliver [0x41]) }) [.portFrameSent 2]).port
      2).downstream = [] := by decide

/-- R71: the gap timer is held while a character arrives. -/
theorem test_portStartBit :
    ((next (step (after (office (framed online 0x01 [0x41])) [.portStartBit 2]))).port 2).gapTimer = some 50 ∧
    ((next (step (office (framed online 0x01 [0x41])))).port 2).gapTimer = some 49 := by decide

/-! ### Jobs and the printer -/

/-- R98: an OPEN job of PRIMARY with text becomes QUEUED; an expiry that an admission has overtaken does not occur. -/
theorem test_jobIdleTimeout :
    (after (spooled { oneJob .opened with idleTimer := some 0 }) [.jobIdleTimeout 1]).sm.queue = [1] ∧
    (after (spooled { oneJob .opened with idleTimer := some 30000 }) [.jobIdleTimeout 1]).sm.queue = [] := by decide

/-- R110, R113: an IDLE engine follows its printer. -/
theorem test_printerLineChange :
    (after (readyEngine State.reset .idle) [.printerLineChange .ppe true]).pe.state = .notReady ∧
    (after (readyEngine State.reset .notReady) [.printerLineChange .pbusy true]).pe.state = .idle := by decide

/-- R117, R118: the second character follows the first, and a form feed the last. -/
theorem test_packEdge :
    (after (printing 0) [.packEdge]).pe.pd = 0x42 ∧ (after (printing 1) [.packEdge]).pe.pd = 0x0C := by decide

theorem test_ackTimerExpiry :
    (after (printing 0) [.ackTimerExpiry]).pe.state = .stalled .noResponse := by decide

/-- R114: a claim that is granted runs. -/
theorem test_pgntChange :
    let s := spooled (oneJob .queued)
    let shared := { s with pe := { s.pe with profile := { s.pe.profile with shared := true } } }
    (after (readyEngine shared .disabled) [.printerEnable false]).pe.state = .claiming ∧
    (after (readyEngine shared .disabled) [.printerEnable false, .pgntChange true]).pe.state = .running := by decide

theorem test_releaseTimerExpiry :
    let s := readyEngine State.reset .gap
    (after { s with pe := { s.pe with releaseTimer := some 0 } } [.releaseTimerExpiry]).pe.state = .idle := by decide

/-! ### Health, probes and the clock -/

/-- R132: an object at 470 loses ceil(470 / 8) = 59. -/
theorem test_decayTimerExpiry :
    (after (scored coax (.segment .b) 470 .suspect) [.decayTimerExpiry]).hm.segB.score = 411 := by decide +kernel

/-- Sequence 2: with the jabber mark clear the search from 0 finds 17. -/
theorem test_probeTimerExpiry :
    (after (scored coax (.segment .b) 1023 .isolated) [.probeTimerExpiry]).hm.probe = some ⟨.pending, .segment, 17⟩ := by
  decide

/-- R149, R183: a probe is a STATUS poll, 0x01 with check 0xFF. -/
theorem test_probePollStart :
    let s := after (scored coax (.segment .b) 1023 .isolated) [.probeTimerExpiry]
    ((after s [.probePollStart 2]).seg .b).line = [0x096, 0x096, 0x111, 0x001, 0x0FF] ∧
    ((after s [.probePollStart 1]).seg .b).line = [] := by decide

/-- R155: a failure adds P = 64 to an ISOLATED object. -/
theorem test_probePollDeadline :
    (after (scored coax (.segment .b) 700 .isolated) [.probeTimerExpiry, .probePollDeadline]).hm.segB.score = 764 := by
  decide

/-- Sequence 5: station 17 at 515 goes to 579 for a probe without a reply. -/
theorem test_probeWindowExpiry :
    ((after (scored coax (.station 17) 515 .isolated) [.probeTimerExpiry, .probePollStart 2, .transmitterBurstEnd .b,
      .probeWindowExpiry]).object (.station 17)).score = 579 := by decide

/-- R166: from 65535 the counter wraps to 0. -/
theorem test_secondsCounterTick :
    (after { State.reset with au := { State.reset.au with seconds := 65535 } } [.secondsCounterTick]).au.seconds = 0 := by
  decide

/-! ### Witnesses

One theorem for each statement with hypotheses: states and operands, at the ends of their ranges, that meet the hypotheses of
each of its clauses. -/

/-- The report queue full, and a spool memory with one character. -/
def fullReports : State :=
  { State.reset with
    au := { State.reset.au with queue := (List.range 16).map fun i => ⟨byteOf i, .conflict, 0, .aged, 0⟩, nextSequence := 16 }
    sm := { State.reset.sm with memory := [(32767, 0x41)] } }

/-- An idle part, and a fill that has sent 5 of its 24 FILL characters. -/
theorem witness_IdleStepCountsOneMillisecond :
    (State.reset.pending = [] ∧ State.reset.pr = .idle) ∧
    (let k : Taking := { station := 12, request := .poll 0, handling := .desk 2, standIn := .offline, deadline := 16 }
     let s : State := { office (framed online 0x01 [0x41]) with pr := .filling k 5 }
     s.pending = [] ∧ s.pr = .filling k 5 ∧ s.ti.segA.profile.fill = 24) := by decide

/-- Station 17 ISOLATED at the score just above T_r. -/
theorem witness_StepKeepsTheHealthLaw :
    let s := scored coax (.station 17) 97 .isolated
    HealthLaw s ∧ ∃ t, step s = .next t := by
  refine ⟨⟨by unfold ThresholdLaw; decide, ?_, rfl, by decide⟩, _, rfl⟩
  intro o
  rcases o with (_ | _) | n | a
  · unfold ObjectLaw; decide
  · unfold ObjectLaw; decide
  · revert n; unfold ObjectLaw; decide
  · revert a; unfold ObjectLaw; decide +kernel

/-- An OPEN job of the desk at address 12, before its first text. -/
def opened : Job :=
  { id := 1, source := .desk 12, state := .opened, priority := .normal, copies := 1, copiesDone := 0, count := 0, chain := []
    position := none, pageMark := none, idleTimer := some 30000 }

/-- Port 2 as given, with that job. -/
def desking (p : Port) : State := { office p with sm := { State.reset.sm with jobs := [opened], lastId := 1 } }

theorem desking_spool (p : Port) : SpoolLaw (desking p) where
  blocks := by simp [desking, opened, State.reset, Spool.emptied]
  chains := by simp [desking, opened]
  held := by
    intro src
    have h : blocksOf (desking p).sm.jobs src = 0 := by
      by_cases e : Source.desk 12 = src <;> simp [desking, blocksOf, opened, Job.blocks, e]
    rw [h]
    rcases src with _ | a
    · rfl
    · by_cases e : a = 12
      · subst e; rfl
      · simp [State.heldOf, desking, office, State.entry, State.setEntry, State.setPort, Vector.getElem_set, State.reset,
          Directory.atReset, Entry.unused]
        split <;> rfl
  ids := by simp [desking, opened]
  limits := by
    refine ⟨by simp [desking], fun src => ?_⟩
    by_cases e : Source.desk 12 = src <;> simp [desking, opened, e]
  queue := by simp [desking, opened, Job.closed, State.reset, Spool.emptied]

theorem office_directory : DirectoryLaw (desking online) := by
  unfold DirectoryLaw; constructor <;> decide +kernel

theorem desking_openJob : OpenJobLaw (desking online) := by
  intro j hj _ a ha
  simp only [desking, List.mem_singleton] at hj
  subst hj
  cases ha
  exact ⟨2, by decide, by decide, by decide⟩

theorem witness_StepKeepsTheDirectoryLaws :
    DirectoryLaw (desking online) ∧ SpoolLaw (desking online) ∧ OpenJobLaw (desking online) ∧
    ∃ t, step (desking online) = .next t :=
  ⟨office_directory, desking_spool _, desking_openJob, _, rfl⟩

/-- Port 2 with every list full and its head SENT. -/
def crowded : Port :=
  { online with
    upstream := List.replicate 4 [0x41], headSent := true, downstream := List.replicate 4 [0x41]
    responses := List.replicate 4 (.ack 0x06), notices := List.replicate 4 (.printState 1 .done 0)
    tx := .sending (.response (.ack 0x01)) }

theorem witness_StepKeepsThePortLaws :
    PortLaw (office crowded) ∧ PortHealthLaw (office crowded) ∧ ∃ t, step (office crowded) = .next t := by
  refine ⟨?_, ?_, _, rfl⟩
  · unfold PortLaw Port.listsEmpty; decide
  · unfold PortHealthLaw; decide

theorem blocks_after_the_first (n : Nat) : ((List.finRange n).map Fin.succ ++ [0]).Perm (List.finRange (n + 1)) :=
  List.perm_append_comm.trans (.of_eq List.finRange_succ.symm)

theorem spooled_spool (j : Job) (hid : j.id = 1) (hs : j.source = .primary) (hc : j.chain = [0]) (hn : j.count = 2) :
    SpoolLaw (spooled j) where
  blocks := by
    simp only [spooled, List.flatMap_cons, List.flatMap_nil, List.append_nil, hc]
    exact blocks_after_the_first 511
  chains := by simp [spooled, hc, hn]
  held := by
    intro src
    rcases src with _ | a
    · simp [State.heldOf, spooled, blocksOf, hs, Job.blocks, hc]
    · have e : (spooled j).entry a = Entry.unused :=
        show (Vector.replicate 63 Entry.unused)[a] = Entry.unused by simp
      have h0 : blocksOf (spooled j).sm.jobs (.desk a) = 0 := by simp [spooled, blocksOf, hs]
      rw [h0, State.heldOf, e]; rfl
  ids := by simp [spooled, hid]
  limits := by
    refine ⟨by simp [spooled], fun src => ?_⟩
    by_cases e : j.source = src <;> by_cases e' : j.state = .opened <;> simp [spooled, e, e']
  queue := by
    by_cases h : j.closed = true <;> simp [spooled, h, hid]
    exact fun id => ⟨fun h => h.symm, fun h => h.symm⟩

/-- A frame that completes without being PRINT_DATA; and a job of two characters, at an event that may write the memory. -/
theorem witness_StepKeepsReportsAndMemory :
    (ReportLaw fullReports ∧ ∃ t, step fullReports = .next t) ∧ MemoryLaw fullReports ∧
    (((office (framed online 0x01 [0x41])).port 2).rx.kind ≠ kindPrintData ∧
      ∃ t, exec (.frameComplete 2 0xBD true true) (office (framed online 0x01 [0x41])) = .next t) ∧
    (SpoolLaw (spooled (oneJob .queued)) ∧ MemoryLaw (spooled (oneJob .queued)) ∧
      oneJob .queued ∈ (spooled (oneJob .queued)).sm.jobs ∧ 1 < (oneJob .queued).count ∧
      ∃ t, exec (.replyStartPoint 1) (spooled (oneJob .queued)) = .next t) :=
  ⟨⟨by unfold ReportLaw; decide, _, rfl⟩, by unfold MemoryLaw; decide, ⟨by decide, _, rfl⟩,
    spooled_spool _ rfl rfl rfl rfl, by unfold MemoryLaw; decide, by decide, by decide, _, rfl⟩

theorem readyEngine_spool {s : State} {e : EngineState} (h : SpoolLaw s) : SpoolLaw (readyEngine s e) :=
  ⟨h.blocks, h.chains, h.held, h.ids, h.limits, h.queue⟩

theorem witness_StepKeepsTheSpoolLaw :
    SpoolLaw (spooled (oneJob .queued)) ∧ ∃ t, step (spooled (oneJob .queued)) = .next t :=
  ⟨spooled_spool _ rfl rfl rfl rfl, _, rfl⟩

theorem printing_spool (k : Fin 64) : SpoolLaw (printing k) := by
  have h := spooled_spool { oneJob .printing with position := some ⟨0, k⟩, pageMark := some ⟨0, 0⟩ } rfl rfl rfl rfl
  exact ⟨h.blocks, h.chains, h.held, h.ids, h.limits, h.queue⟩

theorem printing_job (k : Fin 64) : PrintingLaw (printing k) := by
  refine ⟨?_, ?_⟩ <;> simp [printing, readyEngine, spooled, oneJob]

theorem witness_StepKeepsTheEngineLaws :
    SpoolLaw (printing 1) ∧ EngineLaw (printing 1) ∧ PrintingLaw (printing 1) ∧ ∃ t, step (printing 1) = .next t :=
  ⟨printing_spool 1, by unfold EngineLaw; decide, printing_job 1, _, rfl⟩

/-- Segment B ISOLATED while a segment probe is being sent. -/
def probing : State :=
  let s := scored coax (.segment .b) 1023 .isolated
  (s.setSeg .b { s.seg .b with tx := .probe }).setProbe (some ⟨.sending, .segment, 17⟩)

theorem witness_StepKeepsSegmentBCutOff : CutLaw probing ∧ ∃ t, step probing = .next t :=
  ⟨⟨by decide, by decide, by decide, by decide⟩, _, rfl⟩

theorem witness_TransactionsBeginAndEnd :
    ((linked State.reset .args).al.phase = .args ∧ (linked State.reset .args).al.pendingRestart = none) ∧
    ((after State.reset [.i2cStart]).al.phase = .idle ∧ (after State.reset [.i2cStart]).al.ignoring = false) ∧
    (State.reset.al.phase = .idle ∧ State.reset.al.ignoring = true) := by decide

theorem witness_RestartsAtTheTransactionEnd :
    let s (k : RestartKind) : State := { State.reset with al := { State.reset.al with phase := .discard, pendingRestart := some k } }
    ((s .full).al.pendingRestart = some .full ∧ (s .full).al.phase ≠ .args) ∧
    ((s .traffic).al.pendingRestart = some .traffic ∧ (s .traffic).al.phase ≠ .args) := by decide

theorem code_7F_names_no_command : ∀ i w, spelling i = some w → w.code ≠ 0x7F := by
  intro i w h
  cases i <;> simp only [spelling, reduceCtorEq, Option.some.injEq] at h <;> subst h <;> dsimp only <;> decide

theorem witness_BytesAreGatheredAndReturned :
    (spelling (.portEnable true 7) = some ⟨true, 0x0A, [7]⟩ ∧ (linked State.reset .lead).al.phase = .lead) ∧
    (let s := after (linked State.reset .lead) [.leadByte 0x03]
     s.al.phase = .args ∧ s.al.remaining = 4) ∧
    (linked State.reset .discard).al.phase = .discard ∧
    (∀ i w, spelling i = some w → w.code ≠ 0x7F) ∧
    (let s := after State.reset [.i2cStart]
     (0x98 : Byte).extractLsb' 1 7 = s.al.target ∧ (0x9A : Byte).extractLsb' 1 7 ≠ s.al.target ∧ s.al.phase = .idle ∧
     s.al.ignoring = false) ∧
    (let s := linked State.reset .reading
     s.al.phase = .reading ∧ s.al.released = false ∧ (after s [.readByte false]).al.phase = .reading ∧
     (after s [.readByte false]).al.released = true) :=
  ⟨by decide, by decide, by decide, code_7F_names_no_command, by decide, by decide⟩

theorem witness_SpelledCommandsRunAsTheCommand :
    spelling (.setWeights true defaultWeights) = some ⟨true, 0x11, weightBytes defaultWeights⟩ ∧
    (linked State.reset .lead).al.phase = .lead := by decide

theorem witness_AnswersOfTheLink :
    spelling (.restart true 1) = some ⟨true, 0x30, [1]⟩ ∧
    (status (.restart true 1) State.reset = .ok ∧ status (.restart true 0) State.reset ≠ .ok) := by decide

theorem witness_JobCommandsNameAJob :
    (255 : Byte) ≠ 0 ∧ ∀ j ∈ (spooled (oneJob .queued)).sm.jobs, j.id ≠ (255 : Byte).toNat := by decide

theorem witness_ReadCommandsReturnTheirRecords :
    ((1 : Byte) ≠ 0 ∧ (spooled (oneJob .queued)).job? (1 : Byte).toNat = some (oneJob .queued)) ∧
    (State.reset.pe.job = none ∧ (printing 0).pe.job = some 1 ∧ ((printing 0).job? 1).map Job.id = some 1) ∧
    SpoolLaw (spooled (oneJob .queued)) :=
  ⟨by decide, by decide, spooled_spool _ rfl rfl rfl rfl⟩

/-- The ends of the ranges of R5, R159, R63, R111 and R178. -/
theorem witness_SettingsAreWritten :
    (512 : BitVec 16).toNat ≤ 512 ∧ (511 : BitVec 16).toNat < 512 ∧
    ((State.reset.port 7).state = .standby ∧ 1 ≤ (1 : Byte).toNat ∧ (2 : Byte).toNat ≤ 2 ∧ 5 ≤ (5 : Byte).toNat ∧
      (1 : Byte).toNat ≤ 1) ∧
    (1 ≤ (1 : Byte).toNat ∧ (60 : Byte).toNat ≤ 60 ∧ (100 : Byte).toNat ≤ 100) ∧
    ((2 : Byte) = 1 ∧ RestartKind.traffic = .full ∨ (2 : Byte) = 2 ∧ RestartKind.traffic = .traffic) := by decide

/-- The values next to those ranges; a port in use; a selector between those of the ports and the stations. -/
theorem witness_ArgumentsOutOfRangeAreRefused :
    (63 ≤ (63 : Byte).toNat ∧ (63 : Byte) ≠ 0x40) ∧ 512 < (513 : BitVec 16).toNat ∧ 8 ≤ (8 : Byte).toNat ∧
    (3 ≤ (3 : Byte).toNat ∧ (0 : Byte).toNat = 0 ∧ (3 : Byte).toNat < 4 ∧ 64 < (65 : Byte).toNat ∧ 63 < (64 : Byte).toNat ∧
      (199 : BitVec 16).toNat < 200 ∧ 1023 < (1024 : BitVec 16).toNat ∧ 2 ≤ (2 : Byte).toNat) ∧
    ((4 : Byte).toNat < 5 ∧ ((office online).port 2).state ≠ .standby ∧ 1 ≤ (1 : Byte).toNat ∧ (2 : Byte).toNat ≤ 2 ∧
      5 ≤ (5 : Byte).toNat ∧ (1 : Byte).toNat ≤ 1) ∧
    (60 < (61 : Byte).toNat ∧ 100 < (101 : Byte).toNat) ∧
    ¬ ((96 : BitVec 16).toNat < (240 : BitVec 16).toNat ∧ (240 : BitVec 16).toNat < (240 : BitVec 16).toNat ∧
      (240 : BitVec 16).toNat ≤ 1023) ∧ 7 < (8 : Byte).toNat ∧ 512 ≤ (512 : BitVec 16).toNat ∧
    ((3 : Byte) ≠ 1 ∧ (3 : Byte) ≠ 2) ∧
    (∀ o : ObjectId, (0x18 : Byte) ≠ o.code) ∧ (0x18 : Byte) ≠ 0xFF ∧ 2 ≤ (2 : Byte).toNat ∧
    ((255 : Byte) ≠ 0 ∧ ∀ j ∈ (spooled (oneJob .queued)).sm.jobs, j.id ≠ (255 : Byte).toNat) := by
  refine ⟨by decide, by decide, by decide, by decide, by decide, by decide, by decide, by decide, by decide, by decide, ?_,
    by decide⟩
  rintro ((_ | _) | n | a)
  · decide
  · decide
  · revert n; decide
  · revert a; decide

theorem witness_WriteEntryJudgesAndWrites :
    (63 ≤ (63 : Byte).toNat ∧ 4 ≤ (4 : Byte).toNat ∧ ((3 : Byte) = 3 ∧ 8 ≤ (8 : Byte).toNat) ∧ 2 ≤ (2 : Byte).toNat) ∧
    (∃ b, b ≠ (0 : Address) ∧ ((office online).entry b).location = .port 2) ∧
    ((∀ b, b ≠ (12 : Address) → ((office online).entry b).location ≠ .port 2) ∧
      ((office online).entry 12).location = .port 2) ∧
    (locationOf 3 5 = some (.port 5) ∧ Location.port 5 ≠ .port 2 ∧ ((office online).port 2).state ≠ .standby) ∧
    (let s := office { online with state := .standby }
     (∀ b, b ≠ (12 : Address) → (Location.port 5).isPort = true → (s.entry b).location ≠ .port 5) ∧
     (Location.port 5 ≠ (s.entry 12).location → ∀ m, (s.entry 12).location = .port m → (s.port m).state = .standby)) := by
  decide

/-- Address 63; each restart pending at a STOP; valid replies of an address without a location and of the printer address; an entry that
is in the unused state, and one that is the printer's. -/
theorem witness_AddressesAreClearedAndThePrinterPlaced :
    63 ≤ (63 : Byte).toNat ∧
    (let s (k : RestartKind) : State := { desking online with al := { State.reset.al with pendingRestart := some k } }
     (s .full).al.pendingRestart = some .full ∧ (s .traffic).al.pendingRestart = some .traffic ∧ DirectoryLaw (s .traffic)) ∧
    (let placed := after State.reset [.setPrinterAddress true 62]
     let s (a : Address) := burst placed .a (some (.reply, a)) [0x02, 0xFE]
     ((s 62).seg .a).tx = .idle ∧ ((s 62).seg .a).rx.phase = .inBurst ∧ ((s 62).seg .a).rx.address = some (.reply, 62) ∧
     ((s 62).seg .a).rx.malformed = false ∧ ((s 62).seg .a).rx.endsInMark = false ∧ byteSum ((s 62).seg .a).rx.body = 0 ∧
     ((s 62).entry 62).location = .printer ∧ ((s 62).entry 62).origin = .static ∧ ((s 0).entry 0).location = .none) ∧
    (∀ m, (coax.entry 62).location = .port m → (coax.port m).state = .standby) ∧
    (coax.entry 62 = Entry.unused ∧
      coax.object (.station 62) = { score := 0, state := .active, mayIsolate := true, limitMark := false }) ∧
    (∃ m, ((office online).entry 12).location = .port m ∧ ((office online).port m).state ≠ .standby) ∧
    ((office online).entry 12).location.isPort = true ∧
    ((after State.reset [.setPrinterAddress true 62]).entry 62).location = .printer ∧
    (DirectoryLaw (desking online) ∧ ((desking online).entry 0).location.isPort = false ∧
      ((desking online).entry 0).location ≠ .printer) :=
  ⟨by decide, ⟨by decide, by decide, office_directory⟩, by decide, by decide, by decide, by decide, by decide, by decide,
    office_directory, by decide, by decide⟩

theorem witness_TrunkProfileIsTakenUpAtABoundary :
    trunkProfileOf 2 0x7E 1 64 63 1023 1 = some
      { rate := .k1000, sync := 0x7E, syncCount := 1, deadline := 64, fill := 63, jabber := 1023, mode := .filtered } := by
  decide

theorem witness_ReceiverFindsItsBurst :
    (let s := State.reset.setSeg .a { State.reset.seg .a with tx := .reply }
     (s.seg .a).tx ≠ .idle ∧ Instr.syncMatch .a = .syncMatch .a) ∧
    ((State.reset.seg .b).tx = .idle ∧ (State.reset.seg .b).rx.phase = .hunt ∧ (State.reset.seg .b).rx.phase ≠ .inBurst) ∧
    (let s := after State.reset [.syncMatch .b]
     (s.seg .b).tx = .idle ∧ (s.seg .b).rx.phase = .sync1) := by decide

theorem witness_ReceiverGathersAndCopySends :
    (let s := burst coax .b (some (.reply, 17)) [0x02]
     (s.seg .b).tx = .idle ∧ (s.seg .b).rx.phase = .inBurst ∧ (s.seg .a).copy = none ∧
     ((s.seg .b).rx.awaitsAddress = true → isBurstAddress 0x0FE = false) ∧ (s.seg .b).rx.malformed = false ∧
     (s.seg .b).rx.address ≠ none) ∧
    (let c : Copy := { kind := .poll, station := 17, started := true, syncLeft := 1, buffer := List.replicate 7 0x000
                       sourceEnded := false }
     let s := (burst coax .a (some (.poll, 17)) []).setSeg .b { coax.seg .b with tx := .copy, copy := some c }
     (s.seg .a).tx = .idle ∧ (s.seg .a).rx.phase = .inBurst ∧ (s.seg .a).rx.address ≠ none ∧ (s.seg .b).copy = some c ∧
     c.started = true ∧ c.sourceEnded = false ∧ c.buffer ≠ [] ∧ c.buffer.length + c.syncLeft ≤ 8) ∧
    (let c (n : Nat) : Copy := ⟨.poll, 17, false, 0, List.replicate n 0x000, false⟩
     let s := (burst coax .a (some (.poll, 17)) []).setSeg .b { coax.seg .b with tx := .probe, copy := some (c 7) }
     (s.seg .a).tx = .idle ∧ (s.seg .a).rx.phase = .inBurst ∧ (s.seg .a).rx.address ≠ none ∧ (s.seg .b).copy = some (c 7) ∧
     (c 7).started = false ∧ (c 7).sourceEnded = false ∧ (c 7).buffer.length < 8 ∧ ¬ (c 8).buffer.length < 8) ∧
    (let c : Copy := ⟨.poll, 17, true, 0, [0x000], true⟩
     let s := (burst coax .a (some (.poll, 17)) []).setSeg .b { coax.seg .b with tx := .copy, copy := some c }
     (s.seg .b).copy = some c ∧ c.sourceEnded = true) ∧
    (let c : Copy := ⟨.reply, 17, true, 0, [0x002], false⟩
     let s (score : Nat) := scored ((burst coax .b (some (.reply, 17)) []).setSeg .a
       { coax.seg .a with tx := .copy, copy := some c }) (.segment .b) score .suspect
     ((s 470).seg Seg.b.other).copy = some c ∧ (s 470).segBIsolated = false ∧
     (after (s 470) [.burstEnd .b true]).segBIsolated = true ∧ (after (s 0) [.burstEnd .b true]).segBIsolated = false) := by decide

/-- A poll that passes with line B free and with line B busy, beside each state of a probe exchange, and one that does not
pass; a reply that passes in FLOOD mode, and R12's conflicts: STATIC at a port, and LEARNED elsewhere and ISOLATED. -/
theorem witness_PollsAreForwardedToSegmentB :
    let s := burst coax .a none []
    let busy := after s [.lineActivityStart .b]
    let probed (p : ProbePhase) : State := s.setProbe (some ⟨p, .segment, 17⟩)
    BurstKind.poll ≠ .reply ∧ (s.seg .a).tx = .idle ∧ (s.seg .a).rx.awaitsAddress = true ∧
    (s.segBIsolated = false ∧ s.ti.segA.profile = s.ti.segB.profile ∧ s.shownIsolated 17 = false ∧
      s.ti.segA.profile.mode = .flood) ∧
    s.hm.probe = none ∧ (s.ti.segB.tx = .idle ∧ s.ti.segB.activity = none ∧ 1 ≤ 1 ∧ s.ti.segB.copy = none) ∧
    busy.ti.segB.activity ≠ none ∧
    ((probed .sending).hm.probe = some ⟨.sending, .segment, 17⟩ ∧
      (probed (.awaiting 18)).hm.probe = some ⟨.awaiting 18, .segment, 17⟩ ∧
      (probed .replyIn).hm.probe = some ⟨.replyIn, .segment, 17⟩) ∧
    (scored s (.station 17) 1023 .isolated).shownIsolated 17 = true ∧
    (s.ti.segA.watch = none ∧ (s.entry 17).origin = .learned ∧ (s.entry 17).location ≠ .segA ∧
      (s.object (.station 17)).state ≠ .isolated) ∧
    (((office online).entry 12).origin = .static ∧ ((office online).entry 12).location ≠ .none ∧
      ((office online).entry 12).location ≠ .segA) ∧
    ((scored s (.station 17) 1023 .isolated).object (.station 17)).state = .isolated := by decide

theorem witness_RepliesAreForwardedToSegmentA :
    let s := burst coax .b none []
    (s.seg .b).tx = .idle ∧ (s.seg .b).rx.awaitsAddress = true ∧ s.hm.probe = none ∧ s.ti.segB.watch = none ∧
    (s.setProbe (some ⟨.pending, .station, 30⟩)).hm.probe = some ⟨.pending, .station, 30⟩ ∧
    (s.segBIsolated = false ∧ s.ti.segA.profile = s.ti.segB.profile ∧ s.shownIsolated 17 = false ∧
      (s.entry 17).origin = .learned ∧ (s.entry 17).location = .segB) ∧
    (s.ti.segA.tx = .idle ∧ s.ti.segA.activity = none ∧ 1 ≤ 1 ∧ s.ti.segA.copy = none) ∧
    (after s [.lineActivityStart .a]).ti.segA.activity ≠ none ∧
    ((s.entry 5).origin = .static ∧ (s.entry 5).location ≠ .none ∧ (s.entry 5).location ≠ .segB) ∧
    (let near (score : Nat) := after (scored s (.segment .b) score .suspect) [.lineActivityStart .a]
     (near 240).segBIsolated = false ∧ (after (near 240) [.addressCharacterTaken .b .reply 17 1]).segBIsolated = false ∧
     (near 448).segBIsolated = false ∧ (after (near 448) [.addressCharacterTaken .b .reply 17 1]).segBIsolated = true) ∧
    (BurstKind.select ≠ .reply ∧ s.ti.segB.profile.mode = .flood ∧
      (after coax [.setTrunkProfile false 0 0x96 2 16 24 200 1 60]).ti.segB.profile.mode = .filtered) := by
  decide

theorem witness_WatchesAreResolved :
    (let filtered := after coax [.setTrunkProfile false 0 0x96 2 16 24 200 1 60]
     let s := burst (filtered.setSeg .a { filtered.seg .a with watch := some ⟨5, 18⟩ }) .a none []
     (s.seg .a).tx = .idle ∧ (s.seg .a).rx.awaitsAddress = true ∧ s.ti.segA.watch = some ⟨5, 18⟩ ∧
     s.ti.segA.profile.mode = .filtered) ∧
    (let s := burst (coax.setSeg .b { coax.seg .b with watch := some ⟨17, 6⟩ }) .b none []
     (s.seg .b).tx = .idle ∧ (s.seg .b).rx.awaitsAddress = true ∧ (s.seg .b).watch = some ⟨17, 6⟩ ∧
     (⟨17, 6⟩ : Watch).station = 17 ∧ (⟨17, 6⟩ : Watch).station ≠ 30) := by decide

theorem witness_FailingBurstsAreCharged :
    (let s := burst coax .b (some (.reply, 17)) [0x02, 0xFD]
     (s.seg .b).tx = .idle ∧ (s.seg .b).rx.phase = .inBurst ∧ s.hm.probe = none ∧ (s.seg .b).rx.endsInMark = false ∧
     (s.seg .b).rx.malformed = false ∧ (s.seg .b).rx.address = some (.reply, 17) ∧
     countSuits .reply (s.seg .b).rx.body.length = true ∧ byteSum (s.seg .b).rx.body ≠ 0 ∧
     (s.entry 17).location = segLocation .b) ∧
    (let s := burst coax .a (some (.poll, 17)) [0x00]
     (s.seg .a).tx = .idle ∧ (s.seg .a).rx.phase = .inBurst ∧ s.hm.probe = none ∧ (s.seg .a).rx.endsInMark = false ∧
     (s.seg .a).rx.address = some (.poll, 17) ∧ countSuits .poll (s.seg .a).rx.body.length = false ∧
     (s.setProbe (some ⟨.replyIn, .station, 17⟩)).hm.probe = some ⟨.replyIn, .station, 17⟩ ∧ Seg.a ≠ .b) ∧
    (let s (score : Nat) := scored (burst coax .b (some (.reply, 17)) [0x02, 0xFD]) (.station 17) score .suspect
     ((s 240).object (.station 17)).state ≠ .isolated ∧
     ((after (s 240) [.burstEnd .b false]).object (.station 17)).state ≠ .isolated ∧
     ((after (s 479) [.burstEnd .b false]).object (.station 17)).state = .isolated) := by decide

/-- A reply of two data characters and one of 130, from each kind of entry. -/
theorem witness_ValidRepliesTeachTheDirectory :
    let s (g : Seg) (a : Address) : State := burst coax g (some (.reply, a)) [0x02, 0xFE]
    ((s .b 30).seg .b).rx.body.length = 2 ∧ byteSum ((s .b 30).seg .b).rx.body = 0 ∧
    (let body : List Byte := 0x01 :: List.replicate 128 0x00 ++ [0xFF]
     body.length = 130 ∧ byteSum body = 0) ∧
    ((s .b 30).seg .b).tx = .idle ∧ ((s .b 30).seg .b).rx.phase = .inBurst ∧
    ((s .b 30).seg .b).rx.address = some (.reply, 30) ∧ ((s .b 30).seg .b).rx.malformed = false ∧
    ((s .b 30).seg .b).rx.endsInMark = false ∧ (s .b 30).hm.probe = none ∧
    ((s .b 30).setProbe (some ⟨.pending, .station, 17⟩)).hm.probe = some ⟨.pending, .station, 17⟩ ∧
    ProbePhase.pending ≠ .replyIn ∧
    ((s .b 30).entry 30).location = .none ∧ ((s .b 17).entry 17).location = segLocation .b ∧
    (((s .a 17).entry 17).location = segLocation Seg.a.other ∧ ((s .a 17).entry 17).origin = .learned ∧
      ((s .a 17).object (.station 17)).state ≠ .isolated) ∧
    (((s .b 5).entry 5).location ≠ .none ∧ ((s .b 5).entry 5).location ≠ segLocation .b ∧
      ((s .b 5).entry 5).origin = .static) := by decide +kernel

theorem witness_ValidRequestsAreTaken :
    let s (a : Address) (t : State) : State := burst t .a (some (.poll, a)) [0x00, 0x00]
    BurstKind.poll ≠ .reply ∧ ((s 12 (office online)).seg .a).tx = .idle ∧
    ((s 12 (office online)).seg .a).rx.phase = .inBurst ∧
    ((s 12 (office online)).seg .a).rx.address = some (.poll, 12) ∧
    ((s 12 (office online)).seg .a).rx.malformed = false ∧ ((s 12 (office online)).seg .a).rx.endsInMark = false ∧
    countSuits .poll ((s 12 (office online)).seg .a).rx.body.length = true ∧
    byteSum ((s 12 (office online)).seg .a).rx.body = 0 ∧
    ((s 12 (office crowded)).port 2).headSent = true ∧ ((s 12 (office online)).entry 12).location = .port 2 ∧
    ((s 17 coax).entry 17).location = .segB ∧ ((s 5 coax).entry 5).location = .segA ∧
    ((s 0 coax).entry 0).location = .none ∧
    (scored (s 17 coax) (.segment .b) 1023 .isolated).segBIsolated = true ∧
    (let w := (s 5 coax).setSeg .a { (s 5 coax).seg .a with watch := some ⟨30, 6⟩ }
     w.ti.segA.watch = some ⟨30, 6⟩ ∧ (w.entry 5).location = .segA ∧ (w.seg .a).rx.address = some (.poll, 5)) ∧
    (s 5 coax).ti.segA.watch = none := by decide

theorem witness_JabberCutsTheBurst :
    let c : Copy := { kind := .reply, station := 17, started := true, syncLeft := 0, buffer := [0x002], sourceEnded := false }
    let s := (burst coax .b (some (.reply, 17)) [0x02]).setSeg .a { coax.seg .a with tx := .copy, copy := some c }
    (s.seg .b).tx = .idle ∧ s.hm.probe = none ∧ s.ti.segB.watch = none ∧ (s.seg .b).rx.phase = .inBurst ∧
    (s.seg Seg.b.other).copy = some c ∧ c.sourceEnded = false ∧
    ((coax.setProbe (some ⟨.replyIn, .station, 17⟩)).hm.probe = some ⟨.replyIn, .station, 17⟩ ∧
      ((coax.setProbe (some ⟨.replyIn, .station, 17⟩)).seg .a).tx = .idle ∧ Seg.a ≠ .b) := by decide

theorem witness_TransmittersAndRepliesFinish :
    (let c : Copy := ⟨.poll, 17, false, 0, [0x111], false⟩
     let s := coax.setSeg .b { coax.seg .b with copy := some c }
     s.ti.segB.copy = some c ∧ c.started = false ∧ s.ti.segB.tx = .idle ∧ s.ti.segB.activity = none ∧ 1 ≤ 1) ∧
    (let s := after (waiting (office online) (.poll 0) (.desk 2)) [.replyStartPoint 1]
     s.ti.segA.tx = .reply ∧ s.pr = .sending
       { station := 12, request := .poll 0, handling := .desk 2, standIn := .offline, deadline := 16 } .nil []) ∧
    (let c : Copy := ⟨.poll, 17, true, 0, [0x000], true⟩
     let s := coax.setSeg .b { coax.seg .b with tx := .copy, copy := some c }
     (s.seg .b).tx = .copy ∧ (s.seg .b).copy = some c ∧ c.sourceEnded = true ∧ (s.entry c.station).location = .segB ∧
     (let w := s.setSeg .b { s.seg .b with watch := some ⟨30, 1⟩ }
      (w.seg .b).watch = some ⟨30, 1⟩ ∧ (w.seg .b).copy = some c ∧ c.kind ≠ .reply) ∧
     (let h := after s [.setTrunkProfile false 1 0x96 2 16 24 200 0 60]
      (h.seg .a).changeHeld = true ∧ (h.seg .b).changeHeld = true ∧ (h.seg .b).watch = none ∧ (h.seg .a).copy = none ∧
      (h.seg .a).activity = none ∧ (h.seg .a).tx = .idle ∧ (after h [.lineActivityStart .a]).ti.segA.activity ≠ none)) ∧
    (probing.ti.segB.tx = .probe ∧ probing.hm.probe = some ⟨.sending, .segment, 17⟩) ∧
    (let k : Taking := { station := 12, request := .poll 0, handling := .desk 2, standIn := .offline, deadline := 16 }
     let s := waiting (office (framed online 0x01 [0x41])) (.poll 0) (.desk 2)
     s.pr = .waiting k ∧ (after s [.replyStartPoint 1]).pr = .filling k 0) ∧
    ((after State.reset [.forceIsolate false 0x01]).ti.gateB = true ∧ (probing.seg .b).tx ≠ .idle ∧
      probing.ti.gateB = false) := by decide

theorem witness_PollsAreAnsweredAtTheStartPoint :
    let k (h : Handling) : Taking := { station := 12, request := .poll 2, handling := h, standIn := .offline, deadline := 16 }
    let s (p : Port) (h : Handling) : State := waiting (office p) (.poll 2) h
    (s online .printer).pr = .waiting (k .printer) ∧ (s online .standIn).pr = .waiting (k .standIn) ∧
    (s online (.desk 2)).pr = .waiting (k (.desk 2)) ∧ (k (.desk 2)).request = .poll 2 ∧
    (s online (.desk 2)).ti.segA.tx = .idle ∧ (s online (.desk 2)).ti.segA.activity = none ∧ 1 ≤ 1 ∧
    ((s crowded (.desk 2)).port 2).upstream = [0x41] :: List.replicate 3 [0x41] ∧
    (((s online (.desk 2)).port 2).upstream = [] ∧ ((s online (.desk 2)).port 2).state = .online) ∧
    ((s (framed online 0x01 [0x41]) (.desk 2)).port 2).receivingMsg = true := by decide

/-- Selects to a desk and to the stand-in; and to the printer, with each kind of message, an OPEN job of PRIMARY with and without
text, no such job, the table full for PRIMARY, and the quota spent. -/
theorem witness_SelectsAreAnsweredAtTheStartPoint :
    let m : List Byte := List.replicate 128 0x41
    let k (h : Handling) : Taking := { station := 12, request := .select m, handling := h, standIn := .offline, deadline := 16 }
    let s (p : Port) (h : Handling) : State := waiting (office p) (.select m) h
    ((s online (.desk 2)).pr = .waiting (k (.desk 2)) ∧ (k (.desk 2)).request = .select m ∧
      (s online (.desk 2)).ti.segA.tx = .idle ∧ (s online (.desk 2)).ti.segA.activity = none ∧ 1 ≤ 1 ∧
      (s online .printer).pr = .waiting (k .printer) ∧ (s online .printer).pe.state = .disabled ∧
      (readyEngine (s online .printer) .idle).pe.state ≠ .disabled ∧
      (((s online (.desk 2)).port 2).state = .online ∧ ((s online (.desk 2)).port 2).downstream.length < 4) ∧
      4 ≤ ((s crowded (.desk 2)).port 2).downstream.length) ∧
    (let text : State := readyEngine (spooled (oneJob .opened)) .idle
     let none_ : State := readyEngine State.reset .notReady
     let empty : State := { text with sm := { text.sm with jobs := [{ oneJob .opened with count := 0, chain := [] }] } }
     let full : State := { none_ with sm := { none_.sm with jobs := List.replicate 4 (oneJob .queued) } }
     let spent : State := { none_ with sd := { none_.sd with primaryHeld := 255 } }
     (waiting text (.select m) .printer).pr = .waiting (k .printer) ∧ (k .printer).request = .select m ∧
     text.openJob? .primary = some (oneJob .opened) ∧ text.job? 1 = some (oneJob .opened) ∧ (oneJob .opened).count ≠ 0 ∧
     text.pe.state = .idle ∧ (∀ i ∈ text.sm.jobs, i.state ≠ .queued) ∧
     (empty.openJob? .primary).map Job.count = some 0 ∧ none_.openJob? .primary = none ∧ none_.pe.state ≠ .idle ∧
     ([0x18] : List Byte).head? = some 0x18 ∧ ([0x10] : List Byte).head? = some 0x10 ∧ (m.head? ≠ some 0x18 ∧ m ≠ []) ∧
     (RoomFor none_ .primary ∧ ¬ RoomFor full .primary ∧ full.openJob? .primary = none) ∧
     (Fits text .primary 2 m.length ∧ Fits none_ .primary 0 m.length ∧ ¬ Fits spent .primary 0 m.length ∧
       ¬ Fits { text with sd := spent.sd } .primary 2 m.length)) ∧
    ((readyEngine (spooled (oneJob .opened)) .idle).pe.ready = true ∧ (readyEngine State.reset .idle).pe.ready = true) ∧
    SpoolLaw (readyEngine (spooled (oneJob .opened)) .idle) := by
  refine ⟨by decide, by unfold RoomFor Fits; decide +kernel, by decide, ?_⟩
  have h := spooled_spool (oneJob .opened) rfl rfl rfl rfl
  exact ⟨h.blocks, h.chains, h.held, h.ids, h.limits, h.queue⟩

theorem witness_PortEnableChoosesTheState :
    ((office online).port 2).state ≠ .standby ∧ (State.reset.port 7).state = .standby ∧
    ((after State.reset [.forceIsolate false 0x17]).object (.port 7)).state = .isolated ∧
    ((after State.reset [.forceIsolate false 0x17]).port 7).state = .standby := by decide

theorem witness_PortStandbyTakesAPortOutOfService :
    (State.reset.port 0).state = .standby ∧
    (((desking online).port 2).state ≠ .standby ∧ ((desking online).port 2).state ≠ .stopping) ∧
    (let k : Taking := { station := 12, request := .poll 0, handling := .desk 2, standIn := .offline, deadline := 16 }
     let s : State := { office (framed online 0x01 [0x41]) with pr := .filling k 5 }
     s.fillingFor 2 = some k ∧ (s.port 2).receiving = true) ∧
    (desking online).fillingFor 2 = none ∧ SpoolLaw (desking online) ∧ (desking online).mappedAddress 2 = some 12 ∧
    ((desking online).openJob? (.desk 12) = some opened ∧ (office online).openJob? (.desk 12) = none) :=
  ⟨by decide, by decide, by decide, by decide, desking_spool _, by decide, by decide⟩

theorem witness_PortReceiverAssemblesFrames :
    let at_ (phase : FramePhase) : Port := { framed online 0x01 [0x41] with rx := { (framed online 0x01 [0x41]).rx with phase } }
    (online.inBreak = false ∧ online.state = .online ∧ online.rx.phase = .leadHunt ∧
      characterError online.profile.parity 0xA5 true true = false) ∧
    ((at_ .kind).rx.phase = .kind ∧ (at_ .len).rx.phase = .len ∧ (at_ .payload).rx.phase = .payload ∧
      (at_ .check).rx.phase = .check) ∧
    (1 ≤ (1 : Byte).toNat ∧ (128 : Byte).toNat ≤ 128 ∧ 128 < (129 : Byte).toNat) ∧ 1 ≤ PortProfile.default.stopBits ∧
    (({ online with inBreak := true } : Port).inBreak = true ∧ (State.reset.port 0).state = .standby ∧
      ({ online with state := .stopping } : Port).rx.phase = .leadHunt) ∧
    characterError online.profile.parity 0x01 true false = true ∧
    (characterError online.profile.parity 0xA5 true false = true ∧
      ((office online).charged (.port 2) 8).state ≠ .isolated ∧ ((office online).object (.port 2)).state ≠ .isolated) ∧
    (let stopping : Port := { framed online 0x01 [0x41] with state := .stopping }
     stopping.rx.phase ≠ .leadHunt ∧ stopping.rx.phase = .check ∧ stopping.tx.busy = false ∧
     ({ stopping with tx := .sending (.deliver [0x41]) } : Port).tx.busy = true) := by decide

/-- Frames of port 2 with an overrun, a character fault, a check fault, an unknown kind and a length fault, a LEN of 129, and the
same faults while the port is ISOLATED. -/
theorem witness_FaultyFramesAreAnswered :
    let s (p : Port) : State := office p
    let msg := framed online 0x01 [0x41]
    let out (p : Port) : Port := { p with state := .isolated }
    let odd := framed online 0x07 []
    let long := framed online 0x04 [0x00]
    (characterError msg.profile.parity 0xBD true true = false ∧ msg.inBreak = false ∧ msg.rx.phase = .check ∧
      msg.state = .online ∧ ((s msg).object (.port 2)).state ≠ .isolated ∧ (s msg).fillingFor 2 = none ∧
      ({ s msg with pr := .filling ⟨12, .poll 0, .desk 2, .offline, 16⟩ 5 } : State).fillingFor 2 ≠ none) ∧
    4 ≤ ({ msg with responses := List.replicate 4 (.ack 0x06) } : Port).responses.length ∧ msg.responses.length < 4 ∧
    ({ msg.rx with errorMark := true } : PortRx).errorMark = true ∧ msg.rx.errorMark = false ∧
    byteSum (msg.rx.kind :: msg.rx.len :: msg.rx.payload) + 0xBC ≠ 0 ∧
    (byteSum (odd.rx.kind :: odd.rx.len :: odd.rx.payload) + 0xF9 = 0 ∧ deskKind odd.rx.kind = false) ∧
    (byteSum (long.rx.kind :: long.rx.len :: long.rx.payload) + 0xFB = 0 ∧ deskKind long.rx.kind = true ∧
     lenSuits long.rx.kind long.rx.len.toNat = false) ∧
    (let p := (after (s online) [.portCharacterTaken 2 0xA5 true true, .portCharacterTaken 2 0x01 true true]).port 2
     p.rx.phase = .len ∧ 128 < (129 : Byte).toNat ∧ p.state = .online ∧ p.responses.length < 4 ∧
     characterError p.profile.parity 0x81 true true = false) ∧
    ((out msg).state = .isolated ∧ (out msg).rx.phase = .check ∧ (out msg).responses.length < 4 ∧
      (out msg).rx.errorMark = false ∧ (out odd).rx.phase = .check ∧ (out long).rx.phase = .check) ∧
    (characterError msg.profile.parity 0xBD true false = true ∧
      ((s msg).charged (.port 2) (s msg).hm.weights.charError).state ≠ .isolated ∧
      ((scored (s msg) (.port 2) 479 .suspect).charged (.port 2) 8).state = .isolated) := by decide

theorem witness_GoodMessagesJoinTheQueue :
    let msg := framed online 0x01 [0x41]
    let k : Taking := { station := 12, request := .poll 0, handling := .desk 2, standIn := .offline, deadline := 16 }
    (characterError msg.profile.parity 0xBD true true = false ∧ msg.inBreak = false ∧ msg.rx.phase = .check ∧
      msg.state = .online ∧ msg.responses.length < 4 ∧ msg.rx.errorMark = false ∧
      byteSum (msg.rx.kind :: msg.rx.len :: msg.rx.payload) + 0xBD = 0 ∧ msg.rx.kind = kindMsg ∧ 1 ≤ msg.rx.len.toNat ∧
      msg.rx.len.toNat ≤ 128) ∧
    ((State.reset.setPort 2 msg).mappedAddress 2 = none ∧ (State.reset.setPort 2 msg).fillingFor 2 = none) ∧
    ((office msg).mappedAddress 2 ≠ none ∧ msg.upstream.length < 4 ∧ (office msg).fillingFor 2 = none) ∧
    4 ≤ crowded.upstream.length ∧
    ({ office msg with pr := .filling k 5 } : State).fillingFor 2 = some k := by decide

/-- A job of the desk at address 12, two characters in block 0, and port 2 with a frame. -/
def deskHolding (state : JobState) (p : Port) : State :=
  { spooled { oneJob state with source := .desk 12, position := some ⟨0, 1⟩, pageMark := some ⟨0, 0⟩ } with
    sd := (State.reset.setEntry 12 { Entry.unused with location := .port 2, held := 1 }).sd
    ports := (office p).ports }

theorem deskHolding_spool (state : JobState) (p : Port) : SpoolLaw (deskHolding state p) where
  blocks := by
    simp only [deskHolding, spooled, List.flatMap_cons, List.flatMap_nil, List.append_nil]
    exact blocks_after_the_first 511
  chains := by simp [deskHolding, spooled, oneJob]
  held := by
    intro src
    rcases src with _ | a
    · rfl
    · by_cases e : a = 12
      · subst e; rfl
      · have h0 : blocksOf (deskHolding state p).sm.jobs (.desk a) = 0 := by
          simp [deskHolding, spooled, blocksOf, oneJob, Ne.symm e]
        rw [h0]
        simp [State.heldOf, deskHolding, State.entry, State.setEntry, Vector.getElem_set, State.reset, Directory.atReset,
          Entry.unused]
        rw [if_neg fun h : 12 = a.val => e (Fin.ext h.symm)]
  ids := by simp [deskHolding, spooled, oneJob]
  limits := by
    refine ⟨by simp [deskHolding, spooled], fun src => ?_⟩
    by_cases e : Source.desk 12 = src <;> by_cases h : state = .opened <;> simp [deskHolding, spooled, oneJob, e, h]
  queue := by
    cases state <;> simp [deskHolding, spooled, oneJob, Job.closed] <;>
      exact fun id => ⟨fun h => h.symm, fun h => h.symm⟩

/-- That job PRINTING in STALLED(PAPER). -/
def deskStalled (p : Port) : State :=
  let s := deskHolding .printing p
  { s with pe := { (readyEngine s (.stalled .paper)).pe with job := some 1, ppe := true } }

theorem deskStalled_spool (p : Port) : SpoolLaw (deskStalled p) := by
  have h := deskHolding_spool .printing p
  exact ⟨h.blocks, h.chains, h.held, h.ids, h.limits, h.queue⟩

theorem deskStalled_printing (p : Port) : PrintingLaw (deskStalled p) := by
  refine ⟨?_, ?_⟩ <;> simp [deskStalled, deskHolding, readyEngine, spooled, oneJob]

/-- A text of 128 characters with the spool and the quota free, with one block of quota left, and with one block free; the other
frames of section 4.4 with and without a mapped address, with and without an OPEN job, with text and empty, and a stop for a job that
is PRINTING. -/
theorem witness_PrintDataIsAdmittedWhole :
    (let data := framed online 0x03 (List.replicate 128 0x41)
     let s := desking data
     let full : State := { s with sm := { s.sm with free := [7] } }
     (SpoolLaw s ∧ MemoryLaw s) ∧ characterError data.profile.parity 0xFD true true = false ∧ data.inBreak = false ∧
     data.rx.phase = .check ∧ data.state = .online ∧ data.responses.length < 4 ∧ data.rx.errorMark = false ∧
     byteSum (data.rx.kind :: data.rx.len :: data.rx.payload) + 0xFD = 0 ∧ data.rx.kind = kindPrintData ∧
     1 ≤ data.rx.len.toNat ∧ data.rx.len.toNat ≤ 128 ∧ s.mappedAddress 2 = some 12 ∧
     s.openJob? (.desk 12) = some opened ∧ s.fillingFor 2 = none ∧
     (s.entry 12).held + blocksNeeded opened.count data.rx.payload.length ≤ (s.entry 12).quota ∧
     ((after s [.setQuota false 12 1]).entry 12).quota < 0 + blocksNeeded opened.count data.rx.payload.length ∧
     full.sm.free.length < blocksNeeded opened.count data.rx.payload.length ∧
     blocksNeeded opened.count data.rx.payload.length ≤ s.sm.free.length) ∧
    (CompletesGood (office (framed online 0x06 [])) 2 0xFA true true kindQuery [] ∧
      CompletesGood (State.reset.setPort 2 (framed online 0x02 [0x82])) 2 0x7B true true kindPrintOpen [0x82] ∧
      CompletesGood (desking (framed online 0x02 [0x82])) 2 0x7B true true kindPrintOpen [0x82] ∧
      CompletesGood (office (framed online 0x03 [0x41])) 2 0xBB true true kindPrintData [0x41] ∧
      CompletesGood (desking (framed online 0x04 [])) 2 0xFC true true kindPrintClose [] ∧
      CompletesGood (desking (framed online 0x05 [0x00])) 2 0xFA true true kindPrintCancel [0x00] ∧
      CompletesGood (desking (framed online 0x05 [0x01])) 2 0xF9 true true kindPrintCancel [0x01]) ∧
    ((State.reset.setPort 2 online).mappedAddress 2 = none ∧ (office online).mappedAddress 2 = some 12 ∧
      (office online).openJob? (.desk 12) = none ∧ (desking online).openJob? (.desk 12) = some opened ∧ opened.count = 0 ∧
      (office online).pe.state = .disabled ∧ (readyEngine (office online) .idle).pe.state ≠ .disabled ∧
      RoomFor (office online) (.desk 12) ∧
      ¬ RoomFor { office online with sm := { State.reset.sm with jobs := List.replicate 16 (oneJob .queued) } } (.desk 12)) ∧
    (let s := deskHolding .opened (framed online 0x04 [])
     (SpoolLaw s ∧ SpoolLaw (readyEngine s .idle)) ∧ CompletesGood s 2 0xFC true true kindPrintClose []) ∧
    (let s := deskHolding .opened (framed online 0x04 [])
     (s.openJob? (.desk 12)).map Job.count = some 2 ∧ s.mappedAddress 2 = some 12 ∧ s.fillingFor 2 = none ∧
     s.pe.state ≠ .idle ∧ (readyEngine s .idle).pe.state = .idle ∧ (readyEngine s .idle).pe.ready = true ∧
     ∀ i ∈ s.sm.jobs, i.state ≠ .queued) ∧
    ((let d := deskStalled (framed online 0x05 [0x01])
      (SpoolLaw d ∧ PrintingLaw d) ∧ CompletesGood d 2 0xF9 true true kindPrintCancel [1]) ∧
     (let d := deskStalled (framed online 0x05 [0x01])
      let acked : State := { d with pe := { d.pe with state := .running, handshake := .ack } }
      d.fillingFor 2 = none ∧ d.mappedAddress 2 = some 12 ∧
      (d.job? 1).map (fun j => (j.source, j.state)) = some (.desk 12, .printing) ∧
      ¬ (d.pe.state = .running ∧ d.pe.handshake = .ack) ∧ (∀ k ∈ d.sm.jobs, k.state ≠ .queued) ∧
      acked.pe.state = .running ∧ acked.pe.handshake = .ack ∧ d.job? 5 = none)) :=
  ⟨⟨⟨desking_spool _, by unfold MemoryLaw; decide⟩, by decide +kernel⟩, by unfold CompletesGood; refine ⟨?_, ?_, ?_, ?_, ?_, ?_, ?_⟩ <;> decide,
    by unfold RoomFor; decide, ⟨⟨deskHolding_spool _ _, readyEngine_spool (deskHolding_spool _ _)⟩, by unfold CompletesGood; decide⟩,
    by decide, ⟨⟨deskStalled_spool _, deskStalled_printing _⟩, by unfold CompletesGood; decide⟩,
    by decide⟩

theorem witness_GapsAndBreaksEndFrames :
    let p := framed online 0x01 [0x41]
    (p.rx.phase ≠ .leadHunt ∧ p.inBreak = false ∧ p.state ≠ .standby ∧ p.gapHeld = false ∧ p.state = .online) ∧
    (let q : Port := { p with state := .stopping }
     q.rx.phase ≠ .leadHunt ∧ q.gapHeld = false ∧ q.state = .stopping ∧ (office q).fillingFor 2 = none ∧
     q.tx.busy = false ∧ ({ q with tx := .sending (.deliver [0x41]) } : Port).tx.busy = true ∧
     ({ office p with pr := .filling ⟨12, .poll 0, .desk 2, .offline, 16⟩ 5 } : State).fillingFor 2 ≠ none) ∧
    ({ online with inBreak := true } : Port).inBreak = true := by decide

theorem witness_PeerReadyDetachesAndReturnsAPort :
    (online.profile.peerUsed = true ∧ online.srdy = true ∧ online.state = .online) ∧
    (let p : Port := { online with state := .detached, srdy := false, tx := .held }
     p.profile.peerUsed = true ∧ p.srdy = false ∧ p.state = .detached) ∧
    (let s := after (office online) [.peerReadyDeasserted 2]
     (s.port 2).profile.peerUsed = true ∧ (s.port 2).srdy = false ∧ (s.port 2).state = .online ∧
     (s.port 2).detachTimer.isSome = true ∧ s.fillingFor 2 = none) ∧
    (State.reset.port 0).state = .standby := by decide

theorem witness_SentFramesMakeRoom :
    let p : Port := { online with downstream := [[0x41]], tx := .sending (.deliver [0x41]) }
    ((office p).port 2).tx = .sending (.deliver [0x41]) ∧ p.state ≠ .stopping ∧ (online.tx.busy = false) ∧
    ({ p with state := .stopping } : Port).rx.phase = .leadHunt ∧
    ({ framed p 0x01 [0x41] with state := .stopping } : Port).rx.phase ≠ .leadHunt ∧
    (PortProfile.default.parity = .none ∧ ({ PortProfile.default with parity := .odd } : PortProfile).parity = .odd ∧
      ({ PortProfile.default with parity := .even } : PortProfile).parity = .even) := by decide

theorem witness_LimitsAndFlagsAreWrittenAndJudged :
    ((0 : BitVec 16).toNat < (1 : BitVec 16).toNat ∧ (1 : BitVec 16).toNat < (1023 : BitVec 16).toNat ∧
      (1023 : BitVec 16).toNat ≤ 1023 ∧ 1 ≤ (1 : Byte).toNat ∧ (7 : Byte).toNat ≤ 7 ∧ (60 : Byte).toNat ≤ 60) ∧
    (let s := after State.reset [.forceIsolate false 0x01]
     ObjectId.segment .b ≠ .segment .a ∧ (s.object (.segment .b)).state = .isolated ∧
     s.hm.isolate ≤ (s.object (.segment .b)).score) := by decide

theorem witness_ObjectsAreForcedOutAndIn :
    ((coax.entry 5).location ≠ .segB ∧ (coax.entry 17).location = .segB ∧ coax.effectiveMayIsolate (.station 17) = true) ∧
    (ObjectId.port 2 ≠ .segment .a ∧ (office online).effectiveMayIsolate (.port 2) = true ∧
      ((office online).object (.port 2)).state ≠ .isolated ∧ ((office online).port 2).state = .online) ∧
    (let s := after (office online) [.forceIsolate false 0x12]
     (s.object (.port 2)).state = .isolated ∧ (s.port 2).state = .isolated) ∧
    (ObjectId.segment .b ≠ .segment .a ∧ coax.effectiveMayIsolate (.segment .b) = true ∧
      (coax.object (.segment .b)).state ≠ .isolated ∧
      ((after coax [.forceIsolate false 0x01]).object (.segment .b)).state = .isolated) ∧
    ((after State.reset [.setMayIsolate false 0x01 0]).effectiveMayIsolate (.segment .b) = false) := by decide

theorem witness_ProbeTimerAssessesTheInterval :
    (let s := scored coax (.segment .b) 1023 .isolated
     let n := scored coax (.station 17) 1023 .isolated
     (s.hm.probe = none ∧ s.segBIsolated = true ∧ s.hm.jabberMark = false ∧
       firstFrom s.hm.segmentPointer (fun a => (s.entry a).location == .segB) = some 17) ∧
     (n.hm.probe = none ∧ n.segBIsolated = false) ∧
     ((n.setProbe (some ⟨.awaiting 18, .station, 17⟩)).hm.probe = some ⟨.awaiting 18, .station, 17⟩) ∧
     ((n.setProbe (some ⟨.pending, .station, 17⟩)).hm.probe = some ⟨.pending, .station, 17⟩) ∧
     (((after (office online) [.breakRecognized 2, .forceIsolate false 0x12]).port 2).state = .isolated ∧
       ((after (office online) [.breakRecognized 2, .forceIsolate false 0x12]).port 2).breakMark = true)) ∧
    (let p : Port := { framed online 0x06 [] with state := .isolated }
     let s (score : Nat) (marked : Bool) : State := scored (office { p with creditMark := marked }) (.port 2) score .isolated
     ((s 1023 true).port 2).state = .isolated ∧ CompletesGood (s 1023 true) 2 0xFA true true kindQuery [] ∧
     ((s 1023 true).port 2).creditMark = true ∧
     (CompletesGood (s 1023 false) 2 0xFA true true kindQuery [] ∧ ((s 1023 false).credited (.port 2)).state = .isolated) ∧
     (CompletesGood (s 97 false) 2 0xFA true true kindQuery [] ∧ ((s 97 false).credited (.port 2)).state ≠ .isolated)) := by
  refine ⟨by decide, ?_⟩
  unfold CompletesGood
  decide

/-- A probe of station 17 in each state of its exchange; in REPLY_IN with a valid reply, a bad check, a malformed reply and a cut
one. -/
theorem witness_ProbeExchangesRunAndFail :
    (let s := coax.setProbe (some ⟨.pending, .station, 17⟩)
     s.hm.probe = some ⟨.pending, .station, 17⟩ ∧ s.ti.segB.tx = .idle ∧ s.ti.segB.activity = none ∧ 2 ≤ 2 ∧
     s.ti.segA.copy = none ∧ s.ti.segB.copy = none ∧ s.ti.segB.watch = none) ∧
    (coax.setProbe (some ⟨.pending, .segment, 17⟩)).hm.probe = some ⟨.pending, .segment, 17⟩ ∧
    (let s := burst (coax.setProbe (some ⟨.awaiting 18, .station, 17⟩)) .b none []
     s.hm.probe = some ⟨.awaiting 18, .station, 17⟩ ∧ s.ti.segB.tx = .idle ∧ s.ti.segB.rx.awaitsAddress = true ∧
     s.ti.segB.watch = none ∧ (30 : Address) ≠ 17) ∧
    (let s (body : List Byte) : State := burst (coax.setProbe (some ⟨.replyIn, .station, 17⟩)) .b (some (.reply, 17)) body
     (s [0x02, 0xFE]).hm.probe = some ⟨.replyIn, .station, 17⟩ ∧ (s [0x02, 0xFE]).ti.segB.tx = .idle ∧
     (s [0x02, 0xFE]).ti.segB.rx.phase = .inBurst ∧ (s [0x02, 0xFE]).ti.segB.rx.address = some (.reply, 17) ∧
     (s [0x02, 0xFE]).ti.segB.rx.endsInMark = false ∧ (s [0x02, 0xFE]).ti.segB.rx.malformed = false ∧
     countSuits .reply ([0x02, 0xFE] : List Byte).length = true ∧ byteSum [0x02, 0xFE] = 0 ∧
     ((s []).entry 17).location = .segB ∧ byteSum [0x02, 0xFD] ≠ 0 ∧ countSuits .reply ([] : List Byte).length = false) := by
  decide

theorem witness_EnableAndDisableTheEngine :
    (let gap : State := { readyEngine State.reset .gap with
       pe := { (readyEngine State.reset .gap).pe with releaseTimer := some 0 } }
     gap.pe.state ≠ .disabled ∧ gap.pe.releaseTimer.isSome = true ∧ gap.pe.state = .gap ∧ gap.nextQueued = none) ∧
    (State.reset.pe.state = .disabled ∧ State.reset.pe.releaseTimer = none ∧ State.reset.pe.ready = false) ∧
    ((readyEngine State.reset .disabled).pe.ready = true ∧ (readyEngine State.reset .disabled).nextQueued = none) ∧
    ((printing 0).pe.state = .running ∧ (printing 0).pe.handshake = .ack) ∧
    (let s := after (printing 0) [.ackTimerExpiry]
     s.pe.state.hasJob = true ∧ ¬ (s.pe.state = .running ∧ s.pe.handshake = .ack) ∧ s.pe.job = some 1 ∧
     (s.job? 1).map Job.id = some 1) := by decide

theorem witness_IdleEngineSelectsTheFirstQueuedJob :
    SpoolLaw (readyEngine (spooled (oneJob .queued)) .disabled) ∧
    (let s := readyEngine (spooled (oneJob .queued)) .disabled
     s.pe.state = .disabled ∧ s.pe.releaseTimer = none ∧ s.pe.ready = true ∧ s.nextQueued = some (oneJob .queued) ∧
     (oneJob .queued).chain = 0 :: [] ∧ (oneJob .queued).pageMark = none) ∧
    (let j : Job := { oneJob .queued with position := some ⟨0, 1⟩, pageMark := some ⟨0, 1⟩ }
     SpoolLaw (readyEngine (spooled j) .disabled) ∧ (readyEngine (spooled j) .disabled).nextQueued = some j) := by
  have h := spooled_spool (oneJob .queued) rfl rfl rfl rfl
  have h' := spooled_spool { oneJob .queued with position := some ⟨0, 1⟩, pageMark := some ⟨0, 1⟩ } rfl rfl rfl rfl
  exact ⟨⟨h.blocks, h.chains, h.held, h.ids, h.limits, h.queue⟩, by decide,
    ⟨h'.blocks, h'.chains, h'.held, h'.ids, h'.limits, h'.queue⟩, by decide⟩

theorem witness_JobsAreHeldReleasedAndPromoted :
    (let s (st : JobState) : State := spooled (oneJob st)
     (1 : Byte) ≠ 0 ∧ (s .opened).job? (1 : Byte).toNat = some (oneJob .opened) ∧
     (s .queued).job? (1 : Byte).toNat = some (oneJob .queued) ∧ (s .held).job? (1 : Byte).toNat = some (oneJob .held) ∧
     (s .held).pe.state ≠ .idle ∧ (oneJob .queued).priority = .normal ∧
     ({ oneJob .queued with priority := .urgent } : Job).priority = .urgent) ∧
    (let s := readyEngine (spooled (oneJob .held)) .idle
     SpoolLaw s ∧ s.job? (1 : Byte).toNat = some (oneJob .held) ∧ s.pe.state = .idle ∧
     (s.sm.queue.find? fun i => i == (oneJob .held).id || (s.job? i).any fun k => k.state == .queued) = some 1) := by
  refine ⟨by decide, ?_, by decide, by decide, by decide⟩
  have h := spooled_spool (oneJob .held) rfl rfl rfl rfl
  exact ⟨h.blocks, h.chains, h.held, h.ids, h.limits, h.queue⟩

theorem witness_JobsEndByCancelAndTimeout :
    ((1 : Byte) ≠ 0 ∧ (spooled (oneJob .queued)).job? (1 : Byte).toNat = some (oneJob .queued)) ∧
    ((printing 0).pe.state = .running ∧ (printing 0).pe.handshake = .ack) ∧
    (let s := deskStalled online
     (SpoolLaw s ∧ PrintingLaw s) ∧ (s.job? (1 : Byte).toNat).map Job.state = some .printing ∧
     ¬ (s.pe.state = .running ∧ s.pe.handshake = .ack) ∧ (∀ k ∈ s.sm.jobs, k.state ≠ .queued) ∧
     ({ s with pe := { s.pe with shared := true, preq := true } } : State).pe.shared = true) ∧
    (let j : Job := { opened with idleTimer := some 0 }
     ({ desking online with sm := { (desking online).sm with jobs := [j] } } : State).job? (1 : Byte).toNat = some j ∧
     j.state = .opened ∧ j.idleTimer = some 0 ∧ j.source = .desk 12) ∧
    (let j : Job := { oneJob .opened with idleTimer := some 0 }
     (spooled j).job? (1 : Byte).toNat = some j ∧ j.source = .primary ∧ j.count ≠ 0 ∧ j.priority = .normal ∧
     (spooled j).pe.state ≠ .idle ∧ (readyEngine (spooled j) .idle).pe.state = .idle ∧
     (readyEngine (spooled j) .idle).pe.ready = true ∧ ∀ i ∈ (readyEngine (spooled j) .idle).sm.jobs, i.state ≠ .queued) ∧
    (let j : Job := { opened with source := .primary, idleTimer := some 0 }
     ({ desking online with sm := { (desking online).sm with jobs := [j] } } : State).job? 1 = some j ∧ j.count = 0) ∧
    ((desking online).job? (1 : Byte).toNat = some opened ∧ opened.idleTimer ≠ some 0) :=
  ⟨by decide, by decide, ⟨⟨deskStalled_spool _, deskStalled_printing _⟩, by decide, by decide, by decide, by decide⟩, by decide,
    by decide, by decide, by decide⟩

/-- A changed line in each state of the engine; paper back in STALLED(PAPER) under either resume policy, with both conditions
standing before, and for a SHARED job without its grant; PSEL rising in STALLED(NO_RESPONSE). -/
theorem witness_PrinterLinesAreFollowed :
    (State.reset.pe.line .psel ≠ true ∧ State.reset.pe.state = .disabled) ∧
    ((readyEngine State.reset .idle).pe.line .ppe ≠ true ∧ (readyEngine State.reset .idle).pe.state = .idle) ∧
    ((readyEngine State.reset .notReady).pe.state = .notReady ∧ (readyEngine State.reset .notReady).nextQueued = none) ∧
    (let s : State := { printing 0 with pe := { (printing 0).pe with handshake := .wait, pbusy := true } }
     s.pe.line .pbusy ≠ false ∧ s.pe.state = .running ∧ s.pe.handshake = .wait ∧
     (s.pe.setLine .ppe true).hindered = true ∧ (s.pe.setLine .pbusy false).hindered = false ∧ s.pe.job = some 1) ∧
    (let stalled (r : StallReason) (char : Bool) : State := { printing 1 with pe := { (printing 1).pe with
       state := .stalled r, handshake := .none, ackTimer := none, ppe := true
       profile := { (printing 1).pe.profile with resumeChar := char } } }
     let s := stalled .paper true
     s.pe.line .ppe ≠ false ∧ s.pe.job = some 1 ∧ (s.job? 1).map Job.id = some 1 ∧ s.pe.ready = false ∧
     (s.pe.setLine .ppe false).ready = true ∧ s.pe.profile.resumeChar = true ∧
     (stalled .fault false).pe.profile.resumeChar = false ∧ s.pe.shared = false ∧
     (let both : State := { s with pe := { s.pe with pfltN := false, faultFirst := true } }
      both.pe.line .psel ≠ false ∧ (both.pe.setLine .psel false).ready = false ∧
      (both.pe.setLine .psel false).faultFirst = true) ∧
     (let waits : State := { s with pe := { s.pe with shared := true, preq := true } }
      waits.pe.shared = true ∧ waits.pe.pgnt = false)) ∧
    (let s := after (printing 1) [.ackTimerExpiry, .printerLineChange .psel false]
     s.pe.state = .stalled .noResponse ∧ s.pe.line .psel ≠ true ∧ s.pe.job = some 1 ∧ (s.job? 1).map Job.id = some 1) := by
  decide

/-- A character within the text and the form feed at its end; and the acknowledgement of the last character with what can be pending:
a stop, a disable, a condition, a grant loss; with a further copy due, and as the last character of the job. -/
theorem witness_AcknowledgedCharactersAdvance :
    (let s := printing 0
     s.pe.state = .running ∧ s.pe.handshake = .ack ∧ s.pe.phase = .text ∧ s.pe.stopPending = false ∧
     s.pe.disablePending = false ∧ s.pe.grantLost = false ∧ s.pe.ppe = false ∧ s.pe.pfltN = true ∧ s.pe.job = some 1 ∧
     ∃ j, s.job? 1 = some j ∧ j.id = 1 ∧ j.position = some ⟨0, 0⟩ ∧ j.lastPlace ≠ some ⟨0, 0⟩ ∧
       j.after ⟨0, 0⟩ = some ⟨0, 1⟩) ∧
    (let s := after (printing 1) [.packEdge]
     s.pe.state = .running ∧ s.pe.handshake = .ack ∧ s.pe.phase = .endFF ∧ s.pe.stopPending = false ∧
     s.pe.disablePending = false ∧ s.pe.shared = false ∧ s.pe.job = some 1 ∧
     (∃ j, s.job? 1 = some j ∧ j.copies ≤ j.copiesDone + 1) ∧ ∀ k ∈ s.sm.jobs, k.state ≠ .queued) ∧
    (let s := printing 1
     let j : Job := { oneJob .printing with position := some ⟨0, 1⟩, pageMark := some ⟨0, 0⟩ }
     let more : Job := { j with copies := 2 }
     let pends (f : Engine → Engine) : State := { s with pe := f s.pe }
     s.pe.job = some 1 ∧ s.job? 1 = some j ∧ j.position = some ⟨0, 1⟩ ∧ j.lastPlace = some ⟨0, 1⟩ ∧
     j.afterTaken true .text ⟨0, 1⟩ 0x42 = some (j, .endFF) ∧ j.afterTaken false .text ⟨0, 1⟩ 0x42 = none ∧
     j.afterTaken true .text ⟨0, 1⟩ 0x0C = none ∧
     more.afterTaken false .text ⟨0, 1⟩ 0x42 =
       some ({ more with copiesDone := 1, position := some ⟨0, 0⟩, pageMark := some ⟨0, 0⟩ }, .text) ∧
     (∀ k ∈ s.sm.jobs, k.state ≠ .queued) ∧
     (pends fun e => { e with stopPending := true }).pe.stopPending = true ∧
     ((pends fun e => { e with disablePending := true }).pe.disablePending = true ∧ s.pe.stopPending = false) ∧
     ((pends fun e => { e with ppe := true }).pe.ppe = true ∧ s.pe.disablePending = false) ∧
     ((pends fun e => { e with grantLost := true, shared := true }).pe.grantLost = true ∧
       ¬ (s.pe.ppe = true ∨ s.pe.pfltN = false))) :=
  ⟨⟨by decide, by decide, by decide, by decide, by decide, by decide, by decide, by decide, by decide, _, rfl, by decide,
    by decide, by decide, by decide⟩,
   ⟨by decide, by decide, by decide, by decide, by decide, by decide, by decide, ⟨_, rfl, by decide⟩, by decide⟩, by decide⟩

/-- An expiry with nothing pending and with each thing that can be; STALLED(NO_RESPONSE) with and without the grant; PGNT at a
handshake, in STALLED(GRANT), and in a claim of a new and of a returned job. -/
theorem witness_StallsAndGrants :
    (let s := printing 1
     let pends (f : Engine → Engine) : State := { s with pe := f s.pe }
     s.pe.state = .running ∧ s.pe.handshake ≠ .none ∧ s.pe.ackTimer.isSome = true ∧ s.pe.stopPending = false ∧
     s.pe.disablePending = false ∧ s.pe.grantLost = false ∧ s.pe.hindered = false ∧ s.pe.job = some 1 ∧
     (s.job? 1).map Job.id = some 1 ∧
     (pends fun e => { e with stopPending := true }).pe.stopPending = true ∧
     (pends fun e => { e with disablePending := true }).pe.disablePending = true ∧
     (pends fun e => { e with pfltN := false }).pe.hindered = true ∧
     (pends fun e => { e with grantLost := true, shared := true }).pe.grantLost = true) ∧
    (let s := after (printing 1) [.ackTimerExpiry]
     s.pe.state = .stalled .noResponse ∧ s.pe.job = some 1 ∧ (s.job? 1).map Job.id = some 1) ∧
    (State.reset.pe.pgnt ≠ true ∧ State.reset.pe.shared = false) ∧
    (let s : State := { printing 0 with pe := { (printing 0).pe with shared := true, preq := true, pgnt := true } }
     s.pe.pgnt ≠ false ∧ s.pe.shared = true ∧ s.pe.state = .running ∧ s.pe.handshake = .ack ∧
     (let g := after s [.pgntChange false, .packEdge]
      g.pe.pgnt ≠ true ∧ g.pe.state = .stalled .grant ∧ g.pe.shared = true ∧ g.pe.job = some 1 ∧
      (g.job? 1).map Job.id = some 1)) ∧
    (let s (j : Job) : State := spooled j
     let c (j : Job) : State := after (readyEngine { s j with pe := { (s j).pe with
       profile := { (s j).pe.profile with shared := true } } } .disabled) [.printerEnable false]
     let returned : Job := { oneJob .queued with position := some ⟨0, 1⟩, pageMark := some ⟨0, 1⟩ }
     (c (oneJob .queued)).pe.pgnt ≠ true ∧ (c (oneJob .queued)).pe.shared = true ∧
     (c (oneJob .queued)).pe.state = .claiming ∧ (c (oneJob .queued)).pe.job = some 1 ∧
     ((c (oneJob .queued)).job? 1).map Job.pageMark = some none ∧ (c returned).pe.state = .claiming ∧
     ((c returned).job? 1).map Job.pageMark = some (some ⟨0, 1⟩)) := by decide

/-- A conflict's report enable set, with room and behind 16 records, and clear; a queue with records and an empty one. -/
theorem witness_ReportsAreReadAndSecondsCounted :
    Cause.conflict ≠ .reportLost ∧ State.reset.au.queue = [] ∧
    fullReports.au.queue = ⟨0, .conflict, 0, .aged, 0⟩ :: fullReports.au.queue.tail ∧
    (let on (s : State) := after s [.setAlerts false 0x1FF 0x1FF]
     (on State.reset).au.reports.getLsbD Cause.conflict.code = true ∧ (on State.reset).au.queue.length < 16 ∧
     (on fullReports).au.reports.getLsbD Cause.conflict.code = true ∧ 16 ≤ (on fullReports).au.queue.length ∧
     State.reset.au.reports.getLsbD Cause.conflict.code = false) := by decide

end Sys2Proof.Tests
end

section
/-! PROOF. What argument bytes give back, shared by the proofs about the commands (R185). -/

namespace Sys2Proof.Machine

/-! ### Argument bytes give back what they spell (R185) -/

@[simp] theorem addressOf_byteOf (a : Address) : addressOf (byteOf a.val) = some a := by
  have h : (byteOf a.val).toNat = a.val := Nat.mod_eq_of_lt (by omega)
  simp [addressOf, h]

theorem addressOf_of_ge {x : Byte} (h : 63 ≤ x.toNat) : addressOf x = none := dif_neg (by omega)

@[simp] theorem portOf_byteOf (n : PortNo) : portOf (byteOf n.val) = some n := by
  have h : (byteOf n.val).toNat = n.val := Nat.mod_eq_of_lt (by omega)
  simp [portOf, h]

/-- An address is not taken for PRIMARY: 0x40 lies beyond the addresses. -/
@[simp] theorem sourceOf_byteOf (a : Address) : sourceOf (byteOf a.val) = some (.desk a) := by
  have hprimary : byteOf a.val ≠ 0x40 := fun e => by
    have h := addressOf_byteOf a
    rw [e] at h
    cases h
  rw [sourceOf, if_neg hprimary, addressOf_byteOf, Option.map_some]

/-- The selectors of the objects lie apart, and below PARAMETERS. -/
theorem selectorOf_code (o : ObjectId) : selectorOf o.code = some o ∧ o.code ≠ 0xFF := by
  match o with
  | .segment .a => decide
  | .segment .b => decide
  | .port n => revert n; decide
  | .station a => revert a; decide

end Sys2Proof.Machine
end

section
/-! PROOF. The directory's commands that clear an address and place the printer, and what resets and replies make of them
(chapter 1). -/

namespace Sys2Proof.Machine

variable (s : State)

/-! ### The clearing of a station object (R3, R142) -/

/-- The Alert Unit after a station object is set to score 0 and ACTIVE: told of it, unless the object was so already. -/
def State.toldOfClearing (a : Address) : AlertUnit :=
  if (s.object (.station a)).score = 0 ∧ (s.object (.station a)).state = .active then s.au
  else s.au.take .stationState a.val (.health (.state .active))

/-- A station's readmission order reaches the probe exchange alone (R141, R152). -/
theorem State.restoreStation_eq (a : Address) : s.restoreStation a = { s with hm := (s.restoreStation a).hm } := by
  unfold State.restoreStation
  split <;> rfl

/-- The clearing of a station object reaches the Health Monitor and the Alert Unit alone. -/
theorem State.clearObject_station_eq (a : Address) (f : Bool) : s.clearObject (.station a) f =
    { s with hm := (s.clearObject (.station a) f).hm, au := s.toldOfClearing a } := by
  unfold State.clearObject State.toldOfClearing
  dsimp only
  split
  · rfl
  · split
    · exact State.restoreStation_eq _ a
    · rfl

theorem State.clearObject_station_au (a : Address) (f : Bool) :
    (s.clearObject (.station a) f).au = s.toldOfClearing a :=
  congrArg State.au (s.clearObject_station_eq a f)

@[simp] theorem State.clearObject_station_ti (a : Address) (f : Bool) : (s.clearObject (.station a) f).ti = s.ti := by
  rw [s.clearObject_station_eq]

@[simp] theorem State.clearObject_station_ports (a : Address) (f : Bool) :
    (s.clearObject (.station a) f).ports = s.ports := by
  rw [s.clearObject_station_eq]

/-- An object that is as its clearing leaves it stays, and so does all else. -/
theorem State.clearObject_of_clean {o : ObjectId} {f : Bool} (h : s.object o = .clean f) : s.clearObject o f = s := by
  have hset : s.setObject o (.clean f) = s := by rw [← h, s.setObject_object]
  have hclear : (s.object o).score = 0 ∧ (s.object o).state = .active := by rw [h]; exact ⟨rfl, rfl⟩
  rw [State.clearObject, hset, if_pos hclear]

/-- A station object already at score 0 and ACTIVE is not reported. -/
theorem State.toldOfClearing_of_clear {a : Address}
    (h : (s.object (.station a)).score = 0 ∧ (s.object (.station a)).state = .active) : s.toldOfClearing a = s.au :=
  if_pos h

/-- Two states alike but for the directory, the health objects, the reports and the link. -/
theorem State.eq_of_kept {s t : State} (hti : t.ti = s.ti) (hpr : t.pr = s.pr) (hports : t.ports = s.ports)
    (hsm : t.sm = s.sm) (hpe : t.pe = s.pe) (hdraws : t.draws = s.draws) (hpending : t.pending = s.pending) :
    t = { s with sd := t.sd, hm := t.hm, au := t.au, al := t.al } := by
  rw [← hti, ← hpr, ← hports, ← hsm, ← hpe, ← hdraws, ← hpending]

/-! ### CLEAR_ENTRY (R10) -/

theorem State.onBusyPort_iff (a : Address) :
    s.onBusyPort a = true ↔ ∃ m, (s.entry a).location = .port m ∧ (s.port m).state ≠ .standby := by
  unfold State.onBusyPort
  cases (s.entry a).location <;> simp

theorem State.entry_clearEntry (a b : Address) :
    (s.clearEntry a).entry b = if b = a then { (s.entry a).vacated with standIn := .silent } else s.entry b := by
  simp [State.clearEntry, State.entry_setEntry_eq]

theorem State.object_clearEntry (a : Address) (o : ObjectId) :
    (s.clearEntry a).object o = if o = .station a then .clean true else s.object o := by
  simp [State.clearEntry, State.object_clearObject]

theorem State.clearEntry_au (a : Address) : (s.clearEntry a).au = s.toldOfClearing a := by
  simp [State.clearEntry, State.clearObject_station_au, State.toldOfClearing]

theorem State.clearEntry_sd (a : Address) : (s.clearEntry a).sd = { s.sd with entries := (s.clearEntry a).sd.entries } := by
  simp [State.clearEntry, State.setEntry]

theorem State.setEntry_entry (a : Address) : s.setEntry a (s.entry a) = s := by
  simp [State.setEntry, State.entry]

/-- An entry in the unused state stays as it was. -/
theorem State.clearEntry_of_unused {a : Address} (he : s.entry a = { (s.entry a).vacated with standIn := .silent })
    (ho : s.object (.station a) = .clean true) : s.clearEntry a = s := by
  rw [State.clearEntry, ← he, s.setEntry_entry, s.clearObject_of_clean ho]

/-! ### SET_PRINTER_ADDRESS (R11) -/

variable {s}

theorem DirectoryLaw.eq_of_printer (h : DirectoryLaw s) {a b : Address} (ha : (s.entry a).location = .printer)
    (hb : (s.entry b).location = .printer) : a = b := by
  obtain ⟨-, hunique⟩ := h
  exact hunique a b (by rw [ha, hb]) (.inr ha)

/-- At most one address is the printer's, so the search finds it. -/
theorem DirectoryLaw.printerAddress_eq_some (h : DirectoryLaw s) {b : Address} :
    s.printerAddress = some b ↔ (s.entry b).location = .printer := by
  constructor
  · intro hb
    simpa using List.find?_some hb
  · intro hb
    cases hc : s.printerAddress with
    | none => simpa [hb] using List.find?_eq_none.mp hc b (List.mem_finRange b)
    | some c =>
      have hcp : (s.entry c).location = .printer := by simpa using List.find?_some hc
      rw [h.eq_of_printer hcp hb]

/-- The printer address, if another one, is vacated: its routing and its station object. -/
theorem DirectoryLaw.vacatePrinter (h : DirectoryLaw s) {a : Address} (ha : (s.entry a).location ≠ .printer) :
    s.vacatePrinter a = s ∧ (∀ b, (s.entry b).location ≠ .printer) ∨
    ∃ c, (∀ b, (s.entry b).location = .printer ↔ b = c) ∧
      s.vacatePrinter a = (s.setEntry c (s.entry c).vacated).clearKeeping (.station c) := by
  unfold State.vacatePrinter
  cases hc : s.printerAddress with
  | none => exact .inl ⟨rfl, fun b hb => by simp [h.printerAddress_eq_some.mpr hb] at hc⟩
  | some c =>
    have hcp := h.printerAddress_eq_some.mp hc
    have hca : c ≠ a := fun e => ha (e ▸ hcp)
    refine .inr ⟨c, fun b => ?_, by simp [hca]⟩
    rw [← h.printerAddress_eq_some, hc, Option.some_inj, eq_comm]

theorem State.entry_vacatePrinter (h : DirectoryLaw s) {a : Address} (ha : (s.entry a).location ≠ .printer) (b : Address) :
    (s.vacatePrinter a).entry b = if (s.entry b).location = .printer then (s.entry b).vacated else s.entry b := by
  obtain ⟨heq, hnone⟩ | ⟨c, hc, heq⟩ := h.vacatePrinter ha
  · simp [heq, hnone]
  · by_cases hb : b = c <;> simp [heq, hc, hb]

theorem State.object_vacatePrinter (h : DirectoryLaw s) {a : Address} (ha : (s.entry a).location ≠ .printer) (b : Address) :
    (s.vacatePrinter a).object (.station b) =
      if (s.entry b).location = .printer then .clean (s.object (.station b)).mayIsolate else s.object (.station b) := by
  obtain ⟨heq, hnone⟩ | ⟨c, hc, heq⟩ := h.vacatePrinter ha
  · simp [heq, hnone]
  · by_cases hb : b = c <;> simp [heq, hc, hb, State.object_clearKeeping]

/-- The station object of the printer address is at score 0 and ACTIVE (R3), so its clearing goes unreported. -/
theorem State.vacatePrinter_au (h : DirectoryLaw s) (hh : HealthLaw s) {a : Address}
    (ha : (s.entry a).location ≠ .printer) : (s.vacatePrinter a).au = s.au := by
  obtain ⟨-, -, -, hoff⟩ := hh
  obtain ⟨heq, -⟩ | ⟨c, hc, heq⟩ := h.vacatePrinter ha
  · rw [heq]
  · have hclear := hoff c (by simp [(hc c).mpr rfl, Location.isSegment])
    rw [heq, State.clearKeeping, State.clearObject_station_au, State.toldOfClearing_of_clear] <;> simp [hclear]

variable (s)

@[simp] theorem State.vacatePrinter_ti (a : Address) : (s.vacatePrinter a).ti = s.ti := by
  unfold State.vacatePrinter
  (repeat' split) <;> simp [State.clearKeeping]

@[simp] theorem State.vacatePrinter_ports (a : Address) : (s.vacatePrinter a).ports = s.ports := by
  unfold State.vacatePrinter
  (repeat' split) <;> simp [State.clearKeeping]

theorem State.vacatePrinter_sd (a : Address) :
    (s.vacatePrinter a).sd = { s.sd with entries := (s.vacatePrinter a).sd.entries } := by
  unfold State.vacatePrinter
  (repeat' split) <;> simp [State.setEntry]

/-- The printer address itself stays as it was. -/
theorem State.makePrinter_of_printer {a : Address} (h : (s.entry a).location = .printer) : s.makePrinter a = s := if_pos h

variable {s}

/-- Another address takes the place of the printer address. -/
theorem State.makePrinter_of_other {a : Address} (h : (s.entry a).location ≠ .printer) : s.makePrinter a =
    ((s.vacatePrinter a).setEntry a { (s.vacatePrinter a).entry a with
      location := .printer, origin := .static, age := 0 }).clearKeeping (.station a) := if_neg h

theorem State.entry_makePrinter (h : DirectoryLaw s) {a : Address} (ha : (s.entry a).location ≠ .printer) (b : Address) :
    (s.makePrinter a).entry b =
      if b = a then { s.entry a with location := .printer, origin := .static, age := 0 }
      else if (s.entry b).location = .printer then (s.entry b).vacated else s.entry b := by
  simp [State.makePrinter_of_other ha, State.entry_setEntry_eq, State.entry_vacatePrinter h ha, ha]

theorem State.object_makePrinter (h : DirectoryLaw s) {a : Address} (ha : (s.entry a).location ≠ .printer) (b : Address) :
    (s.makePrinter a).object (.station b) =
      if b = a ∨ (s.entry b).location = .printer then .clean (s.object (.station b)).mayIsolate
      else s.object (.station b) := by
  by_cases hb : b = a
  · subst hb
    simp [State.makePrinter_of_other ha, State.object_clearKeeping, State.object_vacatePrinter h ha, ha]
  · simp [State.makePrinter_of_other ha, State.object_clearKeeping, State.object_vacatePrinter h ha, hb]

theorem State.object_makePrinter_of_ne (a : Address) {o : ObjectId} (ho : ∀ b, o ≠ .station b) :
    (s.makePrinter a).object o = s.object o := by
  have hv : (s.vacatePrinter a).object o = s.object o := by
    unfold State.vacatePrinter
    (repeat' split) <;> simp [State.object_clearKeeping, ho]
  unfold State.makePrinter
  split <;> simp [State.object_clearKeeping, ho, hv]

theorem State.makePrinter_au (h : DirectoryLaw s) (hh : HealthLaw s) {a : Address}
    (ha : (s.entry a).location ≠ .printer) : (s.makePrinter a).au = s.toldOfClearing a := by
  simp [State.makePrinter_of_other ha, State.clearKeeping, State.clearObject_station_au, State.toldOfClearing,
    State.vacatePrinter_au h hh ha, State.object_vacatePrinter h ha, ha]

variable (s)

theorem State.makePrinter_sd (a : Address) :
    (s.makePrinter a).sd = { s.sd with entries := (s.makePrinter a).sd.entries } := by
  unfold State.makePrinter
  split
  · rfl
  · simp only [State.clearKeeping_sd, State.setEntry]
    rw [s.vacatePrinter_sd]

@[simp] theorem State.makePrinter_ti (a : Address) : (s.makePrinter a).ti = s.ti := by
  unfold State.makePrinter
  split <;> simp [State.clearKeeping]

@[simp] theorem State.makePrinter_ports (a : Address) : (s.makePrinter a).ports = s.ports := by
  unfold State.makePrinter
  split <;> simp [State.clearKeeping]

/-! ### The restarts (R18, R179, R180) -/

theorem State.executeRestart_sd : s.executeRestart.sd =
    match s.al.pendingRestart with
    | some .full => .atReset
    | some .traffic => s.sd.restarted
    | none => s.sd := by
  unfold State.executeRestart
  cases s.al.pendingRestart with
  | none => rfl
  | some kind => cases kind <;> rfl

/-- The end of a transaction reaches the directory through a pending restart alone. -/
theorem State.endTransaction_sd (atStart : Bool) : (s.endTransaction atStart).sd = s.executeRestart.sd := by
  unfold State.endTransaction
  split <;> simp [State.executeRestart_sd]

theorem State.entry_of_reset {t : State} (h : t.sd = .atReset) (a : Address) : t.entry a = .unused := by
  simp [State.entry, h, Directory.atReset]

theorem State.entry_of_restarted {t : State} (h : t.sd = s.sd.restarted) (a : Address) :
    t.entry a = (s.entry a).restarted := by
  simp [State.entry, h, Directory.restarted]

/-- The printer's entry is never LEARNED, so that a restart leaves it its location. -/
theorem DirectoryLaw.restarted_printer {s : State} (h : DirectoryLaw s) (a : Address) :
    (s.entry a).restarted.location = .printer ↔ (s.entry a).location = .printer := by
  obtain ⟨hlearned, -⟩ := h
  by_cases ho : (s.entry a).origin = .learned
  · have hseg := hlearned a ho
    have hne : (s.entry a).location ≠ .printer := fun e => by simp [e, Location.isSegment] at hseg
    simp [Entry.restarted, ho, hne]
  · simp [Entry.restarted, ho]

/-! ### A valid reply (R13, R23) -/

/-- The state in which a burst's verdict takes effect: the receiver hunts again, and a copy of the burst has its end (R23, R31). -/
def State.burstTaken (s : State) (g : Seg) : State :=
  (s.setSeg g { s.seg g with rx := .hunting, activity := none }).endSource g.other

@[simp] theorem State.burstTaken_sd (g : Seg) : (s.burstTaken g).sd = s.sd := by simp [State.burstTaken]

@[simp] theorem State.burstTaken_hm (g : Seg) : (s.burstTaken g).hm = s.hm := by simp [State.burstTaken]

@[simp] theorem State.entry_burstTaken (g : Seg) (a : Address) : (s.burstTaken g).entry a = s.entry a := by
  simp [State.burstTaken]

@[simp] theorem State.object_burstTaken (g : Seg) (o : ObjectId) : (s.burstTaken g).object o = s.object o := by
  simp [State.burstTaken]

theorem State.charged_burstTaken (g : Seg) (o : ObjectId) (w : Byte) : (s.burstTaken g).charged o w = s.charged o w := by
  simp only [State.charged, State.object_burstTaken]
  exact State.judged_congr _ (by simp) (by simp) (by simp) (by simp) (by simp) (by simp)

/-- A REPLY without an error event ends with the verdict valid (R23). -/
theorem TrunkRx.verdict_reply {r : TrunkRx} {a : Address} (haddress : r.address = some (.reply, a))
    (hwell : r.malformed = false) (hends : r.endsInMark = false) (hlo : 2 ≤ r.body.length) (hhi : r.body.length ≤ 130)
    (hsum : byteSum r.body = 0) : r.verdict false = .valid := by
  simp [TrunkRx.verdict, haddress, hwell, hends, countSuits, hlo, hhi, hsum]

/-- A valid reply teaches the directory, and then may end the reply that a probe awaits (R13, R153). -/
theorem State.burstEnds_of_validReply {g : Seg} {a : Address} (htx : (s.seg g).tx = .idle)
    (hphase : (s.seg g).rx.phase = .inBurst) (haddress : (s.seg g).rx.address = some (.reply, a))
    (hvalid : (s.seg g).rx.verdict false = .valid) :
    s.burstEnds g false = (((s.burstTaken g).learn g a).probeReplyEnds g true).takeUpBoth := by
  simp [State.burstEnds, Segment.takesBits, htx, hphase, hvalid, State.applyVerdict, haddress, State.validBurst,
    State.burstTaken]

/-- A probe that awaits no reply's end takes no part in it. -/
theorem State.probeReplyEnds_of_ne {g : Seg} (h : g = .b → ∀ p, s.hm.probe = some p → p.phase ≠ .replyIn) (ok : Bool) :
    s.probeReplyEnds g ok = s := by
  unfold State.probeReplyEnds
  split
  · next hp => exact absurd rfl (h rfl _ hp)
  · rfl

@[simp] theorem State.isolateObject_segment_sd (g : Seg) : (s.isolateObject (.segment g)).sd = s.sd := by
  cases g <;> simp [State.isolateObject]

/-- An evaluation of a segment keeps the directory: the order that it hands out is for the trunk and the probe alone. -/
@[simp] theorem State.evaluate_segment_sd (g : Seg) : (s.evaluate (.segment g)).sd = s.sd := by
  unfold State.evaluate
  dsimp only
  (repeat' split) <;> simp

@[simp] theorem State.chargeSegment_sd (g : Seg) (w : Byte) : (s.chargeSegment g w).sd = s.sd := by
  simp [State.chargeSegment, State.addScore]

/-- The probe exchange is as it was, or is over. -/
def ProbeKeptOrOver (s t : State) : Prop := t.hm.probe = s.hm.probe ∨ t.hm.probe = none

variable {s} in
theorem ProbeKeptOrOver.of_eq {t u : State} (hu : u.hm.probe = s.hm.probe) (h : ProbeKeptOrOver u t) :
    ProbeKeptOrOver s t := by
  rwa [ProbeKeptOrOver, ← hu]

theorem State.abandonStationProbe_probe : ProbeKeptOrOver s s.abandonStationProbe := by
  unfold State.abandonStationProbe
  split
  · exact .inr rfl
  · exact .inr rfl
  · exact .inl rfl

theorem State.cutSegmentB_probe : ProbeKeptOrOver s s.cutSegmentB := by
  have h := State.abandonStationProbe_probe ((s.stopCopy .a).stopCopy .b)
  simpa [State.cutSegmentB, ProbeKeptOrOver] using h.of_eq (by simp)

theorem State.restoreSegmentB_probe : ProbeKeptOrOver s s.restoreSegmentB := by
  unfold State.restoreSegmentB
  dsimp only
  split
  · exact .inr rfl
  · exact .inl rfl

theorem State.isolateObject_segment_probe (g : Seg) : ProbeKeptOrOver s (s.isolateObject (.segment g)) := by
  cases g with
  | a => exact .inl (by simp [State.isolateObject])
  | b => exact (State.cutSegmentB_probe _).of_eq (by simp)

theorem State.readmitObject_segment_probe (g : Seg) (h : Health) : ProbeKeptOrOver s (s.readmitObject (.segment g) h) := by
  cases g with
  | a => exact .inl (by simp [State.readmitObject, State.readmissionOrder])
  | b => exact (State.restoreSegmentB_probe _).of_eq (by simp)

@[simp] theorem State.evaluateMark_hm_probe (o : ObjectId) : (s.evaluateMark o).hm.probe = s.hm.probe := by
  unfold State.evaluateMark
  dsimp only
  (repeat' split) <;> simp

/-- An evaluation of a segment reaches the probe exchange through the order it hands out, which at most ends it (R138, R141). -/
theorem State.evaluate_segment_probe (g : Seg) : ProbeKeptOrOver s (s.evaluate (.segment g)) := by
  unfold State.evaluate
  dsimp only
  split
  · split
    · exact (State.readmitObject_segment_probe _ g .active).of_eq (by simp)
    · exact .inl (by simp)
  · split
    · exact (State.isolateObject_segment_probe _ g).of_eq (by simp)
    · split <;> exact .inl (by simp)

theorem State.conflict_probe (g : Seg) (a : Address) : ProbeKeptOrOver s (s.conflict g a) :=
  (State.evaluate_segment_probe _ g).of_eq (by simp)

/-- A conflicting reply ends with its event: no exchange that awaits the end of a reply comes of it (R13, R153). -/
theorem State.probeReplyEnds_conflict {g : Seg} {a : Address}
    (h : g = .b → ∀ p, s.hm.probe = some p → p.phase ≠ .replyIn) (ok : Bool) :
    (s.conflict g a).probeReplyEnds g ok = s.conflict g a := by
  refine State.probeReplyEnds_of_ne _ (fun hg p hp => ?_) ok
  obtain hkept | hover := s.conflict_probe g a
  · exact h hg p (hkept ▸ hp)
  · simp [hover] at hp

@[simp] theorem State.conflict_sd (g : Seg) (a : Address) : (s.conflict g a).sd = s.sd := by
  simp [State.conflict, State.chargeConflict]

theorem State.object_conflict_segment (g : Seg) (a : Address) :
    (s.conflict g a).object (.segment g) = s.charged (.segment g) s.hm.weights.conflict := by
  rw [State.conflict, State.chargeConflict, State.object_chargeSegment, if_pos rfl]
  exact State.judged_congr _ (by simp) (by simp) (by simp) (by simp) (by simp) (by simp)

/-- The conflict's flag is latched, whatever its CONFLICT event raises after it. -/
theorem State.conflict_flag (g : Seg) (a : Address) : (s.conflict g a).au.flags &&& Cause.conflict.bit ≠ 0 := by
  have htaken := s.au.take_flag .conflict a.val (.segment g)
  have hraised : Raised (s.raise .conflict a.val (.segment g)).au (s.conflict g a).au :=
    State.raised_chargeConflict _ g (.refl _)
  rw [hraised.flag .conflict htaken]
  decide

theorem State.learn_of_none {g : Seg} {a : Address} (h : (s.entry a).location = .none) :
    s.learn g a = s.setEntry a { s.entry a with location := segLocation g, origin := .learned, age := 0 } := if_pos h

theorem State.learn_of_printer {g : Seg} {a : Address} (hl : (s.entry a).location = .printer)
    (ho : (s.entry a).origin = .static) : s.learn g a = s.conflict g a := by
  have hseg : Location.printer ≠ segLocation g := by cases g <;> decide
  simp [State.learn, hl, ho, hseg]

/-! ### The clauses of the statement -/

theorem clearEntryCommand_byteOf (a : Address) :
    clearEntryCommand (byteOf a.val) s = if s.onBusyPort a then refuse .inUse s else accept (s.clearEntry a) := by
  simp [clearEntryCommand]

theorem setPrinterAddressCommand_byteOf (a : Address) : setPrinterAddressCommand (byteOf a.val) s =
    if (s.entry a).location.isPort then refuse .inUse s else accept (s.makePrinter a) := by
  simp [setPrinterAddressCommand]

/-- Clause: what a valid reply teaches of a cleared address, and what it does at the printer address (R13). -/
theorem burstEnd_validReply {g : Seg} {a : Address} (htx : (s.seg g).tx = .idle)
    (hphase : (s.seg g).rx.phase = .inBurst) (haddress : (s.seg g).rx.address = some (.reply, a))
    (hvalid : (s.seg g).rx.verdict false = .valid)
    (hprobe : g = .b → ∀ p, s.hm.probe = some p → p.phase ≠ .replyIn) :
    Leads (.burstEnd g false) s fun t =>
      ((s.entry a).location = .none →
        t.entry a = { s.entry a with location := segLocation g, origin := .learned, age := 0 }) ∧
      ((s.entry a).location = .printer → (s.entry a).origin = .static →
        t.entry a = s.entry a ∧ t.object (.segment g) = s.charged (.segment g) s.hm.weights.conflict ∧
        t.au.flags &&& Cause.conflict.bit ≠ 0) := by
  refine ⟨_, rfl, fun hnone => ?_, fun hprinter hstatic => ?_⟩
  · rw [s.burstEnds_of_validReply htx hphase haddress hvalid, State.learn_of_none _ (by simpa using hnone),
      State.probeReplyEnds_of_ne _ (by simpa using hprobe)]
    simp
  · rw [s.burstEnds_of_validReply htx hphase haddress hvalid,
      State.learn_of_printer _ (by simpa using hprinter) (by simpa using hstatic),
      State.probeReplyEnds_conflict _ (by simpa using hprobe)]
    refine ⟨?_, ?_, ?_⟩
    · rw [State.entry_takeUpBoth, State.entry_congr (State.conflict_sd _ g a), State.entry_burstTaken]
    · rw [State.object_takeUpBoth, State.object_conflict_segment, State.burstTaken_hm, State.charged_burstTaken]
    · simpa using State.conflict_flag _ g a

/-- Clause: address 63 and what lies above it names no entry (R10, R11). -/
theorem refuses_of_address_ge (cont : Bool) {x : Byte} (hx : 63 ≤ x.toNat) :
    Refuses (.clearEntry cont x) s .badValue ∧ Refuses (.setPrinterAddress cont x) s .badValue :=
  ⟨refuses_of rfl (by simp [clearEntryCommand, addressOf_of_ge hx]) (by decide),
    refuses_of rfl (by simp [setPrinterAddressCommand, addressOf_of_ge hx]) (by decide)⟩

/-- Clause: the printer address after a restart that the end of a transaction executes (R18, R179, R180). -/
theorem restart_printer {c : Instr} (hc : c = .i2cStart ∨ c = .i2cStop) :
    (s.al.pendingRestart = some .full → Leads c s fun t => ∀ a, (t.entry a).location ≠ .printer) ∧
    (s.al.pendingRestart = some .traffic → DirectoryLaw s →
      Leads c s fun t => ∀ a, ((t.entry a).location = .printer ↔ (s.entry a).location = .printer)) := by
  obtain ⟨atStart, hexec⟩ : ∃ atStart, exec c s = .next (s.endTransaction atStart) := by
    obtain rfl | rfl := hc
    · exact ⟨true, rfl⟩
    · exact ⟨false, rfl⟩
  have hsd := s.endTransaction_sd atStart
  rw [s.executeRestart_sd] at hsd
  refine ⟨fun hfull => ⟨_, hexec, fun a => ?_⟩, fun htraffic hlaw => ⟨_, hexec, fun a => ?_⟩⟩
  · rw [hfull] at hsd
    rw [State.entry_of_reset hsd]
    decide
  · rw [htraffic] at hsd
    rw [State.entry_of_restarted s hsd]
    exact hlaw.restarted_printer a

variable {s}

/-- Clause: CLEAR_ENTRY, while the address is on no port in use (R10). -/
theorem clearEntry_accepts (cont : Bool) {a : Address} (h : ∀ m, (s.entry a).location = .port m → (s.port m).state = .standby) :
    Accepts (.clearEntry cont (byteOf a.val)) s cont fun t =>
      t.entry a = { s.entry a with location := .none, origin := .static, standIn := .silent, age := 0 } ∧
      EntriesKeptBut s t [a] ∧ ObjectsKeptBut s t [.station a] ∧
      t.object (.station a) = { score := 0, state := .active, mayIsolate := true, limitMark := false } ∧
      t.au = s.toldOfClearing a ∧
      ((s.entry a).location = .printer → DirectoryLaw s → ∀ b, (t.entry b).location ≠ .printer) ∧
      (s.entry a = { s.entry a with location := .none, origin := .static, standIn := .silent, age := 0 } →
        s.object (.station a) = { score := 0, state := .active, mayIsolate := true, limitMark := false } → SameBlocks s t) ∧
      t = { s with sd := t.sd, hm := t.hm, au := t.au, al := t.al } := by
  have hfree : s.onBusyPort a = false := by
    rw [← Bool.not_eq_true, s.onBusyPort_iff]
    exact fun ⟨m, hm, hbusy⟩ => hbusy (h m hm)
  refine accepts_of rfl (by rw [clearEntryCommand_byteOf, hfree]; rfl) (by simp) fun al => ?_
  have hentry := s.entry_clearEntry a
  have hobject := s.object_clearEntry a
  refine ⟨(hentry a).trans (if_pos rfl), ⟨fun b hb => ?_, s.clearEntry_sd a⟩, fun o ho => ?_,
    (hobject _).trans (if_pos rfl), s.clearEntry_au a, fun hp hlaw b => ?_, fun he ho => ?_, ?_⟩
  · exact (hentry b).trans (if_neg (by simpa using hb))
  · exact (hobject o).trans (if_neg (by simpa using ho))
  · show ((s.clearEntry a).entry b).location ≠ .printer
    rw [hentry]
    split
    · simp [Entry.vacated]
    · next hb => exact fun e => hb (hlaw.eq_of_printer e hp)
  · rw [s.clearEntry_of_unused he ho]
    rfl
  · exact State.eq_of_kept (by simp [State.clearEntry]) (by simp) (by simp [State.clearEntry]) (by simp) (by simp) (by simp)
      (by simp)

theorem clearEntry_refuses (cont : Bool) {a : Address}
    (h : ∃ m, (s.entry a).location = .port m ∧ (s.port m).state ≠ .standby) :
    Refuses (.clearEntry cont (byteOf a.val)) s .inUse :=
  refuses_of rfl (by rw [clearEntryCommand_byteOf, if_pos ((s.onBusyPort_iff a).mpr h)]) (by decide)

theorem setPrinterAddress_refuses (cont : Bool) {a : Address} (h : (s.entry a).location.isPort = true) :
    Refuses (.setPrinterAddress cont (byteOf a.val)) s .inUse :=
  refuses_of rfl (by rw [setPrinterAddressCommand_byteOf, if_pos h]) (by decide)

theorem setPrinterAddress_of_printer (cont : Bool) {a : Address} (h : (s.entry a).location = .printer) :
    Accepts (.setPrinterAddress cont (byteOf a.val)) s cont fun t => SameBlocks s t := by
  refine accepts_of (s1 := s) rfl ?_ rfl fun al => rfl
  simp [setPrinterAddressCommand_byteOf, h, Location.isPort, s.makePrinter_of_printer h]

/-- Clause: SET_PRINTER_ADDRESS for an address that is neither on a port nor the printer's (R11). -/
theorem setPrinterAddress_accepts (cont : Bool) {a : Address} (hlaw : DirectoryLaw s)
    (hport : (s.entry a).location.isPort = false) (ha : (s.entry a).location ≠ .printer) :
    Accepts (.setPrinterAddress cont (byteOf a.val)) s cont fun t =>
      t.entry a = { s.entry a with location := .printer, origin := .static, age := 0 } ∧
      (∀ b, b ≠ a → t.entry b =
        if (s.entry b).location = .printer then { s.entry b with location := .none, origin := .static, age := 0 }
        else s.entry b) ∧
      t.sd = { s.sd with entries := t.sd.entries } ∧
      (∀ b, t.object (.station b) =
        if b = a ∨ (s.entry b).location = .printer then
          { score := 0, state := .active, mayIsolate := (s.object (.station b)).mayIsolate, limitMark := false }
        else s.object (.station b)) ∧
      (∀ o, (∀ b, o ≠ .station b) → t.object o = s.object o) ∧ (HealthLaw s → t.au = s.toldOfClearing a) ∧
      t = { s with sd := t.sd, hm := t.hm, au := t.au, al := t.al } := by
  refine accepts_of rfl (by rw [setPrinterAddressCommand_byteOf, hport]; rfl) (by simp) fun al => ?_
  have hentry := State.entry_makePrinter hlaw ha
  refine ⟨?_, fun b hb => ?_, s.makePrinter_sd a, State.object_makePrinter hlaw ha,
    fun _ => State.object_makePrinter_of_ne a, fun hh => State.makePrinter_au hlaw hh ha, ?_⟩
  · exact (hentry a).trans (if_pos rfl)
  · exact (hentry b).trans (if_neg hb)
  · exact State.eq_of_kept (by simp) (by simp) (by simp) (by simp) (by simp) (by simp) (by simp)

/-- Settles O24, clause by clause: the refusals, the resets, the valid reply, and the two commands by the entry's location. -/
theorem addressesAreClearedAndThePrinterPlaced : Obligations.AddressesAreClearedAndThePrinterPlaced := by
  refine ⟨fun cont x s => refuses_of_address_ge s cont, fun s => ⟨_, rfl, fun a => ?_⟩, fun c s => restart_printer s,
    fun g a s htx hphase haddress hwell hends hlo hhi hsum hprobe => ?_, fun cont a s => ⟨clearEntry_accepts cont,
      clearEntry_refuses cont, setPrinterAddress_refuses cont, setPrinterAddress_of_printer cont,
      setPrinterAddress_accepts cont⟩⟩
  · rw [State.entry_of_reset (by rfl)]
    decide
  · exact burstEnd_validReply s htx hphase haddress (TrunkRx.verdict_reply haddress hwell hends hlo hhi hsum) hprobe

end Sys2Proof.Machine
end

section
/-! PROOF. The records of the read commands, field by field (R186). -/

namespace Sys2Proof.Machine

/-! ### The read commands, by what they name -/

section

variable (s : State)

theorem readEntryCommand_byteOf (a : Address) : readEntryCommand (byteOf a.val) s = answer (s.entryRecord (.desk a)) s := by
  simp [readEntryCommand]

theorem readPortCommand_byteOf (n : PortNo) : readPortCommand (byteOf n.val) s = answer (s.portRecord n) s := by
  simp [readPortCommand]

theorem readHealthCommand_code (o : ObjectId) : readHealthCommand o.code s = answer (s.healthRecord o) s := by
  obtain ⟨hselector, hparameters⟩ := selectorOf_code o
  simp only [readHealthCommand, if_neg hparameters, hselector]

variable {s}

theorem readJobCommand_of_job? {id : Byte} {j : Job} (hid : id ≠ 0) (hj : s.job? id.toNat = some j) :
    readJobCommand id s = answer (s.jobRecord j) s := by
  simp only [readJobCommand, onJob, if_neg hid, hj]

/-- A record that is read may be written out otherwise. -/
theorem reads_as {i : Instr} {cont : Bool} {c : Command} {bytes record : List Byte}
    (he : exec i s = .next (s.execute cont c)) (hc : c s = answer bytes s) (hrecord : bytes = record) :
    ∃ t, exec i s = .next t ∧ Accepted s t cont record ∧ SameBlocks s t :=
  reads_of he (hrecord ▸ hc)

end

/-! ### The fields of the records (R186) -/

theorem boolCode_eq (b : Bool) : boolCode b = BitVec.ofNat 8 b.toNat := by cases b <;> rfl

theorem boolCode_not (b : Bool) : boolCode (!b) = if b then 0 else 1 := by cases b <;> rfl

/-- Bits 0 upwards weigh 1, 2, 4 and so on. -/
theorem flagByte_eq (bits : List Bool) : flagByte bits = byteOf (bits.foldr (fun b acc => b.toNat + 2 * acc) 0) := by
  have hweight : (fun (b : Bool) (acc : Nat) => (if b then 1 else 0) + 2 * acc) = fun b acc => b.toNat + 2 * acc := by
    funext b acc
    cases b <;> rfl
  rw [flagByte, hweight]

theorem flagByte_five (a b c d e : Bool) : flagByte [a, b, c, d, e] =
    BitVec.ofNat 8 (a.toNat + 2 * b.toNat + 4 * c.toNat + 8 * d.toNat + 16 * e.toNat) := by
  rw [flagByte_eq, byteOf]
  congr 1
  simp only [List.foldr]
  omega

theorem flagByte_six (a b c d e f : Bool) : flagByte [a, b, c, d, e, f] =
    BitVec.ofNat 8 (a.toNat + 2 * b.toNat + 4 * c.toNat + 8 * d.toNat + 16 * e.toNat + 32 * f.toNat) := by
  rw [flagByte_eq, byteOf]
  congr 1
  simp only [List.foldr]
  omega

theorem Port.headCode_eq (p : Port) : p.headCode = if p.upstream = [] then 0 else if p.headSent then 2 else 1 := by
  simp [Port.headCode]

theorem Job.lastFill_byte (j : Job) :
    byteOf j.lastFill = if j.count = 0 then 0 else byteOf ((j.count - 1) % 64 + 1) :=
  apply_ite byteOf _ _ _

theorem State.queuePosition_eq (s : State) (id : Nat) : s.queuePosition id = (s.sm.queue.idxOf? id).elim 0 (· + 1) := by
  unfold State.queuePosition
  cases s.sm.queue.idxOf? id <;> rfl

theorem Job.idleSeconds_eq (j : Job) : j.idleTimer.getD 0 / 1000 = j.idleTimer.elim 0 (· / 1000) := by
  cases j.idleTimer <;> rfl

theorem length_blockBytes (b : Option (Fin 512)) : (blockBytes b).length = 2 := by cases b <;> rfl

theorem length_positionBytes (p : Option Position) : (positionBytes p).length = 3 := by cases p <;> rfl

theorem Detail.length_bytes (d : Detail) : d.bytes.length = 2 := by
  match d with
  | .health _ | .port _ _ | .segment .a | .segment .b | .aged | .engine _ | .ending _ | .free _ => rfl

theorem Report.length_bytes (r : Report) : r.bytes.length = 7 := by
  simp [Report.bytes, Detail.length_bytes, bytes2]

/-! ### The jobs that LIST_JOBS lists (R107) -/

theorem State.job?_isSome_iff (s : State) (id : Nat) : (s.job? id).isSome = true ↔ ∃ j ∈ s.sm.jobs, j.id = id := by
  simp [State.job?]

/-- The queue holds the closed jobs, each once. -/
theorem SpoolLaw.length_queue {s : State} (h : SpoolLaw s) : s.sm.queue.length = (s.sm.jobs.filter Job.closed).length := by
  obtain ⟨hnodup, hmem⟩ := h.queue
  have hids : ((s.sm.jobs.filter Job.closed).map Job.id).Nodup := (List.filter_sublist.map _).nodup h.ids.1
  have hperm : s.sm.queue.Perm ((s.sm.jobs.filter Job.closed).map Job.id) :=
    (List.perm_ext_iff_of_nodup hnodup hids).mpr fun id => by
      simp only [hmem, List.mem_map, List.mem_filter]
      exact ⟨fun ⟨j, hj, hid, hc⟩ => ⟨j, ⟨hj, hc⟩, hid⟩, fun ⟨j, ⟨hj, hc⟩, hid⟩ => ⟨j, hj, hid, hc⟩⟩
  simpa using hperm.length_eq

/-- Every job of the table is listed once: a closed one in the queue, an OPEN one behind it. -/
theorem SpoolLaw.length_listedJobs {s : State} (h : SpoolLaw s) : s.listedJobs.length = s.sm.jobs.length := by
  have hqueued : (s.sm.queue.filterMap s.job?).length = s.sm.queue.length := by
    rw [List.filterMap_length_eq_length]
    intro id hid
    obtain ⟨-, hmem⟩ := h.queue
    obtain ⟨j, hj, hjid, -⟩ := (hmem id).mp hid
    exact (s.job?_isSome_iff id).mpr ⟨j, hj, hjid⟩
  have hopen : (s.sm.jobs.filter fun j => j.state == .opened) = s.sm.jobs.filter fun j => !j.closed :=
    List.filter_congr fun j _ => by simp [Job.closed, bne]
  rw [State.listedJobs, List.length_append, hqueued, h.length_queue, hopen]
  exact (List.length_eq_length_filter_add Job.closed).symm

theorem SpoolLaw.length_jobList {s : State} (h : SpoolLaw s) : s.jobList.length = 3 + 3 * s.sm.jobs.length := by
  simp only [State.jobList, bytes2, List.length_append, List.length_flatMap, List.length_cons, List.length_nil, List.map_const',
    List.sum_replicate, h.length_listedJobs, smul_eq_mul]
  omega

/-- Settles O20: each record is the model's own, field by field; the lengths; the reports; and the codes. -/
theorem readCommandsReturnTheirRecords : Obligations.ReadCommandsReturnTheirRecords := by
  unfold Obligations.ReadCommandsReturnTheirRecords
  intro two flag count block place status entry primary port health parameters printer list job returns
  have hblock : ∀ b, (block b).length = 2 := length_blockBytes
  have hplace : ∀ p, (place p).length = 3 := length_positionBytes
  refine ⟨fun cont s => ⟨reads_of rfl rfl, fun hnone => reads_as rfl rfl ?noJob, fun j hpe hj => reads_as rfl rfl ?job,
      reads_of rfl rfl, reads_of rfl rfl, reads_of rfl rfl, fun a => reads_as rfl (readEntryCommand_byteOf s a) ?entry,
      fun n => reads_as rfl (readPortCommand_byteOf s n) ?port,
      fun o => reads_as rfl (readHealthCommand_code s o) ?health,
      fun id j hid hj => reads_as rfl (readJobCommand_of_job? hid hj) ?jobRecord⟩,
    fun s => ⟨rfl, rfl, fun j => ?printerLength, rfl, fun a => rfl, fun n => rfl, fun o => rfl, fun j => ?jobLength,
      fun hlaw => ?listLength⟩,
    fun r => ⟨r.length_bytes, rfl⟩, ?codes⟩
  case noJob =>
    simp only [State.printerRecord, State.printing?, hnone, Option.bind_none, flagByte_five, flagByte_six, boolCode_eq]
    rfl
  case job =>
    simp only [State.printerRecord, State.printing?, hpe, Option.bind_some, hj, flagByte_five, flagByte_six, boolCode_eq]
    rfl
  case entry =>
    simp only [State.entryRecord, boolCode_eq]
    rfl
  case port =>
    rw [State.portRecord, boolCode_not, Port.headCode_eq]
    simp only [boolCode_eq]
    rfl
  case health =>
    simp only [State.healthRecord, boolCode_eq]
    rfl
  case jobRecord =>
    rw [State.jobRecord, Job.lastFill_byte, State.queuePosition_eq, Job.idleSeconds_eq]
    rfl
  case printerLength => cases j <;> simp [printer, hplace]
  case jobLength => simp [job, hblock, hplace, two]
  case listLength =>
    obtain ⟨hjobs, -⟩ := hlaw.limits
    exact ⟨hlaw.length_jobList, hlaw.length_jobList.trans_le (by omega)⟩
  case codes =>
    exact ⟨rfl, rfl, fun _ => rfl, fun _ => rfl, rfl, rfl, rfl, rfl, rfl, rfl, rfl, rfl, rfl, rfl, rfl, rfl, rfl,
      fun _ => rfl, rfl, rfl, fun _ => rfl, rfl, fun _ => rfl, fun _ => rfl, fun _ _ => rfl, rfl, fun _ => rfl,
      fun _ => rfl, rfl⟩

end Sys2Proof.Machine
end

section
/-! PROOF. The commands that name a job refuse an id that names none (R102). -/

namespace Sys2Proof.Machine

variable {s : State}

theorem State.job?_eq_none_iff {id : Nat} : s.job? id = none ↔ ∀ j ∈ s.sm.jobs, j.id ≠ id := by
  simp [State.job?]

theorem onJob_zero (f : Job → Command) : onJob 0 f s = refuse .badValue s := if_pos rfl

theorem onJob_of_job?_none {id : Byte} {f : Job → Command} (hid : id ≠ 0) (hnone : s.job? id.toNat = none) :
    onJob id f s = refuse .notFound s := by
  simp only [onJob, if_neg hid, hnone]

/-- What a command does with the job it names plays no part in these refusals (R102). -/
theorem refuses_onJob {i : Instr} {cont : Bool} {id : Byte} {f : Job → Command}
    (he : exec i s = .next (s.execute cont (onJob id f))) :
    (id = 0 → Refuses i s .badValue) ∧
    (id ≠ 0 → (∀ j ∈ s.sm.jobs, j.id ≠ id.toNat) → Refuses i s .notFound) := by
  refine ⟨fun hzero => ?_, fun hid hnone => ?_⟩
  · subst hzero
    exact refuses_of he (onJob_zero f) (by decide)
  · exact refuses_of he (onJob_of_job?_none hid (State.job?_eq_none_iff.mpr hnone)) (by decide)

/-- Settles O19: each of the four commands looks its job up by `onJob`. -/
theorem jobCommandsNameAJob : Obligations.JobCommandsNameAJob := by
  rintro c cont id s (rfl | rfl | rfl | rfl)
  · exact refuses_onJob (show exec (.holdJob cont id) s = .next (s.execute cont (holdJobCommand id)) from rfl)
  · exact refuses_onJob (show exec (.releaseJob cont id) s = .next (s.execute cont (releaseJobCommand id)) from rfl)
  · exact refuses_onJob (show exec (.promoteJob cont id) s = .next (s.execute cont (promoteJobCommand id)) from rfl)
  · exact refuses_onJob (show exec (.cancelJob cont id) s = .next (s.execute cont (cancelJobCommand id)) from rfl)

end Sys2Proof.Machine
end

section
/-! PROOF. The Alert Unit: the latched flags and the report queue after an occurrence, ALERT_N, and the reading of a report
(chapter 9). -/

namespace Sys2Proof.Machine

/-! ### Cause sets (R185) -/

/-- The cause that a bit of a cause set stands for. -/
def Cause.ofCode : Nat → Cause
  | 0 => .segmentState
  | 1 => .portState
  | 2 => .stationState
  | 3 => .conflict
  | 4 => .moved
  | 5 => .printer
  | 6 => .jobEnd
  | 7 => .spoolLow
  | _ => .reportLost

theorem Cause.ofCode_code (c : Cause) : Cause.ofCode c.code = c := by cases c <;> rfl

theorem Cause.code_ofCode {i : Nat} (hi : i < 9) : (Cause.ofCode i).code = i := by interval_cases i <;> rfl

theorem Cause.code_lt (c : Cause) : c.code < 9 := by cases c <;> decide

theorem Cause.code_inj {c k : Cause} : c.code = k.code ↔ c = k :=
  (Function.LeftInverse.injective Cause.ofCode_code).eq_iff

theorem Cause.bit_eq_twoPow (c : Cause) : c.bit = BitVec.twoPow 9 c.code := (BitVec.twoPow_eq 9 c.code).symm

/-- The set of one cause has that cause's bit set, and no other's. -/
theorem Cause.getLsbD_bit (c k : Cause) : c.bit.getLsbD k.code = decide (k = c) := by
  simp [Cause.bit_eq_twoPow, Cause.code_lt, Cause.code_inj, eq_comm]

/-- A cause's enable is clear exactly if its bit masks to nothing. -/
theorem Cause.and_bit_eq_zero_iff (m : BitVec 9) (c : Cause) : m &&& c.bit = 0 ↔ m.getLsbD c.code = false := by
  have hbit : BitVec.twoPow 9 c.code ≠ 0#9 := fun h => by
    simpa [BitVec.getLsbD_twoPow, c.code_lt] using congrArg (·.getLsbD c.code) h
  rw [Cause.bit_eq_twoPow, BitVec.and_twoPow]
  cases m.getLsbD c.code <;> simp [hbit]

/-- A cause set is not empty exactly if it names a cause. -/
theorem ne_zero_iff_exists_cause (m : BitVec 9) : m ≠ 0 ↔ ∃ c : Cause, m.getLsbD c.code = true := by
  constructor
  · contrapose!
    refine fun hnone => BitVec.eq_of_getLsbD_eq fun i hi => ?_
    simpa [Cause.code_ofCode hi] using hnone (Cause.ofCode i)
  · rintro ⟨c, hc⟩ rfl
    simp at hc

/-! ### An occurrence (R161), by the report enable and the room in the queue -/

section

variable {u : AlertUnit} {c : Cause} (n : Nat) (d : Detail)

theorem AlertUnit.take_of_disabled (he : u.reports.getLsbD c.code = false) :
    u.take c n d = { u with flags := u.flags ||| c.bit } :=
  if_pos ((Cause.and_bit_eq_zero_iff _ c).mpr he)

/-- With the report enable set, what becomes of the record hangs on the room alone. -/
theorem AlertUnit.take_of_enabled (he : u.reports.getLsbD c.code = true) :
    u.take c n d = if u.queue.length < 16 then
        { u with
          flags := u.flags ||| c.bit
          queue := u.queue ++ [⟨u.nextSequence, c, n, d, u.seconds⟩]
          nextSequence := u.nextSequence + 1 }
      else { u with flags := u.flags ||| Cause.reportLost.bit ||| c.bit } :=
  if_neg fun h => by simp [(Cause.and_bit_eq_zero_iff _ c).mp h] at he

theorem AlertUnit.take_of_room (he : u.reports.getLsbD c.code = true) (hroom : u.queue.length < 16) :
    u.take c n d = { u with
      flags := u.flags ||| c.bit
      queue := u.queue ++ [⟨u.nextSequence, c, n, d, u.seconds⟩]
      nextSequence := u.nextSequence + 1 } := by
  rw [AlertUnit.take_of_enabled n d he, if_pos hroom]

theorem AlertUnit.take_of_full (he : u.reports.getLsbD c.code = true) (hfull : 16 ≤ u.queue.length) :
    u.take c n d = { u with flags := u.flags ||| Cause.reportLost.bit ||| c.bit } := by
  rw [AlertUnit.take_of_enabled n d he, if_neg (by omega)]

/-- Where no record is made, or it is lost, the queue and its numbering stay. -/
theorem AlertUnit.take_keeps_queue (h : u.reports.getLsbD c.code = false ∨ 16 ≤ u.queue.length) :
    (u.take c n d).queue = u.queue ∧ (u.take c n d).nextSequence = u.nextSequence := by
  cases he : u.reports.getLsbD c.code with
  | false => simp [AlertUnit.take_of_disabled n d he]
  | true => simp [AlertUnit.take_of_full n d he (h.resolve_left (by simp [he]))]

variable (u c)

/-- Latched are the flags that were, the cause's own, and REPORT_LOST with a lost record. -/
theorem AlertUnit.getLsbD_take_flags (k : Cause) :
    (u.take c n d).flags.getLsbD k.code = (u.flags.getLsbD k.code || decide (k = c) ||
      (decide (k = .reportLost) && u.reports.getLsbD c.code && decide (16 ≤ u.queue.length))) := by
  cases he : u.reports.getLsbD c.code with
  | false => simp [AlertUnit.take_of_disabled n d he, Cause.getLsbD_bit]
  | true =>
    obtain hroom | hfull := Nat.lt_or_ge u.queue.length 16
    · simp [AlertUnit.take_of_room n d he hroom, Cause.getLsbD_bit, hroom]
    · simp [AlertUnit.take_of_full n d he hfull, Cause.getLsbD_bit, hfull, Bool.or_right_comm]

/-- An occurrence writes the flags and the queue with its numbering, and nothing else of the unit. -/
theorem AlertUnit.take_frame :
    u.take c n d = { u with
      flags := (u.take c n d).flags, queue := (u.take c n d).queue, nextSequence := (u.take c n d).nextSequence } := by
  unfold AlertUnit.take
  (repeat' split) <;> rfl

end

/-! ### ALERT_N, READ_REPORT and the seconds counter (R163, R165, R166) -/

section

variable {s : State}

theorem State.alertAsserted_iff :
    s.alertAsserted = true ↔ ∃ c : Cause, s.au.flags.getLsbD c.code = true ∧ s.au.alerts.getLsbD c.code = true := by
  simpa [State.alertAsserted] using ne_zero_iff_exists_cause (s.au.flags &&& s.au.alerts)

theorem readReportCommand_of_nil (h : s.au.queue = []) : readReportCommand s = refuse .empty s := by
  simp only [readReportCommand, h]

theorem readReportCommand_of_cons {r : Report} {rest : List Report} (h : s.au.queue = r :: rest) :
    readReportCommand s = answer r.bytes { s with au := { s.au with queue := rest } } := by
  simp only [readReportCommand, h]

/-- Result bytes are returned beside a block's next state. -/
theorem answers_of {s1 : State} {i : Instr} {cont : Bool} {c : Command} {bytes : List Byte} {p : State → Prop}
    (he : exec i s = .next (s.execute cont c)) (hc : c s = answer bytes s1) (hal : s1.al = s.al)
    (hp : ∀ al, p { s1 with al }) : ∃ t, exec i s = .next t ∧ Accepted s t cont bytes ∧ p t := by
  refine ⟨_, he, ?_⟩
  rw [State.execute_eq hc]
  exact ⟨accepted_goOn hal, hp _⟩

theorem succ_eq_ofNat_wrapped (x : BitVec 16) : x + 1 = BitVec.ofNat 16 ((x.toNat + 1) % 65536) := by
  bv_omega

end

/-- Settles O60: an occurrence by the report enable and the room in the queue, ALERT_N by its cause sets, READ_REPORT by the
queue, and the seconds counter's wrap. -/
theorem reportsAreReadAndSecondsCounted : Obligations.ReportsAreReadAndSecondsCounted := by
  refine ⟨fun c subject d s => ?occurrence, fun s => State.alertAsserted_iff, fun cont s =>
    ⟨fun hnil => refuses_of rfl (readReportCommand_of_nil hnil) (by decide),
      fun r rest hcons => answers_of rfl (readReportCommand_of_cons hcons) rfl fun _ => rfl, ?second⟩⟩
  case occurrence =>
    intro enabled t _
    refine ⟨s.au.getLsbD_take_flags c subject d, fun he hroom => ?_, AlertUnit.take_keeps_queue subject d,
      congrArg (fun au => { s with au }) (s.au.take_frame c subject d)⟩
    simp [t, AlertUnit.take_of_room subject d he hroom]
  case second => rw [← succ_eq_ofNat_wrapped]; rfl

end Sys2Proof.Machine
end

section
/-! PROOF. The spelling of a command and the command itself (R170, R185). -/

namespace Sys2Proof.Machine

variable {s : State}

/-- The row of a spelled command executes what its code and its argument bytes give. -/
theorem exec_of_spelling {i : Instr} {w : Spelling} (h : spelling i = some w) :
    exec i s = .next (s.execute w.cont (commandOf w.code.toNat w.args)) := by
  have eq {cont : Bool} {c d : Command} (hc : c = d) : Host.Outcome.next (φ := Fault) (ρ := Refusal) (s.execute cont c) =
      .next (s.execute cont d) := by rw [hc]
  cases i <;> cases h
  case setQuota c x q => exact eq (congrArg (setQuotaCommand x) (word16_bytes q).symm)
  case setTrunkProfile c r y n d f j m a =>
    exact eq (congrArg (setTrunkProfileCommand r y n d f · m a) (word16_bytes j).symm)
  case setHealthLimits c x y z d e f =>
    refine eq (?_ : _ = setHealthLimitsCommand (word16 _ _) (word16 _ _) (word16 _ _) d e f)
    rw [word16_bytes, word16_bytes, word16_bytes]
  case setPrintProfile c x r f a g i low => exact eq (congrArg (setPrintProfileCommand x r f a g i) (word16_bytes low).symm)
  case setAlerts c a r =>
    refine eq (?_ : _ = setAlertsCommand (word16 _ _) (word16 _ _))
    rw [word16_bytes, word16_bytes]
  case clearCauses c q => exact eq (congrArg clearCausesCommand (word16_bytes q).symm)
  all_goals rfl

end Sys2Proof.Machine
end

section
/-! PROOF. How a law is shown to outlast every step when the trunk, the reply context, the Alert Unit and the link do not bear on it:
one clause for each thing that an event can do to the other blocks. -/

namespace Sys2Proof.Machine

/-! ### What a law may read, and what a port may become -/

/-- What decides whether segment B is cut off: the copies and the transmitters of both segments, the gate, and the probe exchange. -/
def State.cutView (s : State) : Bool × TrunkTx × Bool × TrunkTx × Bool × Option Probe :=
  (s.ti.segA.copy.isSome, s.ti.segA.tx, s.ti.segB.copy.isSome, s.ti.segB.tx, s.ti.gateB, s.hm.probe)

/-- Two states agree in all that the laws of the directory, the ports, the objects, the spool and the engine read, and in what decides
whether segment B is cut off. -/
structure SameCore (s t : State) : Prop where
  entries : t.sd.entries = s.sd.entries
  primaryHeld : t.sd.primaryHeld = s.sd.primaryHeld
  ports : t.ports = s.ports
  spool : t.sm = s.sm
  engine : t.pe = s.pe
  object : ∀ o, t.object o = s.object o
  suspect : t.hm.suspect = s.hm.suspect
  isolate : t.hm.isolate = s.hm.isolate
  readmit : t.hm.readmit = s.hm.readmit
  cut : t.cutView = s.cutView

/-- What the law of the ports asks of one port. -/
def Port.Orderly (p : Port) : Prop :=
  p.upstream.length ≤ 4 ∧ p.downstream.length ≤ 4 ∧ p.responses.length ≤ 4 ∧ p.notices.length ≤ 4 ∧
  (p.headSent = true → p.upstream ≠ []) ∧
  (p.state = .standby ∨ p.state = .isolated → p.listsEmpty ∧ p.tx.busy = false)

/-- A port may become another while its health object stands: its state stays, or is STOPPING, or passes between ONLINE and
DETACHED; and it stays orderly. -/
def Port.Follows (p q : Port) : Prop :=
  (q.state = p.state ∨ q.state = .stopping ∨ p.state.mayBegin = true ∧ q.state.mayBegin = true) ∧ (p.Orderly → q.Orderly)

/-- The station of an object, if it is one, has an entry on a segment, or the object is ISOLATED: what an event or a probe that reaches
the object's score tells. -/
def State.chargeable (s : State) (o : ObjectId) : Prop :=
  ∀ a, o = .station a → (s.entry a).location.isSegment = true ∨ (s.object o).state = .isolated

/-- Of the Health Monitor, a poll that begins changes the exchange and the station pointer alone. -/
theorem State.startProbe_hm (s : State) (p : Probe) : (s.startProbe p).hm =
    { s.hm with probe := (s.startProbe p).hm.probe, stationPointer := (s.startProbe p).hm.stationPointer } := by
  unfold State.startProbe
  cases p.kind <;> rfl

/-- Of the Health Monitor, a poll that is sent changes the exchange alone. -/
theorem State.probeSent_hm (s : State) (g : Seg) :
    (s.probeSent g).hm = { s.hm with probe := (s.probeSent g).hm.probe } := by
  unfold State.probeSent
  dsimp only
  (repeat' split) <;> cases g <;> rfl

@[simp] theorem State.startProbe_object (s : State) (p : Probe) (o : ObjectId) : (s.startProbe p).object o = s.object o := by
  unfold State.object
  rw [State.startProbe_hm]

@[simp] theorem State.probeSent_object (s : State) (g : Seg) (o : ObjectId) : (s.probeSent g).object o = s.object o := by
  unfold State.object
  rw [State.probeSent_hm]

/-- The clauses of a law that the trunk, the reply context, the Alert Unit and the link leave alone. -/
structure Steady (I : State → Prop) : Prop where
  blind : ∀ s t, SameCore s t → I s → I t
  tick : ∀ s, I s → I s.tick
  restartBlocks : ∀ s, I s → I s.restartBlocks
  restartTraffic : ∀ s, I s → I s.restartTraffic
  writeEntry : ∀ s a l x, l ≠ .printer → s.takenByOther a l = false →
    (l = (s.entry a).location ∨ s.onBusyPort a = false) → I s → I (s.writeEntry a l x)
  clearEntry : ∀ s a, s.onBusyPort a = false → I s → I (s.clearEntry a)
  makePrinter : ∀ s a, (s.entry a).location.isPort = false → I s → I (s.makePrinter a)
  setQuota : ∀ s src n, I s → I (s.setQuota src n)
  learn : ∀ s g a, I s → I (s.learn g a)
  ageEntry : ∀ s a, I s → I (s.ageEntry a)
  port : ∀ s n q, (s.port n).Follows q → I s → I (s.setPort n q)
  enablePort : ∀ s n, (s.port n).state = .standby → I s → I (s.enablePort n)
  enterStandby : ∀ s n, (s.port n).state = .stopping → I s → I (s.enterStandby n)
  limits : ∀ s (l : HealthLimits), l.readmit < l.suspect → l.suspect < l.isolate → l.isolate ≤ 1023 → I s →
    I ({ s with hm := s.hm.setLimits l }.evaluateAll allObjects)
  addScore : ∀ s o w, s.chargeable o → I s → I (s.addScore o w)
  probeCredit : ∀ s o, I s → I (s.probeCredit o)
  decay : ∀ s o, I s → I (s.decay o)
  forceIsolate : ∀ s o, s.mayForceIsolate o = true → I s → I (s.forceIsolate o)
  clearKeeping : ∀ s o, I s → I (s.clearKeeping o)
  setMayIsolate : ∀ s o f, o ≠ .segment .a → I s → I (s.setMayIsolate o f)
  printProfile : ∀ s p t m, I s →
    I { s with pe := { s.pe with profile := p }, sm := { s.sm with idleTimeout := t, lowMark := m } }
  enableEngine : ∀ s, I s → I s.enableEngine
  disableEngine : ∀ s, I s → I s.disableEngine
  stopEngine : ∀ s, I s → I s.stopEngine
  resumePrinter : ∀ s, I s → I s.resumePrinter
  lineChanged : ∀ s l h, I s → I (s.lineChanged l h)
  characterTaken : ∀ s, s.pe.inAck = true → I s → I s.characterTaken
  characterLost : ∀ s, s.pe.state = .running → I s → I s.characterLost
  grantChanged : ∀ s h, I s → I (s.grantChanged h)
  releaseExpired : ∀ s, I s → I s.releaseExpired
  openJob : ∀ s src k p, s.openJob? src = none → s.tableRoom src = true →
    (∀ a, src = .desk a → ∃ n, (s.entry a).location = .port n ∧ (s.port n).state.mayBegin = true) → I s → I (s.openJob src k p)
  removeJob : ∀ s j e, j ∈ s.sm.jobs → j.state ≠ .printing → I s → I (s.removeJob j e)
  enqueue : ∀ s j, j ∈ s.sm.jobs → j.state = .opened → I s → I (s.enqueue j)
  offerJobs : ∀ s, I s → I s.offerJobs
  setJobState : ∀ s j st x, j ∈ s.sm.jobs → (j.state = .queued ∨ j.state = .held) → (st = .queued ∨ st = .held) →
    I s → I (s.setJobState j st x)
  promote : ∀ s j, j ∈ s.sm.jobs → I s → I (s.promote j)
  copyBegins : ∀ s g c, (s.seg g).tx = .idle → (s.segBIsolated = false ∨ (s.seg g).copy.isSome = true) → I s →
    I (s.setSeg g ((s.seg g).beginCopy c))
  copyHeld : ∀ s c, s.segBIsolated = false → I s → I (s.setSeg .b { s.ti.segB with copy := some c })
  copyGone : ∀ s g x, x.copy = none → (x.tx = (s.seg g).tx ∨ (s.seg g).tx = .copy ∧ x.tx = .idle) → I s → I (s.setSeg g x)
  replyBegins : ∀ s x, x.tx = .reply → x.copy = s.ti.segA.copy → I s → I (s.setSeg .a x)
  replyEnds : ∀ s g, (s.seg g).tx = .reply → I s → I (s.setSeg g { s.seg g with tx := .idle })
  probeGone : ∀ s, s.probeSending = false → I s → I (s.setProbe none)
  probePending : ∀ s k t, s.hm.probe = none → (k = .station → s.segBIsolated = false) → I s → I (s.setProbe (some ⟨.pending, k, t⟩))
  probeHears : ∀ s w k t, s.hm.probe = some ⟨.awaiting w, k, t⟩ → I s → I (s.setProbe (some ⟨.replyIn, k, t⟩))
  startProbe : ∀ s k t, s.hm.probe = some ⟨.pending, k, t⟩ → s.ti.segB.tx = .idle → I s → I (s.startProbe ⟨.pending, k, t⟩)
  probeSent : ∀ s g, (s.seg g).tx = .probe → I s → I (s.probeSent g)

/-- The clause of a law for the admission of a text. -/
def AdmitsText (I : State → Prop) : Prop :=
  ∀ s j text, j ∈ s.sm.jobs → j.state = .opened → s.admission j.source j.count text.length = none → I s →
    I (s.admitText j text)

/-- The clause for the one admission that a command makes: it comes before anything else that the command does to the spool, but for
the opening of the job that takes the text. -/
def AdmitsFrom (s : State) (I : State → Prop) : Prop :=
  ∀ t j text, t.sm.free = s.sm.free → t.sm.memory = s.sm.memory → (j ∈ s.sm.jobs ∨ j.chain = [] ∧ j.count = 0) →
    j ∈ t.sm.jobs → j.state = .opened → t.admission j.source j.count text.length = none → I t → I (t.admitText j text)

variable {I : State → Prop} {s : State}

theorem AdmitsText.at (ad : AdmitsText I) : AdmitsFrom s I := fun t j text _ _ _ => ad t j text

theorem AdmitsFrom.congr {t : State} (h : t.sm = s.sm) (ad : AdmitsFrom s I) : AdmitsFrom t I := by
  unfold AdmitsFrom; rw [h]; exact ad

/-! ### Jobs that are found -/

/-- The OPEN job of a source is a record of the table, OPEN, and the source's. -/
theorem openJob?_spec {src : Source} {j : Job} (h : s.openJob? src = some j) :
    j ∈ s.sm.jobs ∧ j.state = .opened ∧ j.source = src := by
  have h1 := List.find?_some h
  simp only [Bool.and_eq_true, beq_iff_eq] at h1
  exact ⟨List.mem_of_find?_eq_some h, h1⟩

theorem job?_mem {id : Nat} {j : Job} (h : s.job? id = some j) : j ∈ s.sm.jobs := List.mem_of_find?_eq_some h

/-- The job that a cancel names is a record of the table. -/
theorem cancelTarget_mem {src : Source} {id : Byte} {j : Job} (h : s.cancelTarget src id = some j) : j ∈ s.sm.jobs := by
  unfold State.cancelTarget at h
  split at h
  · exact (openJob?_spec h).1
  · exact job?_mem (Option.filter_eq_some_iff.mp h).1

/-- PRINT_OPEN is not refused: the engine is enabled, the source has no OPEN job, and the table has room. -/
theorem openRefusal_eq_none {src : Source} :
    s.openRefusal src = none ↔ s.pe.state ≠ .disabled ∧ s.openJob? src = none ∧ s.tableRoom src = true := by
  unfold State.openRefusal
  by_cases hd : s.pe.state = .disabled
  · simp [hd]
  · cases ho : s.openJob? src <;> cases ht : s.tableRoom src <;> simp [hd]

/-- The job that an opening creates is the OPEN job of its source from then on. -/
theorem openJob?_openJob {src : Source} (c : Nat) (p : Priority) (h : s.openJob? src = none) :
    (s.openJob src c p).openJob? src = some (newJob s s.freshId src c p) := by
  unfold State.openJob? at h
  simp [State.openJob?, State.openJob, List.find?_append, h, newJob]

/-- The tests of R91 read the accounts and the free list. -/
theorem admission_congr {t : State} (src : Source) (c n : Nat) (hd : t.sd = s.sd) (hf : t.sm.free = s.sm.free) :
    t.admission src c n = s.admission src c n := by
  cases src <;> simp [State.admission, State.quotaOf, State.heldOf, State.entry, hd, hf] <;> rfl

theorem mappedAddress_spec {n : PortNo} {a : Address} (h : s.mappedAddress n = some a) : (s.entry a).location = .port n := by
  simpa using List.find?_some h

/-! ### Ports -/

namespace Port

section

variable (p : Port)

/-- The choice of a frame takes from the responses or the notices, and sets the transmitter; the rest stays. -/
theorem chooseFrame_eq : p.chooseFrame =
    { p with tx := p.chooseFrame.tx, responses := p.chooseFrame.responses, notices := p.chooseFrame.notices } := by
  unfold chooseFrame
  split
  · split <;> (try split) <;> rfl
  · rfl

@[simp] theorem chooseFrame_state : p.chooseFrame.state = p.state := by rw [chooseFrame_eq]

@[simp] theorem chooseFrame_upstream : p.chooseFrame.upstream = p.upstream := by rw [chooseFrame_eq]

@[simp] theorem chooseFrame_headSent : p.chooseFrame.headSent = p.headSent := by rw [chooseFrame_eq]

@[simp] theorem chooseFrame_downstream : p.chooseFrame.downstream = p.downstream := by rw [chooseFrame_eq]

end

variable {p q r : Port}

theorem Follows.trans (h : p.Follows q) (h' : q.Follows r) : p.Follows r := by
  obtain ⟨hs, ho⟩ := h
  obtain ⟨hs', ho'⟩ := h'
  refine ⟨?_, ho' ∘ ho⟩
  rcases hs' with e | e | ⟨e, e'⟩
  · rw [e]; exact hs
  · exact .inr (.inl e)
  · rcases hs with d | d | d
    · exact .inr (.inr ⟨d ▸ e, e'⟩)
    · rw [d] at e; cases e
    · exact .inr (.inr ⟨d.1, e'⟩)

/-- A port whose state, lists and transmitter stay follows. -/
theorem Follows.of_kept (hs : q.state = p.state) (hu : q.upstream = p.upstream) (hd : q.downstream = p.downstream)
    (hr : q.responses = p.responses) (hn : q.notices = p.notices) (hh : q.headSent = p.headSent) (ht : q.tx = p.tx) :
    p.Follows q :=
  ⟨.inl hs, by simp only [Orderly, listsEmpty, hs, hu, hd, hr, hn, hh, ht]; exact id⟩

theorem Follows.refl : p.Follows p := .of_kept rfl rfl rfl rfl rfl rfl rfl

/-- The lists of a port whose transmitter chooses a frame get no longer, and only a port in service begins one. -/
theorem follows_chooseFrame : p.Follows p.chooseFrame := by
  unfold chooseFrame
  split
  · next h =>
    have hb : ¬ (p.state = .standby ∨ p.state = .isolated) := by
      rintro (e | e) <;> simp [e, PortState.mayBegin] at h
    split
    all_goals (try split)
    all_goals refine ⟨.inl rfl, fun ho => ?_⟩
    all_goals simp_all [Orderly]
    all_goals omega
  · exact .refl

/-- In service, a list of a port may grow while it stays within its bound. -/
theorem Follows.of_grown (hs : q.state = p.state) (hb : p.state.mayBegin = true ∨ p.state = .stopping)
    (ho : p.Orderly → q.upstream.length ≤ 4 ∧ q.downstream.length ≤ 4 ∧ q.responses.length ≤ 4 ∧ q.notices.length ≤ 4 ∧
      (q.headSent = true → q.upstream ≠ [])) : p.Follows q := by
  refine ⟨.inl hs, fun h => ?_⟩
  obtain ⟨h1, h2, h3, h4, h5⟩ := ho h
  refine ⟨h1, h2, h3, h4, h5, fun hst => ?_⟩
  rw [hs] at hst
  rcases hst with e | e <;> simp [e, PortState.mayBegin] at hb

theorem follows_endFrame : p.Follows p.endFrame := .of_kept rfl rfl rfl rfl rfl rfl rfl

theorem follows_queueNotice (x : Notice) (h : p.state = .online) : p.Follows (p.queueNotice x) := by
  unfold queueNotice
  have hg : p.Follows { p with notices := (if p.notices.length < 4 then p.notices else p.notices.drop 1) ++ [x] } := by
    refine .of_grown rfl (.inl (by rw [h]; rfl)) fun ⟨hu, hd, hr, hn, hh, _⟩ => ⟨hu, hd, hr, ?_, hh⟩
    dsimp only
    split <;> simp <;> omega
  exact hg.trans follows_chooseFrame

/-- A NEXT may take the head from the upstream queue. -/
theorem follows_acknowledge : p.Follows p.acknowledge := by
  unfold acknowledge
  split
  · refine ⟨.inl rfl, fun ⟨hu, hd, hr, hn, _, hq⟩ => ⟨?_, hd, hr, hn, by simp, fun hs => ?_⟩⟩
    · simp; omega
    · obtain ⟨⟨h1, h2, h3, h4⟩, ht⟩ := hq hs
      exact ⟨⟨by simp [h1], h2, h3, h4⟩, ht⟩
  · exact .refl

end Port

namespace Steady

variable (k : Steady I)
include k

theorem mapPort (n : PortNo) (f : Port → Port) (hf : (s.port n).Follows (f (s.port n))) (h : I s) : I (s.mapPort n f) :=
  k.port _ _ _ hf h

theorem notify (n : PortNo) (x : Notice) (h : I s) : I (s.notify n x) := by
  unfold State.notify
  split
  · exact k.mapPort _ _ (Port.follows_queueNotice x ‹_›) h
  · exact h

theorem notifyLink (n : PortNo) (h : I s) : I (s.notifyLink n) := k.notify _ _ h

theorem respond (n : PortNo) (r : Response) (hb : (s.port n).state.mayBegin = true) (hr : (s.port n).responses.length < 4)
    (h : I s) : I (s.respond n r) := by
  refine k.mapPort _ _ (Port.Follows.trans (q := { s.port n with responses := _ }) ?_ Port.follows_chooseFrame) h
  refine .of_grown rfl (.inl hb) fun ⟨hu, hd, _, hn, hh, _⟩ => ⟨hu, hd, ?_, hn, hh⟩
  simp; omega

theorem commitEarly (t : Taking) (c : ReplyCode) (m : List Byte) (h : I s) : I (s.commitEarly t c m) :=
  k.blind s _ ⟨rfl, rfl, rfl, rfl, rfl, fun _ => rfl, rfl, rfl, rfl, rfl⟩ h

theorem fillNil (n : PortNo) (h : I s) : I (s.fillNil n) := by
  unfold State.fillNil
  split
  · exact k.commitEarly _ _ _ h
  · exact h

theorem fillOffline (n : PortNo) (h : I s) : I (s.fillOffline n) := by
  unfold State.fillOffline
  split
  · exact k.commitEarly _ _ _ h
  · exact h

theorem raise (c : Cause) (m : Nat) (d : Detail) (h : I s) : I (s.raise c m d) :=
  k.blind s _ ⟨rfl, rfl, rfl, rfl, rfl, fun _ => rfl, rfl, rfl, rfl, rfl⟩ h

theorem reportPort (n : PortNo) (h : I s) : I (s.reportPort n) := k.raise _ _ _ h

theorem reportEngine (e : EngineState) (h : I s) : I (s.reportEngine e) := by
  unfold State.reportEngine
  split
  · exact k.raise _ _ _ h
  · exact h

theorem finishStopping (n : PortNo) (h : I s) : I (s.finishStopping n) := by
  unfold State.finishStopping
  split
  · exact k.enterStandby _ _ (And.left ‹_›) h
  · exact h

theorem stopPort (n : PortNo) (h : I s) : I (s.stopPort n) := by
  unfold State.stopPort
  split
  · exact h
  · exact h
  all_goals
    refine k.finishStopping _ (k.fillOffline _ (k.reportPort _ (k.mapPort _ _ ⟨.inr (.inl rfl), fun ho => ?_⟩ h)))
    obtain ⟨hu, hd, hr, hn, hh, -⟩ := ho
    exact ⟨hu, hd, hr, hn, hh, by simp⟩

/-! ### Charges and probes -/

theorem charge_of_ne (o : ObjectId) (w : Nat) (ho : ∀ a, o ≠ .station a) (h : I s) : I (s.addScore o w) :=
  k.addScore _ _ _ (fun a e => absurd e (ho a)) h

theorem chargeSegment (g : Seg) (w : Byte) (h : I s) : I (s.chargeSegment g w) := k.charge_of_ne _ _ (by simp) h

theorem chargePort (n : PortNo) (w : Byte) (h : I s) : I (s.chargePort n w) := k.charge_of_ne _ _ (by simp) h

theorem chargeConflict (g : Seg) (h : I s) : I (s.chargeConflict g) := k.chargeSegment _ _ h

theorem chargeStation (a : Address) (w : Byte) (h : I s) : I (s.chargeStation a w) := by
  unfold State.chargeStation
  split
  · next hl => exact k.addScore _ _ _ (fun b e => .inl (by cases e; rw [hl]; rfl)) h
  · next hl => exact k.addScore _ _ _ (fun b e => .inl (by cases e; rw [hl]; rfl)) h
  · exact h

theorem pollMiss (g : Seg) (a : Address) (h : I s) : I (s.pollMiss g a) := k.chargeSegment _ _ (k.chargeStation _ _ h)

theorem probeFailure (o : ObjectId) (h : I s) : I (s.probeFailure o) := by
  unfold State.probeFailure
  split
  · exact k.addScore _ _ _ (fun _ _ => .inr ‹_›) h
  · exact h

/-- Of the Health Monitor, only the objects and the thresholds bear on the law. -/
theorem monitor (hm : HealthMonitor) (h1 : hm.segA = s.hm.segA) (h2 : hm.segB = s.hm.segB) (h3 : hm.ports = s.hm.ports)
    (h4 : hm.stations = s.hm.stations) (h5 : hm.suspect = s.hm.suspect) (h6 : hm.isolate = s.hm.isolate)
    (h7 : hm.readmit = s.hm.readmit) (h8 : hm.probe = s.hm.probe) (h : I s) : I { s with hm } :=
  k.blind s _ ⟨rfl, rfl, rfl, rfl, rfl,
    fun o => by rcases o with (_ | _) | _ | _ <;> simp [State.object, h1, h2, h3, h4], h5, h6, h7, by simp [State.cutView, h8]⟩ h

theorem probeOutcome (p : Probe) (b : Bool) (hp : s.probeSending = false) (h : I s) : I (s.probeOutcome p b) := by
  unfold State.probeOutcome
  dsimp only
  split
  · exact k.probeCredit _ _ (k.probeGone _ hp h)
  · exact k.probeFailure _ (k.probeGone _ hp h)

/-- The reply context and the draws do not bear on the law. -/
theorem reply (pr : ReplyContext) (d : Nat) (h : I s) : I { s with pr, draws := d } :=
  k.blind s _ ⟨rfl, rfl, rfl, rfl, rfl, fun _ => rfl, rfl, rfl, rfl, rfl⟩ h

/-- Of a segment, only its copy and its transmitter's state bear on the law. -/
theorem setSeg (g : Seg) (x : Segment) (h : I s) (hc : x.copy.isSome = (s.seg g).copy.isSome := by rfl)
    (ht : x.tx = (s.seg g).tx := by rfl) : I (s.setSeg g x) := by
  cases g <;>
    exact k.blind s _ ⟨rfl, rfl, rfl, rfl, rfl, fun _ => rfl, rfl, rfl, rfl, by simp_all [State.cutView, State.setSeg, State.seg]⟩ h

theorem takeUpBoth (h : I s) : I s.takeUpBoth := by
  rw [State.takeUpBoth_eq]; exact k.blind s _ ⟨rfl, rfl, rfl, rfl, rfl, fun _ => rfl, rfl, rfl, rfl, rfl⟩ h

/-! ### The trunk -/

theorem armWatch (g : Seg) (a : Address) (h : I s) : I (s.armWatch g a) := by
  unfold State.armWatch
  dsimp only
  split
  · exact k.setSeg _ _ h
  · exact k.setSeg _ _ (k.pollMiss _ _ (k.setSeg _ _ h))

theorem resolveWatch (g : Seg) (a : Address) (h : I s) : I (s.resolveWatch g a) := by
  unfold State.resolveWatch
  split
  · exact h
  · dsimp only
    split
    · exact k.setSeg _ _ h
    · exact k.pollMiss _ _ (k.setSeg _ _ h)

theorem forwardNow (g : Seg) (b : BurstKind) (a : Address) (q : Nat) (hi : s.segBIsolated = false) (h : I s) : I (s.forwardNow g b a q) := by
  unfold State.forwardNow
  split
  · next hf =>
    simp only [Segment.available, Bool.and_eq_true, beq_iff_eq] at hf
    exact k.copyBegins _ _ _ hf.2.1.1 (.inl hi) h
  · exact k.chargeConflict _ h

theorem holdForward (b : BurstKind) (a : Address) (hi : s.segBIsolated = false) (h : I s) : I (s.holdForward b a) := by
  unfold State.holdForward
  dsimp only
  split
  · exact k.copyHeld _ _ hi h
  · exact k.chargeConflict _ h

theorem forwardToB (b : BurstKind) (a : Address) (q : Nat) (h : I s) : I (s.forwardToB b a q) := by
  unfold State.forwardToB
  split
  · next hm =>
    have hi : s.segBIsolated = false := by
      simp only [State.mayForwardToB, Bool.and_eq_true, Bool.not_eq_true'] at hm
      exact hm.1.1.1
    split
    · exact k.holdForward _ _ hi h
    · exact k.chargeConflict _ h
    · next hp => exact k.forwardNow _ _ _ _ hi (k.probeGone _ (by simp [State.probeSending, hp]) h)
    · exact k.forwardNow _ _ _ _ hi h
    · exact k.forwardNow _ _ _ _ hi h
  · exact h

theorem forwardToA (b : BurstKind) (a : Address) (x : Bool) (q : Nat) (h : I s) : I (s.forwardToA b a x q) := by
  unfold State.forwardToA
  split
  · next hm =>
    simp only [State.mayForwardToA, Bool.and_eq_true, Bool.not_eq_true'] at hm
    exact k.forwardNow _ _ _ _ hm.1.1.1 h
  · exact h

theorem probeSees (a : Address) (h : I s) : I (s.probeSees a) := by
  unfold State.probeSees
  split
  · next hp =>
    split
    · exact k.probeHears _ _ _ _ hp h
    · exact k.probeOutcome _ _ (by simp [State.probeSending, hp]) h
  · exact h

theorem addressTaken (g : Seg) (b : BurstKind) (a : Address) (q : Nat) (h : I s) : I (s.addressTaken g b a q) := by
  unfold State.addressTaken
  dsimp only
  split
  · have h1 : I (s.setSeg g { s.seg g with rx := { (s.seg g).rx with address := some (b, a), endsInMark := true } }) :=
      k.setSeg _ _ h
    cases g
    · dsimp only
      split
      · exact k.forwardToB _ _ _ (k.resolveWatch _ _ h1)
      · exact k.forwardToB _ _ _ h1
    · dsimp only
      split
      · exact k.forwardToA _ _ _ _ (k.probeSees _ (k.resolveWatch _ _ h1))
      · exact k.forwardToA _ _ _ _ h1
  · exact h

theorem endSource (g : Seg) (h : I s) : I (s.endSource g) := by
  unfold State.endSource
  split
  · exact h
  · next hc => exact k.setSeg _ _ h (by rw [hc]; rfl)

theorem forwardChar (g : Seg) (c : TrunkChar) (h : I s) : I (s.forwardChar g c) := by
  have hd : I { s with draws := s.draws + 1 } := k.reply s.pr _ h
  unfold State.forwardChar
  dsimp only
  split
  · exact h
  · next hc =>
    have hs (x : Segment) (hx : x.copy.isSome = true) (ht : x.tx = (s.seg g).tx) : I (State.setSeg { s with draws := s.draws + 1 } g x) :=
      k.setSeg _ _ hd (by rw [hx]; show _ = (s.seg g).copy.isSome; rw [hc]; rfl) ht
    split
    · exact h
    · split
      · exact hs _ rfl rfl
      · split
        · split
          · exact hs _ rfl rfl
          · exact hs _ (by rw [hc]; rfl) rfl
        · exact hs _ rfl rfl

theorem characterOnTrunk (g : Seg) (c : TrunkChar) (h : I s) : I (s.characterOnTrunk g c) := by
  unfold State.characterOnTrunk
  dsimp only
  split
  · split
    · exact h
    · exact k.setSeg _ _ h
    · split
      · exact h
      · split
        · exact k.forwardChar _ _ (k.setSeg _ _ h)
        · exact k.setSeg _ _ h
  · exact h

theorem await (a : Address) (r : Request) (x : Handling) (h : I s) : I (s.await a r x) := k.reply _ s.draws h

theorem takeRequest (a : Address) (r : Request) (h : I s) : I (s.takeRequest a r) := by
  have h1 : I { s with pr := .idle } := k.reply _ s.draws h
  unfold State.takeRequest
  dsimp only
  split
  · refine k.await _ _ _ ?_
    split
    · exact k.mapPort _ _ Port.follows_acknowledge h1
    · exact h1
  · exact k.await _ _ _ h1
  · split
    · split
      · exact k.await _ _ _ h1
      · exact h1
    · exact h1
  · exact h1
  · exact h1

theorem validBurst (g : Seg) (b : BurstKind) (a : Address) (x : List Byte) (h : I s) : I (s.validBurst g b a x) := by
  unfold State.validBurst
  split
  · exact k.learn _ _ _ h
  · exact h
  · dsimp only
    split
    · exact k.takeRequest _ _ (k.armWatch _ _ h)
    · exact k.takeRequest _ _ h

theorem applyVerdict (g : Seg) (r : TrunkRx) (v : Verdict) (h : I s) : I (s.applyVerdict g r v) := by
  unfold State.applyVerdict
  split
  · exact k.chargeSegment _ _ h
  · exact k.chargeSegment _ _ h
  · refine k.chargeSegment _ _ ?_
    split
    · split
      · exact k.chargeStation _ _ h
      · exact h
    · exact h
  · split
    · exact k.validBurst _ _ _ _ h
    · exact h

theorem probeReplyEnds (g : Seg) (b : Bool) (h : I s) : I (s.probeReplyEnds g b) := by
  unfold State.probeReplyEnds
  split
  · next hp => exact k.probeOutcome _ _ (by simp [State.probeSending, hp]) h
  · exact h

theorem burstEnds (g : Seg) (i : Bool) (h : I s) : I (s.burstEnds g i) := by
  unfold State.burstEnds
  dsimp only
  split
  · exact k.takeUpBoth (k.probeReplyEnds _ _ (k.applyVerdict _ _ _ (k.endSource _ (k.setSeg _ _ h))))
  · exact h

theorem idleSeen (g : Seg) (h : I s) : I (s.idleSeen g) := by
  unfold State.idleSeen
  dsimp only
  split
  · exact k.takeUpBoth (k.setSeg _ _ h)
  · exact h

theorem armAfterCopy (g : Seg) (c : Copy) (h : I s) : I (s.armAfterCopy g c) := by
  unfold State.armAfterCopy
  split
  · exact k.armWatch _ _ h
  · exact h

theorem stopCopy (g : Seg) (h : I s) : I (s.stopCopy g) := by
  refine k.copyGone _ _ _ rfl ?_ h
  dsimp only
  split
  · exact .inr ⟨‹_›, rfl⟩
  · exact .inl rfl

theorem cutCopy (g : Seg) (h : I s) : I (s.cutCopy g) := by
  unfold State.cutCopy
  split
  · exact h
  · split
    · exact h
    · split
      · exact k.armAfterCopy _ _ (k.stopCopy _ h)
      · exact k.stopCopy _ h

theorem chargeJabber (g : Seg) (h : I s) : I (s.chargeJabber g) := by
  cases g
  · exact k.chargeSegment _ _ h
  · exact k.chargeSegment _ _ (k.monitor _ rfl rfl rfl rfl rfl rfl rfl rfl h)

theorem jabbers (g : Seg) (h : I s) : I (s.jabbers g) := by
  unfold State.jabbers
  dsimp only
  split
  · refine k.takeUpBoth (k.probeReplyEnds _ _ (k.chargeJabber _ ?_))
    split
    · exact k.cutCopy _ (k.setSeg _ _ h)
    · exact k.setSeg _ _ h
  · exact h

theorem startHeld (q : Nat) (h : I s) : I (s.startHeld q) := by
  unfold State.startHeld
  dsimp only
  split
  · exact h
  · next hc =>
    split
    · next hs =>
      simp only [Segment.available, Bool.and_eq_true, beq_iff_eq] at hs
      exact k.copyBegins s .b _ hs.2.1.1 (.inr (by show s.ti.segB.copy.isSome = true; rw [hc]; rfl)) h
    · exact h

theorem transmitterEnds (g : Seg) (h : I s) : I (s.transmitterEnds g) := by
  unfold State.transmitterEnds
  dsimp only
  split
  · exact h
  · next ht =>
    split
    · exact k.takeUpBoth (k.reply (s := s.setSeg g { s.seg g with tx := .idle }) _ _ (k.replyEnds _ _ ht h))
    · exact h
  · next ht =>
    split
    · split
      · exact k.takeUpBoth (k.armAfterCopy _ _ (k.copyGone _ _ _ rfl (.inr ⟨ht, rfl⟩) h))
      · exact h
    · exact h
  · next ht => exact k.takeUpBoth (k.probeSent _ _ ht h)

/-! ### The probe scheduler -/

omit k in
theorem foldl {α : Type} {f : State → α → State} (hf : ∀ t a, I t → I (f t a)) (l : List α) (h : I s) :
    I (l.foldl f s) := by
  induction l generalizing s with
  | nil => exact h
  | cons a l ih => exact ih (hf _ _ h)

theorem marks (n : PortNo) (x y : Port → Bool) (h : I s) :
    I (s.mapPort n fun q => { q with breakMark := x q, creditMark := y q }) :=
  k.mapPort _ _ (.of_kept rfl rfl rfl rfl rfl rfl rfl) h

theorem assessPort (n : PortNo) (h : I s) : I (s.assessPort n) := by
  unfold State.assessPort
  dsimp only
  split
  · split
    · exact k.marks _ _ _ (k.probeFailure _ h)
    · exact k.marks _ _ _ h
  · exact k.marks _ _ _ h

theorem chooseStation (hi : s.segBIsolated = false) (h : I s) : I s.chooseStation := by
  have hl : I (if s.hm.probe.any Probe.lapsed then s.setProbe none else s) := by
    split
    · next hp =>
      refine k.probeGone _ ?_ h
      rw [State.probeSending]
      cases e : s.hm.probe with
      | none => rfl
      | some p =>
        rw [e, Option.any_some, Probe.lapsed, Bool.and_eq_true, beq_iff_eq] at hp
        simp [hp.1]
    · exact h
  have hb : (if s.hm.probe.any Probe.lapsed then s.setProbe none else s).segBIsolated = false := by
    split <;> exact hi
  unfold State.chooseStation
  dsimp only
  generalize (if s.hm.probe.any Probe.lapsed then s.setProbe none else s) = t at hl hb ⊢
  split
  · exact hl
  · next hn =>
    split
    · exact hl
    · exact k.probePending _ _ _ (by simpa using hn) (fun _ => hb) hl

theorem assessSegment (h : I s) : I s.assessSegment := by
  unfold State.assessSegment
  split
  · exact k.probeFailure _ h
  · split
    · exact k.probeCredit _ _ h
    · next t _ =>
      split
      · exact h
      · next hn =>
        have h1 := k.probePending s .segment t (by simpa using hn) (fun e => nomatch e) h
        exact k.monitor (s := s.setProbe (some ⟨.pending, .segment, t⟩)) { s.hm with
          segmentPointer := t + 1, probe := some ⟨.pending, .segment, t⟩ } rfl rfl rfl rfl rfl rfl rfl rfl h1

theorem probeExpiry (h : I s) : I s.probeExpiry := by
  unfold State.probeExpiry
  refine foldl (fun _ _ => k.assessPort _) _ (k.monitor _ rfl rfl rfl rfl rfl rfl rfl rfl ?_)
  split
  · exact k.assessSegment h
  · next hi => exact k.chooseStation (by simpa using hi) h

/-- Evidence from a good frame. -/
theorem portEvidence (n : PortNo) (h : I s) : I (s.portEvidence n) := by
  unfold State.portEvidence
  split
  · exact h
  · exact k.probeCredit _ _ (k.mapPort _ _ (.of_kept rfl rfl rfl rfl rfl rfl rfl) h)

/-! ### Port receivers -/

theorem charError (n : PortNo) (e : Bool) (h : I s) : I (s.charError n e) := by
  unfold State.charError
  split
  · exact k.chargePort _ _ h
  · exact h

theorem frameEvent (n : PortNo) (v : FrameVerdict) (h : I s) : I (s.frameEvent n v) := by
  unfold State.frameEvent
  split
  · split
    · exact k.chargePort _ _ h
    · exact h
  · exact h

theorem frameGoesOn (n : PortNo) (r : PortRx) (e : Bool) (h : I s) : I (s.frameGoesOn n r e) :=
  k.charError _ _ (k.mapPort _ _ (.of_kept rfl rfl rfl rfl rfl rfl rfl) h)

theorem endFrame (n : PortNo) (h : I s) : I (s.mapPort n Port.endFrame) := k.mapPort _ _ Port.follows_endFrame h

/-- The head of a queue that is not empty becomes SENT. -/
theorem sendHead (n : PortNo) (hb : (s.port n).state.mayBegin = true) (hu : (s.port n).upstream ≠ []) (h : I s) :
    I (s.mapPort n fun p => { p with headSent := true }) :=
  k.mapPort _ _ (.of_grown rfl (.inl hb) fun ⟨h1, h2, h3, h4, _⟩ => ⟨h1, h2, h3, h4, fun _ => hu⟩) h

theorem messageFrame (n : PortNo) (m : List Byte) (hb : (s.port n).state.mayBegin = true)
    (hr : (s.port n).responses.length < 4) (h : I s) : I (s.messageFrame n m) := by
  unfold State.messageFrame
  split
  · exact k.fillNil _ (k.respond _ _ hb hr h)
  · split
    · exact k.fillNil _ (k.respond _ _ hb hr h)
    · next hl =>
      have h1 : I (s.mapPort n fun p => { p with upstream := p.upstream ++ [m] }) := by
        refine k.mapPort _ _ (.of_grown rfl (.inl hb) fun ⟨_, hd, hr, hn, _⟩ => ⟨?_, hd, hr, hn, by simp⟩) h
        simp; omega
      have h2 := k.respond n (.ack kindMsg) (by simpa using hb) (by simpa using hr) h1
      unfold State.fillData
      split
      · exact k.sendHead _ (by simpa [State.respond] using hb) (by simp [State.respond]) (k.commitEarly _ _ _ h2)
      · exact h2

theorem closeJob (j : Job) (hj : j ∈ s.sm.jobs) (ho : j.state = .opened) (h : I s) : I (s.closeJob j) := by
  unfold State.closeJob
  split
  · exact k.removeJob _ _ _ hj (by simp [ho]) h
  · exact k.offerJobs _ (k.enqueue _ _ hj ho h)

theorem cancelJob (j : Job) (hj : j ∈ s.sm.jobs) (h : I s) : I (s.cancelJob j) := by
  unfold State.cancelJob
  split
  · exact k.stopEngine _ h
  · exact k.removeJob _ _ _ hj ‹_› h

theorem idleExpired (j : Job) (hj : j ∈ s.sm.jobs) (ho : j.state = .opened) (h : I s) : I (s.idleExpired j) := by
  unfold State.idleExpired
  split
  · exact k.closeJob _ hj ho h
  · exact k.removeJob _ _ _ hj (by simp [ho]) h

/-- An accepted print frame of a desk whose port is in service. -/
theorem printEffect {a : Address} {n : PortNo} {kind : Byte} {m : List Byte} (ad : kind = kindPrintData → AdmitsFrom s I)
    (hl : (s.entry a).location = .port n) (hb : (s.port n).state.mayBegin = true)
    (hr : s.printRefusal (.desk a) kind m = none) (h : I s) : I (s.printEffect (.desk a) kind m) := by
  unfold State.printRefusal at hr
  unfold State.printEffect
  split
  · next hk =>
    rw [if_pos hk, openRefusal_eq_none] at hr
    obtain ⟨-, ho, ht⟩ := hr
    exact k.openJob _ _ _ _ ho ht (fun b e => by cases e; exact ⟨n, hl, hb⟩) h
  · split
    · split
      · exact k.cancelJob _ (cancelTarget_mem ‹_›) h
      · exact h
    · split
      · exact h
      · next hopen hcancel _ j hj =>
        obtain ⟨hm, ho, hs⟩ := openJob?_spec hj
        split
        · next hk =>
          refine ad hk s j m rfl rfl (.inl hm) hm ho ?_ h
          rw [if_neg hopen, if_neg hcancel, hj] at hr
          rw [hs]
          rcases hx : s.admission (.desk a) j.count m.length with _ | _ | _ <;> simp [hk, hx] at hr ⊢
        · exact k.closeJob _ hm ho h

/-- The response to a print frame comes before its effect, and does not bear on the verdict. -/
theorem printFrame {n : PortNo} {kind : Byte} (m : List Byte) (ad : kind = kindPrintData → AdmitsFrom s I)
    (hb : (s.port n).state.mayBegin = true) (hr : (s.port n).responses.length < 4) (h : I s) : I (s.printFrame n kind m) := by
  unfold State.printFrame
  split
  · exact k.respond _ _ hb hr h
  · next a ha =>
    split
    · exact k.respond _ _ hb hr h
    · next hn =>
      refine k.printEffect (fun e => (ad e).congr (by simp [State.respond])) (n := n) ?_ ?_ ?_ (k.respond _ _ hb hr h)
      · simpa using mappedAddress_spec ha
      · simpa [State.respond] using hb
      · exact hn

theorem goodFrame {n : PortNo} {kind : Byte} (m : List Byte) (ad : kind = kindPrintData → AdmitsFrom s I)
    (hb : (s.port n).state.mayBegin = true) (hr : (s.port n).responses.length < 4) (h : I s) : I (s.goodFrame n kind m) := by
  unfold State.goodFrame
  split
  · exact k.messageFrame _ _ hb hr h
  · split
    · exact k.notifyLink _ h
    · exact k.printFrame _ ad hb hr h

theorem applyFrame {n : PortNo} {r : PortRx} {v : FrameVerdict} (ad : r.kind = kindPrintData → AdmitsFrom s I)
    (hv : v = .overrun ∨ (s.port n).responses.length < 4) (h : I s) : I (s.applyFrame n r v) := by
  have fault (x : NakReason) (hb : (s.port n).state.mayBegin = true) (ho : v ≠ .overrun) :
      I ((s.respond n (.nak r.kind x)).fillNil n) :=
    k.fillNil _ (k.respond _ _ hb (hv.resolve_left ho) h)
  have served (hb : (s.port n).state.mayBegin = true) : I (match (generalizing := false) v with
      | .good => s.goodFrame n r.kind r.payload
      | .overrun => s.fillNil n
      | v => (match v.nak with
        | some reason => s.respond n (.nak r.kind reason)
        | none => s).fillNil n) := by
    cases v with
    | good => exact k.goodFrame _ ad hb (by simpa using hv) h
    | overrun => exact k.fillNil _ h
    | lengthFault | characterFault | checkFault | kindFault => exact fault _ hb (by decide)
  unfold State.applyFrame
  split
  · exact h
  · exact k.finishStopping _ h
  · split
    · exact k.portEvidence _ h
    · exact h
  · next hs => exact served (by rw [hs]; rfl)
  · next hs => exact served (by rw [hs]; rfl)

theorem frameEnds {n : PortNo} {r : PortRx} (ad : r.kind = kindPrintData → AdmitsFrom s I) (x : Bool) (c : Byte) (e : Bool)
    (h : I s) : I (s.frameEnds n r x c e) := by
  refine k.frameEvent _ _ (k.charError _ _ (k.applyFrame (fun e => (ad e).congr rfl) ?_ (k.endFrame _ h)))
  unfold Port.frameVerdict
  split
  · exact .inl rfl
  · next hl => right; simpa [Port.endFrame] using hl

theorem portCharacter {n : PortNo} (ad : (s.port n).rx.kind = kindPrintData → AdmitsFrom s I) (v : Byte) (e : Bool)
    (h : I s) : I (s.portCharacter n v e) := by
  unfold State.portCharacter
  dsimp only
  split
  · split
    · split
      · exact k.frameGoesOn _ _ _ h
      · exact k.charError _ _ h
    · exact k.frameGoesOn _ _ _ h
    · split
      · exact k.frameGoesOn _ _ _ h
      · split
        · exact k.frameGoesOn _ _ _ h
        · refine k.frameEnds ?_ _ _ _ h
          exact ad
    · exact k.frameGoesOn _ _ _ h
    · refine k.frameEnds ?_ _ _ _ h
      exact ad
  · exact h

theorem gapExpires (n : PortNo) (h : I s) : I (s.gapExpires n) := by
  have h1 : I ((s.mapPort n Port.endFrame).fillNil n) := k.fillNil _ (k.endFrame _ h)
  unfold State.gapExpires
  dsimp only
  split
  · split
    · exact k.finishStopping _ h1
    · split
      · exact k.chargePort _ _ h1
      · exact h1
  · exact h

theorem breakBegins (n : PortNo) (h : I s) : I (s.breakBegins n) := by
  have h1 : I (s.mapPort n fun q => { q.endFrame with inBreak := true, breakMark := q.breakMark || q.state == .isolated }) :=
    k.mapPort _ _ (.of_kept rfl rfl rfl rfl rfl rfl rfl) h
  unfold State.breakBegins
  dsimp only
  generalize (s.mapPort n fun q => { q.endFrame with inBreak := true, breakMark := q.breakMark || q.state == .isolated }) = t
    at h1 ⊢
  have h2 : I (if (s.port n).receiving = true then t.fillNil n else t) := by
    split
    · exact k.fillNil _ h1
    · exact h1
  split
  · exact h
  · split
    · exact k.finishStopping _ h2
    · split
      · exact k.chargePort _ _ h2
      · exact h2

/-! ### Peer-ready and the transmitter -/

theorem peerAsserted {t : State} (n : PortNo) (ht : execPeerReadyAsserted n s = .next t) (h : I s) : I t := by
  have h1 : I (s.mapPort n fun q => { q with srdy := true }) := k.mapPort _ _ (.of_kept rfl rfl rfl rfl rfl rfl rfl) h
  have release (p : Port) (hp : p.state.mayBegin = true) : p.Follows p.release :=
    .trans (q := { p with tx := if p.tx = PortTx.held then PortTx.idle else p.tx })
      (.of_grown rfl (.inl hp) fun ⟨h1, h2, h3, h4, h5, _⟩ => ⟨h1, h2, h3, h4, h5⟩) Port.follows_chooseFrame
  unfold execPeerReadyAsserted at ht
  dsimp only at ht
  cases ht
  split
  · exact h1
  · split
    · next hs => 
      have hb : (s.port n).state.mayBegin = true := by rw [hs]; rfl
      exact k.mapPort _ _ (.trans (.of_grown rfl (.inl (by simpa using hb)) fun ⟨h1, h2, h3, h4, h5, _⟩ => ⟨h1, h2, h3, h4, h5⟩)
        (release _ (by simpa using hb))) h1
    · next hs =>
      have h2 := k.mapPort n (fun q => { q with state := .online }) ⟨.inr (.inr ⟨by simp [hs]; rfl, rfl⟩), fun ho => ?_⟩ h1
      · refine k.mapPort _ _ (release _ ?_) (k.notifyLink _ (k.reportPort _ h2))
        simp [State.notifyLink, State.notify, Port.queueNotice]
        rfl
      · obtain ⟨h1, h2, h3, h4, h5, _⟩ := ho
        exact ⟨h1, h2, h3, h4, h5, by simp⟩
    all_goals exact h1

theorem peerDeasserted {t : State} (n : PortNo) (ht : execPeerReadyDeasserted n s = .next t) (h : I s) : I t := by
  unfold execPeerReadyDeasserted at ht
  dsimp only at ht
  cases ht
  refine k.mapPort _ _ ?_ h
  split
  · next hs =>
    exact .of_grown rfl (.inl (by rw [hs.2.2]; rfl)) fun ⟨h1, h2, h3, h4, h5, _⟩ => ⟨h1, h2, h3, h4, h5⟩
  · exact .of_kept rfl rfl rfl rfl rfl rfl rfl

theorem detach (n : PortNo) (hs : (s.port n).state = .online) (h : I s) :
    I (((s.mapPort n Port.detach).reportPort n).fillOffline n) := by
  refine k.fillOffline _ (k.reportPort _ (k.mapPort _ _ ⟨.inr (.inr ⟨by rw [hs]; rfl, rfl⟩), fun ho => ?_⟩ h))
  obtain ⟨h1, h2, -, -, h5, -⟩ := ho
  exact ⟨h1, h2, by simp [Port.detach], by simp [Port.detach], h5, by simp [Port.detach]⟩

theorem frameSent (n : PortNo) (f : SentFrame) (ht : (s.port n).tx = .sending f) (h : I s) :
    I ((s.mapPort n fun p => p.frameSent f).finishStopping n) := by
  refine k.finishStopping _ (k.mapPort _ _ (.trans (q := { s.port n with
      tx := (s.port n).restTx
      downstream := match (generalizing := false) f with
        | .deliver _ => (s.port n).downstream.drop 1
        | .response _ | .notice _ => (s.port n).downstream }) ⟨.inl rfl, fun ho => ?_⟩ Port.follows_chooseFrame) h)
  obtain ⟨h1, h2, h3, h4, h5, h6⟩ := ho
  refine ⟨h1, ?_, h3, h4, h5, fun hst => ?_⟩
  · dsimp only
    split
    · simp; omega
    all_goals exact h2
  · have := (h6 hst).2
    simp [ht, PortTx.busy] at this

/-! ### The reply context -/

theorem primaryAdmit {t : State} (ad : AdmitsFrom s I) {text : List Byte} (ht : s.primaryAdmit text = some t) (h : I s) : I t := by
  unfold State.primaryAdmit at ht
  split at ht
  · next j hj =>
    obtain ⟨hm, ho, hs⟩ := openJob?_spec hj
    split at ht
    · cases ht
    · cases ht
      exact ad s j text rfl rfl (.inl hm) hm ho (by rw [hs]; simp_all) h
  · next hn =>
    split at ht
    · cases ht
    · next hc =>
      simp only [Bool.or_eq_true, not_or, Bool.not_eq_true, Bool.not_eq_false', Option.isSome_eq_false_iff,
        Option.isNone_iff_eq_none] at hc
      have h1 := k.openJob s .primary 1 .normal hn hc.1 (by simp) h
      dsimp only at ht
      rw [openJob?_openJob 1 .normal hn] at ht
      cases ht
      obtain ⟨hm, ho, hs⟩ := openJob?_spec (openJob?_openJob 1 .normal hn)
      exact ad _ _ text rfl rfl (.inr ⟨rfl, rfl⟩) hm ho ((admission_congr .primary 0 _ rfl rfl).trans hc.2) h1

theorem submitPrimary (ad : AdmitsFrom s I) (m : List Byte) (h : I s) : I (s.submitPrimary m).2 := by
  unfold State.submitPrimary
  split
  · split
    · next j hj =>
      obtain ⟨hm, ho, _⟩ := openJob?_spec hj
      exact k.removeJob _ _ _ hm (by simp [ho]) h
    · exact h
  · dsimp only
    split
    · exact h
    · next t ht =>
      have h1 : I t := by
        split at ht
        · cases ht; exact h
        · exact k.primaryAdmit ad ht h
      dsimp only
      split
      · unfold State.primaryClose
        split
        · next j hj =>
          obtain ⟨hm, ho, _⟩ := openJob?_spec hj
          exact k.closeJob _ hm ho h1
        · exact h1
      · exact h1

omit k in
/-- A poll that a port answers with DATA finds it in service with a message. -/
theorem pollReply_data {p : Port} {c : Byte} {x : StandIn} {f : Nat} {m : List Byte}
    (h : p.pollReply c x f = .reply .data m) : p.state.mayBegin = true ∧ p.upstream ≠ [] := by
  unfold Port.pollReply Port.nextReply Port.statusReply at h
  cases hs : p.state <;> cases hu : p.upstream <;> cases x <;> simp [hs, hu, StandIn.decision, PortState.mayBegin] at h ⊢
  all_goals
    split at h
    · split at h <;> cases h
    · cases h

omit k in
/-- A select that a port accepts finds it ONLINE with room downstream. -/
theorem selectReply_accept {p : Port} {x : StandIn} {m : List Byte} (h : p.selectReply x = .reply .accept m) :
    p.state = .online ∧ p.downstream.length < 4 := by
  unfold Port.selectReply at h
  cases hs : p.state <;> cases x <;> simp [hs, StandIn.decision] at h ⊢
  all_goals split at h <;> simp_all

theorem decideReply (ad : AdmitsFrom s I) (t : Taking) (h : I s) : I (s.decideReply t).2 := by
  unfold State.decideReply
  split
  · split
    · next hd =>
      obtain ⟨hb, hu⟩ := pollReply_data hd
      exact k.sendHead _ hb hu h
    · exact h
  · split
    · next hd =>
      obtain ⟨hs, hl⟩ := selectReply_accept hd
      rename_i n m _ _ _ _
      have hg : (s.port n).Follows { s.port n with downstream := (s.port n).downstream ++ [m] } := by
        refine .of_grown rfl (.inl (by rw [hs]; rfl)) fun ⟨h1, _, h3, h4, h5, _⟩ => ⟨h1, ?_, h3, h4, h5⟩
        simp; omega
      exact k.port _ _ _ (hg.trans Port.follows_chooseFrame) h
    · exact h
  · exact h
  · split
    · exact h
    · next m _ _ _ =>
      have h1 := k.submitPrimary ad m h
      split <;> rename_i heq <;> rw [heq] at h1 <;> exact h1
  · exact h

theorem startReply (ad : AdmitsFrom s I) (t : Taking) (h : I s) : I (s.startReply t) := by
  have h1 := k.decideReply ad t h
  unfold State.startReply
  split <;> rename_i heq <;> rw [heq] at h1
  · exact k.reply _ _ h1
  · exact k.reply (s := State.beginReply _ _ _) _ _ (k.replyBegins _ _ rfl rfl h1)
  · exact k.reply (s := State.beginReply _ _ _) _ _ (k.replyBegins _ _ rfl rfl h1)

/-! ### Every step -/

theorem profile (p : TrunkProfile) (n : Nat) (h : I s) :
    I ({ s with sd := { s.sd with ageLimit := n } }.writeTrunkProfile p) := by
  rw [State.writeTrunkProfile_eq]
  exact k.blind s _ ⟨rfl, rfl, rfl, rfl, rfl, fun _ => rfl, rfl, rfl, rfl, rfl⟩ h

/-- A law that meets the clauses, that of an admission among them, meets those of every step. -/
theorem kept (ad : AdmitsText I) : Kept I where
  link s _ h := k.blind s _ ⟨rfl, rfl, rfl, rfl, rfl, fun _ => rfl, rfl, rfl, rfl, rfl⟩ h
  rest s _ h := k.blind s _ ⟨rfl, rfl, rfl, rfl, rfl, fun _ => rfl, rfl, rfl, rfl, rfl⟩ h
  tick := k.tick
  restartBlocks := k.restartBlocks
  restartTraffic := k.restartTraffic
  writeEntry := k.writeEntry
  clearEntry := k.clearEntry
  makePrinter := k.makePrinter
  setQuota s src n _ h := k.setQuota s src n h
  trunkProfile _ _ _ h := k.profile _ _ h
  portProfile _ _ _ _ h := k.mapPort _ _ (.of_kept rfl rfl rfl rfl rfl rfl rfl) h
  enablePort := k.enablePort
  stopPort _ _ h := k.stopPort _ h
  limits := k.limits
  weights _ _ h := k.monitor _ rfl rfl rfl rfl rfl rfl rfl rfl h
  forceIsolate := k.forceIsolate
  clearKeeping := k.clearKeeping
  setMayIsolate := k.setMayIsolate
  printProfile := k.printProfile
  enableEngine := k.enableEngine
  disableEngine := k.disableEngine
  resumePrinter := k.resumePrinter
  holdJob s j hj hs h := k.setJobState s j _ _ (job?_mem hj) (.inl hs) (.inr rfl) h
  releaseJob s j hj hs h := k.offerJobs _ (k.setJobState s j _ _ (job?_mem hj) (.inr hs) (.inl rfl) h)
  cancelJob _ j hj h := k.cancelJob j (job?_mem hj) h
  promote s j hj h := k.promote s j (job?_mem hj) h
  alerts s _ _ h := k.blind s _ ⟨rfl, rfl, rfl, rfl, rfl, fun _ => rfl, rfl, rfl, rfl, rfl⟩ h
  flags s _ h := k.blind s _ ⟨rfl, rfl, rfl, rfl, rfl, fun _ => rfl, rfl, rfl, rfl, rfl⟩ h
  readReport s _ _ _ h := k.blind s _ ⟨rfl, rfl, rfl, rfl, rfl, fun _ => rfl, rfl, rfl, rfl, rfl⟩ h
  second s h := k.blind s _ ⟨rfl, rfl, rfl, rfl, rfl, fun _ => rfl, rfl, rfl, rfl, rfl⟩ h
  minute s h := foldl k.ageEntry _ (k.blind s _ ⟨rfl, rfl, rfl, rfl, rfl, fun _ => rfl, rfl, rfl, rfl, rfl⟩ h)
  activity _ _ _ h := k.setSeg _ _ h
  syncMatch _ _ _ _ _ h := k.setSeg _ _ h
  addressTaken _ _ _ _ _ h := k.addressTaken _ _ _ _ h
  trunkCharacter _ _ _ h := k.characterOnTrunk _ _ h
  burstEnds _ _ _ h := k.burstEnds _ _ h
  idleSeen _ _ h := k.idleSeen _ h
  jabbers _ _ h := k.jabbers _ h
  startHeld _ _ h := k.startHeld _ h
  transmitterEnds _ _ h := k.transmitterEnds _ h
  pollMissExpiry _ _ _ _ h := k.pollMiss _ _ (k.setSeg _ _ h)
  replyStart _ t _ _ _ h := k.startReply ad.at t h
  replyDeadline s _ _ h := k.reply _ s.draws h
  fillExhausted s _ _ _ h := k.blind s _ ⟨rfl, rfl, rfl, rfl, rfl, fun _ => rfl, rfl, rfl, rfl, rfl⟩ h
  portCharacter _ _ _ _ h := k.portCharacter (fun _ => ad.at) _ _ h
  portStartBit _ _ h := k.mapPort _ _ (.of_kept rfl rfl rfl rfl rfl rfl rfl) h
  gapExpires _ _ h := k.gapExpires _ h
  breakBegins _ _ h := k.breakBegins _ h
  breakEnd _ _ h := k.mapPort _ _ (.of_kept rfl rfl rfl rfl rfl rfl rfl) h
  peerAsserted _ _ _ ht h := k.peerAsserted _ ht h
  peerDeasserted _ _ _ ht h := k.peerDeasserted _ ht h
  detach _ _ _ hs h := k.detach _ hs h
  frameSent _ _ _ ht h := k.frameSent _ _ ht h
  idleExpired _ j hj ho h := k.idleExpired j (job?_mem hj) ho h
  lineChanged _ _ _ _ h := k.reportEngine _ (k.lineChanged _ _ _ h)
  characterTaken _ ha h := k.reportEngine _ (k.characterTaken _ ha h)
  characterLost _ hs _ h := k.reportEngine _ (k.characterLost _ hs h)
  grantChanged _ _ _ h := k.reportEngine _ (k.grantChanged _ _ h)
  releaseExpired _ _ h := k.reportEngine _ (k.releaseExpired _ h)
  decayExpiry _ h := foldl k.decay _ (k.monitor _ rfl rfl rfl rfl rfl rfl rfl rfl h)
  probeExpiry _ h := k.probeExpiry h
  probeStart _ _ _ _ hp hm h := by
    simp only [State.probeMayStart, Segment.available, Bool.and_eq_true, beq_iff_eq] at hm
    exact k.startProbe _ _ _ hp hm.1.1.1.1 h
  probeDeadline _ _ hp h := k.probeOutcome _ _ (by simp [State.probeSending, hp]) h
  probeWindow _ _ _ _ hp h := k.probeOutcome _ _ (by simp [State.probeSending, hp]) h

end Steady

end Sys2Proof.Machine
end

section
/-! PROOF. How a law outlasts every step when the health objects do not bear on it either: what is left of an isolation, a readmission
and a clearing is what they do to a port and to its OPEN job. -/

namespace Sys2Proof.Machine

/-- A port may become another for a law that the health objects leave alone: it stays in service or out of it, or enters service, and
stays orderly. -/
def Port.Passes (p q : Port) : Prop :=
  (q.state = .standby ∨ q.state = .isolated → p.state = .standby ∨ p.state = .isolated) ∧ (p.Orderly → q.Orderly)

/-- An entry may become another: its held count stays; it is LEARNED on a segment alone, or its origin and location stay; and a new
location is neither PRINTER nor another address's port, and the old one no port in use, or a LEARNED one. -/
structure State.Reroutes (s : State) (a : Address) (e : Entry) : Prop where
  held : e.held = (s.entry a).held
  origin : e.origin = .static ∨ e.location.isSegment = true ∨
    e.origin = (s.entry a).origin ∧ e.location = (s.entry a).location
  place : e.location = (s.entry a).location ∨
    (s.onBusyPort a = false ∨ (s.entry a).origin = .learned) ∧ e.location ≠ .printer ∧ ∀ b, b ≠ a → (s.entry b).location = e.location → e.location.isPort = false

/-- The clauses of a law that the trunk, the reply context, the health objects, the Alert Unit and the link leave alone. -/
structure Calm (I : State → Prop) : Prop where
  blind : ∀ s t, t.sd.entries = s.sd.entries → t.sd.primaryHeld = s.sd.primaryHeld → t.ports = s.ports → t.sm = s.sm →
    t.pe = s.pe → I s → I t
  tick : ∀ s, I s → I s.tick
  restartBlocks : ∀ s, I s → I s.restartBlocks
  restartTraffic : ∀ s, I s → I s.restartTraffic
  entry : ∀ s a e, s.Reroutes a e → I s → I (s.setEntry a e)
  makePrinter : ∀ s a, (s.entry a).location.isPort = false → I s → I (s.makePrinter a)
  port : ∀ s n q, (s.port n).Passes q → I s → I (s.setPort n q)
  portDown : ∀ s n q, q.listsEmpty → q.headSent = false → q.tx.busy = false → I s → I ((s.setPort n q).discardOpen n)
  printProfile : ∀ s p t m, I s →
    I { s with pe := { s.pe with profile := p }, sm := { s.sm with idleTimeout := t, lowMark := m } }
  enableEngine : ∀ s, I s → I s.enableEngine
  disableEngine : ∀ s, I s → I s.disableEngine
  stopEngine : ∀ s, I s → I s.stopEngine
  resumePrinter : ∀ s, I s → I s.resumePrinter
  lineChanged : ∀ s l h, I s → I (s.lineChanged l h)
  characterTaken : ∀ s, s.pe.inAck = true → I s → I s.characterTaken
  characterLost : ∀ s, s.pe.state = .running → I s → I s.characterLost
  grantChanged : ∀ s h, I s → I (s.grantChanged h)
  releaseExpired : ∀ s, I s → I s.releaseExpired
  openJob : ∀ s src k p, s.openJob? src = none → s.tableRoom src = true →
    (∀ a, src = .desk a → ∃ n, (s.entry a).location = .port n ∧ (s.port n).state.mayBegin = true) → I s → I (s.openJob src k p)
  removeJob : ∀ s j e, j ∈ s.sm.jobs → j.state ≠ .printing → I s → I (s.removeJob j e)
  enqueue : ∀ s j, j ∈ s.sm.jobs → j.state = .opened → I s → I (s.enqueue j)
  offerJobs : ∀ s, I s → I s.offerJobs
  setJobState : ∀ s j st x, j ∈ s.sm.jobs → (j.state = .queued ∨ j.state = .held) → (st = .queued ∨ st = .held) →
    I s → I (s.setJobState j st x)
  promote : ∀ s j, j ∈ s.sm.jobs → I s → I (s.promote j)

variable {I : State → Prop} {s : State}

theorem Port.Follows.passes {p q : Port} (h : p.Follows q) : p.Passes q := by
  refine ⟨fun hq => ?_, h.2⟩
  rcases h.1 with e | e | e
  · rwa [e] at hq
  · rw [e] at hq; simp at hq
  · rcases hq with hq | hq <;> simp [hq, PortState.mayBegin] at e

theorem Port.serviceState_mayBegin (p : Port) : p.serviceState.mayBegin = true := by
  unfold Port.serviceState; split <;> rfl

theorem PortState.mayBegin_iff {x : PortState} : x.mayBegin = true ↔ x = .online ∨ x = .detached := by
  cases x <;> simp [mayBegin]

/-- A port that is not ISOLATED hears nothing of the clearing of its object. -/
theorem clearKeeping_port (n : PortNo) (h : (s.port n).state ≠ .isolated) : s.clearKeeping (.port n) =
    { s with hm := (s.clearKeeping (.port n)).hm, au := (s.clearKeeping (.port n)).au } := by
  have hp (t : State) (ht : t.ports = s.ports) : t.readmitPort n = t := by
    have : (t.port n).state ≠ .isolated := by rwa [State.port_congr ht]
    simp [State.readmitPort, this]
  unfold State.clearKeeping State.clearObject
  dsimp only
  split
  · rfl
  · split
    · have hr (x : HealthObject) : (s.setObject (.port n) x).readmitObject (.port n) .active =
          (s.setObject (.port n) x).reportObject (.port n) (.state .active) _ := hp _ (by simp)
      rw [hr]
      rfl
    · rfl

namespace Calm

variable (c : Calm I)
include c

theorem mapPort (n : PortNo) (f : Port → Port) (hf : (s.port n).Passes (f (s.port n))) (h : I s) : I (s.mapPort n f) :=
  c.port _ _ _ hf h

theorem raise (x : Cause) (m : Nat) (d : Detail) (h : I s) : I (s.raise x m d) := c.blind s _ rfl rfl rfl rfl rfl h

theorem notify (n : PortNo) (x : Notice) (h : I s) : I (s.notify n x) := by
  unfold State.notify
  split
  · exact c.mapPort _ _ (Port.follows_queueNotice x ‹_›).passes h
  · exact h

theorem notifyJob (src : Source) (id : Nat) (x : NoticeState) (p : Nat) (h : I s) : I (s.notifyJob src id x p) := by
  unfold State.notifyJob
  split
  · exact h
  · split
    · exact c.notify _ _ h
    · exact h

/-! ### Orders -/

theorem isolatePort (n : PortNo) (h : I s) : I (s.isolatePort n) := by
  unfold State.isolatePort
  split
  · have h1 : I (s.fillOffline n) := c.blind s _ (by simp) (by simp) (by simp) (by simp) (by simp) h
    have he : (s.mapPort n Port.isolate).fillOffline n = (s.fillOffline n).mapPort n Port.isolate := by
      unfold State.fillOffline State.mapPort State.setPort State.fillingFor
      dsimp only
      split <;> rfl
    rw [he]
    exact c.portDown _ _ _ ⟨rfl, rfl, rfl, rfl⟩ rfl rfl h1
  · exact h

theorem readmitPort (n : PortNo) (h : I s) : I (s.readmitPort n) := by
  unfold State.readmitPort
  split
  · next hs =>
    refine c.notify _ _ (c.mapPort _ _ ⟨fun _ => .inr hs, fun _ => ?_⟩ h)
    have hb := (s.port n).serviceState_mayBegin
    refine ⟨by simp [Port.flush], by simp [Port.flush], by simp [Port.flush], by simp [Port.flush], by simp [Port.flush],
      fun hst => ?_⟩
    rcases hst with e | e <;> (dsimp only at e; rw [e] at hb; cases hb)
  · exact h

theorem setObject (o : ObjectId) (x : HealthObject) (h : I s) : I (s.setObject o x) :=
  c.blind s _ (by simp) (by simp) (by simp) (by simp) (by simp) h

theorem reportObject (o : ObjectId) (d : HealthDetail) (x : PortState) (h : I s) : I (s.reportObject o d x) :=
  c.blind s _ (by simp) (by simp) (by simp) (by simp) (by simp) h

theorem isolateObject (o : ObjectId) (h : I s) : I (s.isolateObject o) := by
  unfold State.isolateObject
  dsimp only
  have h1 := fun d x => c.reportObject o d x h
  split
  · exact h1 _ _
  · exact c.blind s _ (by simp) (by simp) (by simp) (by simp) (by simp) h
  · exact c.isolatePort _ (h1 _ _)
  · exact c.blind s _ (by simp) (by simp) (by simp) (by simp) (by simp) h

theorem readmitObject (o : ObjectId) (x : Health) (h : I s) : I (s.readmitObject o x) := by
  unfold State.readmitObject State.readmissionOrder
  have h1 := fun d x => c.reportObject o d x h
  split
  · exact h1 _ _
  · exact c.blind s _ (by simp) (by simp) (by simp) (by simp) (by simp) h
  · exact c.readmitPort _ (h1 _ _)
  · exact c.blind s _ (by simp) (by simp) (by simp) (by simp) (by simp) h

/-! ### Evaluations -/

theorem evaluateMark (o : ObjectId) (h : I s) : I (s.evaluateMark o) :=
  c.blind s _ (by simp) (by simp) (by simp) (by simp) (by simp) h

theorem evaluate (o : ObjectId) (h : I s) : I (s.evaluate o) := by
  unfold State.evaluate
  dsimp only
  split
  · split
    · exact c.readmitObject _ _ (c.setObject _ _ h)
    · exact c.setObject _ _ h
  · split
    · exact c.isolateObject _ (c.setObject _ _ h)
    · split
      · exact c.evaluateMark _ h
      · exact c.evaluateMark _ (c.reportObject _ _ _ (c.setObject _ _ h))

theorem addScore (o : ObjectId) (w : Nat) (h : I s) : I (s.addScore o w) := c.evaluate _ (c.setObject _ _ h)

theorem probeCredit (o : ObjectId) (h : I s) : I (s.probeCredit o) := by
  unfold State.probeCredit
  split
  · exact c.evaluate _ (c.setObject _ _ h)
  · exact h

theorem decay (o : ObjectId) (h : I s) : I (s.decay o) := by
  unfold State.decay
  dsimp only
  split
  · exact c.evaluate _ (c.setObject _ _ h)
  · exact h

theorem clearObject (o : ObjectId) (b : Bool) (h : I s) : I (s.clearObject o b) := by
  unfold State.clearObject
  dsimp only
  split
  · exact c.setObject _ _ h
  · split
    · exact c.readmitObject _ _ (c.setObject _ _ h)
    · exact c.reportObject _ _ _ (c.setObject _ _ h)

theorem clearKeeping (o : ObjectId) (h : I s) : I (s.clearKeeping o) := c.clearObject _ _ h

theorem forceIsolate (o : ObjectId) (h : I s) : I (s.forceIsolate o) := by
  unfold State.forceIsolate
  dsimp only
  split
  · exact c.setObject _ _ h
  · exact c.isolateObject _ (c.setObject _ _ h)

theorem setMayIsolate (o : ObjectId) (b : Bool) (h : I s) : I (s.setMayIsolate o b) := by
  unfold State.setMayIsolate
  dsimp only
  split
  · exact c.evaluateMark _ (c.readmitObject _ _ (c.setObject _ _ h))
  · exact c.evaluate _ (c.setObject _ _ h)

/-! ### Ports in and out of service -/

theorem enterStandby (n : PortNo) (h : I s) : I (s.enterStandby n) := by
  unfold State.enterStandby
  rw [clearKeeping_port n (by simp [Port.toStandby])]
  generalize ((s.mapPort n Port.toStandby).reportPort n).clearKeeping (.port n) = t
  exact c.portDown { s with hm := t.hm, au := t.au } n (s.port n).toStandby ⟨rfl, rfl, rfl, rfl⟩ rfl rfl
    (c.blind s _ rfl rfl rfl rfl rfl h)

theorem enablePort (n : PortNo) (hs : (s.port n).state = .standby) (h : I s) : I (s.enablePort n) := by
  have he : I (s.mapPort n fun p => p.enabled ((s.object (.port n)).state == .isolated)) :=
    c.mapPort _ _ ⟨fun _ => .inl hs, fun ho => ?_⟩ h
  · exact c.notify _ _ (c.blind _ _ (by rfl) (by rfl) (by rfl) (by rfl) (by rfl) he)
  obtain ⟨h1, h2, h3, h4, h5, h6⟩ := ho
  obtain ⟨hl, -⟩ := h6 (.inl hs)
  unfold Port.enabled
  split
  · exact ⟨h1, h2, h3, h4, h5, fun _ => ⟨hl, rfl⟩⟩
  · refine ⟨h1, h2, h3, h4, h5, fun _ => ⟨hl, ?_⟩⟩
    dsimp only [Port.restTx]
    split <;> rfl

/-! ### The directory -/

theorem setQuota (src : Source) (n : Nat) (h : I s) : I (s.setQuota src n) := by
  cases src
  · exact c.blind s _ rfl rfl rfl rfl rfl h
  · exact c.entry _ _ _ ⟨rfl, .inr (.inr ⟨rfl, rfl⟩), .inl rfl⟩ h

/-- A new age alone. -/
theorem age (a : Address) (n : Nat) (h : I s) : I (s.setEntry a { s.entry a with age := n }) :=
  c.entry _ _ _ ⟨rfl, .inr (.inr ⟨rfl, rfl⟩), .inl rfl⟩ h

omit c in
theorem onBusyPort_of_not_isPort {a : Address} (h : (s.entry a).location.isPort = false) : s.onBusyPort a = false := by
  unfold State.onBusyPort
  cases hl : (s.entry a).location <;> simp_all [Location.isPort]

/-- An entry that is on no port, or LEARNED, passes to a segment or to NONE. -/
theorem place {a : Address} {e : Entry} (hh : e.held = (s.entry a).held)
    (hp : (s.entry a).location.isPort = false ∨ (s.entry a).origin = .learned)
    (ho : e.origin = .static ∨ e.location.isSegment = true) (hl : e.location = .none ∨ e.location.isSegment = true) (h : I s) :
    I (s.setEntry a e) := by
  refine c.entry _ _ _ ⟨hh, ho.imp_right .inl, .inr ⟨hp.imp_left onBusyPort_of_not_isPort, ?_, fun _ _ _ => ?_⟩⟩ h
  · rintro e'; simp [e', Location.isSegment] at hl
  · cases hx : e.location <;> simp_all [Location.isPort, Location.isSegment]

theorem learn (g : Seg) (a : Address) (h : I s) : I (s.learn g a) := by
  have hg : (segLocation g).isSegment = true := by cases g <;> rfl
  unfold State.learn
  dsimp only
  split
  · next hn => exact c.place rfl (.inl (by rw [hn]; rfl)) (.inr hg) (.inr hg) h
  · split
    · exact c.age _ _ h
    · split
      · next hm =>
        exact c.evaluate _ (c.raise _ _ _ (c.place rfl (.inr hm.1) (.inr hg) (.inr hg) h))
      · exact c.addScore _ _ (c.raise _ _ _ h)

theorem ageEntry (a : Address) (h : I s) : I (s.ageEntry a) := by
  unfold State.ageEntry
  dsimp only
  split
  · split
    · next ho =>
      exact c.clearKeeping _ (c.raise _ _ _ (c.place rfl (.inr ho.1) (.inl rfl) (.inl rfl) h))
    · exact c.age _ _ h
  · exact h

theorem clearEntry (a : Address) (hb : s.onBusyPort a = false) (h : I s) : I (s.clearEntry a) := by
  refine c.clearObject _ _ (c.entry _ _ _ ⟨rfl, .inl rfl, .inr ⟨.inl hb, by simp [Entry.vacated], fun _ _ _ => rfl⟩⟩ h)

theorem writeEntry (a : Address) (l : Location) (x : StandIn) (hl : l ≠ .printer) (ht : s.takenByOther a l = false)
    (hb : l = (s.entry a).location ∨ s.onBusyPort a = false) (h : I s) : I (s.writeEntry a l x) := by
  have h1 : I (s.setEntry a { s.entry a with location := l, origin := .static, standIn := x, age := 0 }) := by
    refine c.entry _ _ _ ⟨rfl, .inl rfl, hb.imp_right fun hb => ⟨.inl hb, hl, fun b hne hb => ?_⟩⟩ h
    cases l with
    | port n =>
      simp only [State.takenByOther, List.any_eq_false, Bool.and_eq_true, bne_iff_ne, beq_iff_eq, not_and] at ht
      exact absurd hb (ht b (List.mem_finRange b) hne)
    | none | segA | segB | printer => rfl
  unfold State.writeEntry
  dsimp only
  split
  · exact h1
  · split
    · exact c.notify _ _ (c.clearKeeping _ h1)
    · exact c.clearKeeping _ h1

/-- A law that meets these clauses meets those of a law that the health objects do bear on. -/
theorem steady : Steady I where
  blind s t e h := c.blind s t e.entries e.primaryHeld e.ports e.spool e.engine h
  tick := c.tick
  restartBlocks := c.restartBlocks
  restartTraffic := c.restartTraffic
  writeEntry _ a l x hl ht hb h := c.writeEntry a l x hl ht hb h
  clearEntry _ a hb h := c.clearEntry a hb h
  makePrinter := c.makePrinter
  setQuota _ src n h := c.setQuota src n h
  learn _ g a h := c.learn g a h
  ageEntry _ a h := c.ageEntry a h
  port s n q hf h := c.port s n q hf.passes h
  enablePort _ n hs h := c.enablePort n hs h
  enterStandby _ n _ h := c.enterStandby n h
  limits s _ _ _ _ h := Steady.foldl (fun _ o => c.evaluate o) _ (c.blind s _ rfl rfl rfl rfl rfl h)
  addScore _ o w _ h := c.addScore o w h
  probeCredit _ o h := c.probeCredit o h
  decay _ o h := c.decay o h
  forceIsolate _ o _ h := c.forceIsolate o h
  clearKeeping _ o h := c.clearKeeping o h
  setMayIsolate _ o f _ h := c.setMayIsolate o f h
  copyBegins s g _ _ _ h := by cases g <;> exact c.blind s _ rfl rfl rfl rfl rfl h
  copyHeld s _ _ h := c.blind s _ rfl rfl rfl rfl rfl h
  copyGone s g _ _ _ h := by cases g <;> exact c.blind s _ rfl rfl rfl rfl rfl h
  replyBegins s _ _ _ h := c.blind s _ rfl rfl rfl rfl rfl h
  replyEnds s g _ h := by cases g <;> exact c.blind s _ rfl rfl rfl rfl rfl h
  probeGone s _ h := c.blind s _ rfl rfl rfl rfl rfl h
  probePending s _ _ _ _ h := c.blind s _ rfl rfl rfl rfl rfl h
  probeHears s _ _ _ _ h := c.blind s _ rfl rfl rfl rfl rfl h
  startProbe s _ _ _ _ h := c.blind s _ (by simp) (by simp) (by simp) (by simp) (by simp) h
  probeSent s _ _ h := c.blind s _ (by simp) (by simp) (by simp) (by simp) (by simp) h
  printProfile := c.printProfile
  enableEngine := c.enableEngine
  disableEngine := c.disableEngine
  stopEngine := c.stopEngine
  resumePrinter := c.resumePrinter
  lineChanged := c.lineChanged
  characterTaken := c.characterTaken
  characterLost := c.characterLost
  grantChanged := c.grantChanged
  releaseExpired := c.releaseExpired
  openJob := c.openJob
  removeJob := c.removeJob
  enqueue := c.enqueue
  offerJobs := c.offerJobs
  setJobState := c.setJobState
  promote := c.promote

end Calm

end Sys2Proof.Machine
end

section
/-! PROOF. How a law outlasts every step when the engine's record does not bear on it: of what the engine does, there is left what it
does to the jobs of the table. -/

namespace Sys2Proof.Machine

/-- Two records of a job agree in what the spool's rules read: id, source, characters and blocks, and whether it is OPEN. -/
def Job.SameStock (j k : Job) : Prop :=
  k.id = j.id ∧ k.source = j.source ∧ k.count = j.count ∧ k.chain = j.chain ∧ (k.state = .opened ↔ j.state = .opened)

/-- A job stands at the head of the queue, QUEUED. -/
def State.toFront (s : State) (j : Job) : State :=
  let s1 := s.mapJob j.id fun k => { k with state := .queued }
  { s1 with sm := { s1.sm with queue := j.id :: s1.sm.queue.filter fun i => i != j.id } }

/-- The clauses of a law of the directory, the ports and the spool. -/
structure Still (I : State → Prop) : Prop where
  blind : ∀ s t, t.sd.entries = s.sd.entries → t.sd.primaryHeld = s.sd.primaryHeld → t.ports = s.ports → t.sm = s.sm →
    I s → I t
  tick : ∀ s, I s → I s.tick
  restartBlocks : ∀ s, I s → I s.restartBlocks
  restartTraffic : ∀ s, I s → I s.restartTraffic
  entry : ∀ s a e, s.Reroutes a e → I s → I (s.setEntry a e)
  makePrinter : ∀ s a, (s.entry a).location.isPort = false → I s → I (s.makePrinter a)
  port : ∀ s n q, (s.port n).Passes q → I s → I (s.setPort n q)
  portDown : ∀ s n q, q.listsEmpty → q.headSent = false → q.tx.busy = false → I s → I ((s.setPort n q).discardOpen n)
  settings : ∀ s t m, I s → I { s with sm := { s.sm with idleTimeout := t, lowMark := m } }
  mapJob : ∀ s id f, (∀ j ∈ s.sm.jobs, j.id = id → j.SameStock (f j)) → I s → I (s.mapJob id f)
  setState : ∀ s j st, j ∈ s.sm.jobs → j.state ≠ .opened → st ≠ .opened → I s →
    I (s.mapJob j.id fun k => { k with state := st })
  toFront : ∀ s j, j ∈ s.sm.jobs → I s → I (s.toFront j)
  openJob : ∀ s src k p, s.openJob? src = none → s.tableRoom src = true →
    (∀ a, src = .desk a → ∃ n, (s.entry a).location = .port n ∧ (s.port n).state.mayBegin = true) → I s → I (s.openJob src k p)
  removeJob : ∀ s j e, j ∈ s.sm.jobs → I s → I (s.removeJob j e)
  enqueue : ∀ s j, j ∈ s.sm.jobs → j.state = .opened → I s → I (s.enqueue j)
  promote : ∀ s j, j ∈ s.sm.jobs → I s → I (s.promote j)

/-- The clauses of a law that the engine's record leaves alone: what is left of all that the engine does is what it does to the jobs of
the table and to the desks that hear of them. -/
structure EngineBlind (I : State → Prop) : Prop where
  blind : ∀ s pe au, I s → I { s with pe, au }
  notice : ∀ s n x, (s.port n).state = .online → I s → I (s.mapPort n fun p => p.queueNotice x)
  mapJob : ∀ s id f, (∀ j ∈ s.sm.jobs, j.id = id → j.SameStock (f j)) → I s → I (s.mapJob id f)
  setState : ∀ s j st, j ∈ s.sm.jobs → j.state ≠ .opened → st ≠ .opened → I s →
    I (s.mapJob j.id fun k => { k with state := st })
  toFront : ∀ s j, j ∈ s.sm.jobs → I s → I (s.toFront j)
  removeJob : ∀ s j e, j ∈ s.sm.jobs → I s → I (s.removeJob j e)

variable {I : State → Prop} {s : State}

theorem nextQueued_spec {j : Job} (h : s.nextQueued = some j) : s.job? j.id = some j ∧ j.state = .queued := by
  obtain ⟨l, id, r, -, hf, -⟩ := List.findSome?_eq_some_iff.mp h
  obtain ⟨hj, hq⟩ := Option.filter_eq_some_iff.mp hf
  exact ⟨job?_self hj, by simpa using hq⟩

theorem printing?_mem {j : Job} (h : s.printing? = some j) : j ∈ s.sm.jobs := by
  obtain ⟨_, -, hj⟩ := Option.bind_eq_some_iff.mp h
  exact job?_mem hj

namespace EngineBlind

variable (c : EngineBlind I)
include c

theorem mapPe (f : Engine → Engine) (h : I s) : I (s.mapPe f) := c.blind s _ _ h

theorem notify (n : PortNo) (x : Notice) (h : I s) : I (s.notify n x) := by
  unfold State.notify
  split
  · exact c.notice _ _ _ ‹_› h
  · exact h

theorem notifyJob (src : Source) (id : Nat) (x : NoticeState) (p : Nat) (h : I s) : I (s.notifyJob src id x p) := by
  unfold State.notifyJob
  split
  · exact h
  · split
    · exact c.notify _ _ h
    · exact h

/-- The position, the page mark and the copies of a job are its own. -/
theorem progress (id : Nat) (p m : Job → Option Position) (d : Job → Nat) (h : I s) :
    I (s.mapJob id fun j => { j with position := p j, pageMark := m j, copiesDone := d j }) :=
  c.mapJob _ _ _ (fun _ _ _ => ⟨rfl, rfl, rfl, rfl, Iff.rfl⟩) h

theorem tryStrobe (h : I s) : I s.tryStrobe := by
  unfold State.tryStrobe
  split
  · exact c.mapPe _ h
  · exact h

theorem characterDue (h : I s) : I s.characterDue := by
  unfold State.characterDue
  split
  · exact c.mapPe _ h
  · exact c.tryStrobe (c.mapPe _ h)

theorem copyStart (id : Nat) (h : I s) : I (s.copyStart id) := c.mapPe _ (c.progress _ _ _ _ h)

theorem toPageMark (id : Nat) (h : I s) : I (s.toPageMark id) := c.mapPe _ (c.progress _ _ _ _ h)

theorem enterRunning (h : I s) : I s.enterRunning := by
  unfold State.enterRunning
  dsimp only
  split
  · exact c.mapPe _ h
  · refine c.characterDue ?_
    split
    · exact c.copyStart _ (c.mapPe _ h)
    · exact c.toPageMark _ (c.mapPe _ h)

theorem selectIfIdle (h : I s) : I s.selectIfIdle := by
  unfold State.selectIfIdle
  split
  · split
    · next j hj =>
      obtain ⟨hj, hq⟩ := nextQueued_spec hj
      have h1 := c.setState s j .printing (job?_mem hj) (by simp [hq]) (by simp) h
      unfold State.select
      dsimp only
      have h2 : I (((s.mapJob j.id fun k => { k with state := .printing }).mapPe fun e =>
          { e with job := some j.id, shared := e.profile.shared }).notifyJob j.source j.id .printing (s.queuePosition j.id)) :=
        c.notifyJob _ _ _ _ (c.mapPe _ h1)
      split
      · split
        · exact c.enterRunning (c.mapPe _ h2)
        · exact c.mapPe _ h2
      · exact c.enterRunning h2
    · exact h
  · exact h

theorem enterByReadiness (h : I s) : I s.enterByReadiness := c.selectIfIdle (c.mapPe _ h)

theorem proceed (h : I s) : I s.proceed := by
  unfold State.proceed
  dsimp only
  split
  · exact c.mapPe _ (c.mapPe _ h)
  · split
    · exact c.mapPe _ (c.mapPe _ h)
    · exact c.enterByReadiness (c.mapPe _ h)

theorem endJob (e : Ending) (h : I s) : I (s.endJob e) := by
  unfold State.endJob
  split
  · exact c.proceed (c.removeJob _ _ _ (printing?_mem ‹_›) h)
  · exact c.proceed h

theorem returnToQueue (h : I s) : I s.returnToQueue := by
  unfold State.returnToQueue
  dsimp only
  split
  · exact c.mapPe _ (c.mapPe _ h)
  · next j hj =>
    exact c.mapPe _ (c.mapPe _ (c.notifyJob _ _ _ _ (c.toFront s j (printing?_mem hj) h)))

theorem afterHandshake (u : Option StallReason) (h : I s) : I (s.afterHandshake u) := by
  unfold State.afterHandshake
  split
  · exact c.returnToQueue h
  · split
    · exact c.mapPe _ h
    · split
      · exact c.mapPe _ h
      · split
        · exact c.mapPe _ h
        · exact c.characterDue h

theorem copyEnd (j : Job) (h : I s) : I (s.copyEnd j) := by
  unfold State.copyEnd
  split
  · exact c.afterHandshake _ (c.copyStart _ (c.progress _ _ _ _ h))
  · exact c.endJob _ h

theorem textTaken (j : Job) (p : Position) (h : I s) : I (s.textTaken j p) := by
  unfold State.textTaken
  dsimp only
  split
  · split
    · exact c.afterHandshake _ (c.mapPe _ h)
    · exact c.copyEnd _ h
  · exact c.afterHandshake _ (c.progress _ _ _ _ h)

theorem handshakeEnds (h : I s) : I s.handshakeEnds := c.mapPe _ h

theorem characterTaken (h : I s) : I s.characterTaken := by
  have h1 := c.handshakeEnds h
  unfold State.characterTaken
  dsimp only
  split
  · exact c.endJob _ h1
  · split
    · exact h1
    · split
      · exact c.copyEnd _ h1
      · exact c.textTaken _ _ h1
      · exact h1

theorem characterLost (h : I s) : I s.characterLost := by
  have h1 := c.handshakeEnds h
  unfold State.characterLost
  dsimp only
  split
  · exact c.endJob _ h1
  · exact c.afterHandshake _ h1

theorem raise (x : Cause) (m : Nat) (d : Detail) (h : I s) : I (s.raise x m d) := c.blind s _ _ h

theorem reportEngine (e : EngineState) (h : I s) : I (s.reportEngine e) := by
  unfold State.reportEngine
  split
  · exact c.raise _ _ _ h
  · exact h

theorem resume (h : I s) : I s.resume := by rw [State.resume_eq]; exact c.blind s _ _ h

theorem resumeFromMark (h : I s) : I s.resumeFromMark := by
  refine c.resume ?_
  unfold State.rewind
  split
  · exact c.toPageMark _ h
  · exact h

theorem resumeByPolicy (h : I s) : I s.resumeByPolicy := by
  unfold State.resumeByPolicy
  split
  · exact c.resume h
  · exact c.resumeFromMark h

theorem lineChanged (l : PrinterLine) (x : Bool) (h : I s) : I (s.lineChanged l x) := by
  have h1 : I (s.mapPe fun e => e.setLine l x) := c.mapPe _ h
  unfold State.lineChanged
  dsimp only
  split
  iterate 4 exact h1
  · split
    · exact h1
    · exact c.mapPe _ h1
  · split
    · exact c.enterByReadiness h1
    · exact h1
  · split
    · split
      · exact c.mapPe _ h1
      · exact c.tryStrobe h1
    · exact h1
  · split
    · exact c.resumeByPolicy h1
    · exact h1
  · split
    · exact c.resumeByPolicy h1
    · exact h1
  · split
    · exact c.resumeFromMark h1
    · exact h1

theorem grantChanged (x : Bool) (h : I s) : I (s.grantChanged x) := by
  have h1 : I (s.mapPe fun e => { e with pgnt := x }) := c.mapPe _ h
  unfold State.grantChanged
  dsimp only
  split
  · split
    · split
      · exact c.enterRunning h1
      · exact h1
    · split
      · exact c.tryStrobe h1
      · split
        · exact c.mapPe _ h1
        · exact c.mapPe _ h1
    · split
      · exact c.characterDue (c.mapPe _ h1)
      · exact h1
    · exact h1
  · exact h1

theorem stopEngine (h : I s) : I s.stopEngine := by
  unfold State.stopEngine
  split
  · exact c.mapPe _ h
  · exact c.reportEngine _ (c.endJob _ h)

theorem disableEngine (h : I s) : I s.disableEngine := by
  unfold State.disableEngine
  split
  · exact h
  iterate 3 exact c.reportEngine _ (c.mapPe _ h)
  all_goals
    split
    · exact c.mapPe _ h
    · exact c.reportEngine _ (c.returnToQueue h)

theorem enableEngine (h : I s) : I s.enableEngine := by
  unfold State.enableEngine
  split
  · refine c.reportEngine _ ?_
    split
    · exact c.mapPe _ h
    · exact c.enterByReadiness h
  · exact h

theorem resumePrinter (h : I s) : I s.resumePrinter := by
  unfold State.resumePrinter
  split
  · exact c.reportEngine _ (c.resumeFromMark h)
  · exact h

theorem releaseExpired (h : I s) : I s.releaseExpired := by
  have h1 : I (s.mapPe fun e => { e with releaseTimer := none }) := c.mapPe _ h
  unfold State.releaseExpired
  dsimp only
  split
  · exact c.enterByReadiness h1
  · exact h1

theorem offerJobs (h : I s) : I s.offerJobs := c.reportEngine _ (c.selectIfIdle h)

end EngineBlind

namespace Still

variable (c : Still I)
include c

theorem engineBlind : EngineBlind I where
  blind s _ _ h := c.blind s _ rfl rfl rfl rfl h
  notice _ _ x hs h := c.port _ _ _ (Port.follows_queueNotice x hs).passes h
  mapJob := c.mapJob
  setState := c.setState
  toFront := c.toFront
  removeJob := c.removeJob

/-- A law that meets these clauses meets those of a law that the engine does bear on. -/
theorem calm : Calm I where
  blind s t he hp hn hm _ h := c.blind s t he hp hn hm h
  tick := c.tick
  restartBlocks := c.restartBlocks
  restartTraffic := c.restartTraffic
  entry := c.entry
  makePrinter := c.makePrinter
  port := c.port
  portDown := c.portDown
  printProfile _ _ _ _ h := c.blind _ _ (by rfl) (by rfl) (by rfl) (by rfl) (c.settings _ _ _ h)
  enableEngine _ h := c.engineBlind.enableEngine h
  disableEngine _ h := c.engineBlind.disableEngine h
  stopEngine _ h := c.engineBlind.stopEngine h
  resumePrinter _ h := c.engineBlind.resumePrinter h
  lineChanged _ _ _ h := c.engineBlind.lineChanged _ _ h
  characterTaken _ _ h := c.engineBlind.characterTaken h
  characterLost _ _ h := c.engineBlind.characterLost h
  grantChanged _ _ h := c.engineBlind.grantChanged _ h
  releaseExpired _ h := c.engineBlind.releaseExpired h
  openJob := c.openJob
  removeJob s j e hj _ h := c.removeJob s j e hj h
  enqueue := c.enqueue
  offerJobs _ h := c.engineBlind.offerJobs h
  setJobState s j st x hj hs ht h :=
    c.engineBlind.notifyJob _ _ _ _ (c.setState s j st hj (by rcases hs with e | e <;> simp [e]) (by rcases ht with e | e <;> simp [e]) h)
  promote := c.promote

end Still

end Sys2Proof.Machine
end

section
/-! PROOF. The reports and the spool memory through every step (R161, R84, R85, R91). -/

namespace Sys2Proof.Machine

variable {s t : State}

/-! ### The report queue -/

/-- Nothing but the reading of a report and a reset does more to the Alert Unit's queue than hand it occurrences. -/
theorem kept_reportLaw : Kept ReportLaw where
  link _ _ h := h
  rest _ _ h := h
  tick s h := by unfold ReportLaw State.tick State.sendFills at *; exact h
  restartBlocks _ _ := ⟨Nat.zero_le _, rfl⟩
  restartTraffic _ _ := ⟨Nat.zero_le _, rfl⟩
  writeEntry s a l x _ _ _ h := h.of_raised (by simp [Raised.refl])
  clearEntry s a _ h := h.of_raised (by simp [Raised.refl])
  makePrinter s a _ h := h.of_raised (by simp [Raised.refl])
  setQuota s src n _ h := h.of_raised (by simp [Raised.refl])
  trunkProfile s p n h := h.of_raised (by simp [Raised.refl])
  portProfile s n p _ h := h.of_raised (by simp [Raised.refl])
  enablePort s n _ h := h.of_raised (by simp [Raised.refl])
  stopPort s n h := h.of_raised (by simp [Raised.refl])
  limits s l _ _ _ h := h.of_raised (by simp [Raised.refl])
  weights _ _ h := h
  forceIsolate s o _ h := h.of_raised (by simp [Raised.refl])
  clearKeeping s o h := h.of_raised (by simp [Raised.refl])
  setMayIsolate s o f _ h := h.of_raised (by simp [Raised.refl])
  printProfile _ _ _ _ h := h
  enableEngine s h := h.of_raised (by simp [Raised.refl])
  disableEngine s h := h.of_raised (by simp [Raised.refl])
  resumePrinter s h := h.of_raised (by simp [Raised.refl])
  holdJob s j _ _ h := h.of_raised (by simp [Raised.refl])
  releaseJob s j _ _ h := h.of_raised (by simp [Raised.refl])
  cancelJob s j _ h := h.of_raised (by simp [Raised.refl])
  promote s j _ h := h.of_raised (by simp [Raised.refl])
  alerts _ _ _ h := h
  flags _ _ h := h
  readReport s r q hq h := by
    obtain ⟨hl, hn⟩ := h
    rw [hq] at hl hn
    exact ⟨by simp at hl ⊢; omega, numbered_tail _ _ _ hn⟩
  second _ h := h
  minute s h := h.of_raised (by simp [Raised.refl])
  activity s g _ h := h.of_raised (by simp [Raised.refl])
  syncMatch s g r _ _ h := h.of_raised (by simp [Raised.refl])
  addressTaken s g k a q h := h.of_raised (by simp [Raised.refl])
  trunkCharacter s g c h := h.of_raised (by simp [Raised.refl])
  burstEnds s g i h := h.of_raised (by simp [Raised.refl])
  idleSeen s g h := h.of_raised (by simp [Raised.refl])
  jabbers s g h := h.of_raised (by simp [Raised.refl])
  startHeld s q h := h.of_raised (by simp [Raised.refl])
  transmitterEnds s g h := h.of_raised (by simp [Raised.refl])
  pollMissExpiry s g w _ h := h.of_raised (by simp [Raised.refl])
  replyStart s t q _ _ h := h.of_raised (s.raised_startReply t (.refl _))
  replyDeadline _ _ _ h := h
  fillExhausted s t n _ h := h.of_raised (by simp [Raised.refl])
  portCharacter s n v e h := h.of_raised (by simp [Raised.refl])
  portStartBit s n h := h.of_raised (by simp [Raised.refl])
  gapExpires s n h := h.of_raised (by simp [Raised.refl])
  breakBegins s n h := h.of_raised (by simp [Raised.refl])
  breakEnd s n h := h.of_raised (by simp [Raised.refl])
  peerAsserted s n t ht h := by
    refine h.of_raised ?_
    cases ht
    (repeat' split) <;> simp [Raised.refl]
  peerDeasserted s n t ht h := by cases ht; exact h.of_raised (by simp [Raised.refl])
  detach s n _ _ h := h.of_raised (by simp [Raised.refl])
  frameSent s n f _ h := h.of_raised (by simp [Raised.refl])
  idleExpired s j _ _ h := h.of_raised (by simp [Raised.refl])
  lineChanged s l x _ h := h.of_raised (by simp [Raised.refl])
  characterTaken s _ h := h.of_raised (by simp [Raised.refl])
  characterLost s _ _ h := h.of_raised (by simp [Raised.refl])
  grantChanged s x _ h := h.of_raised (by simp [Raised.refl])
  releaseExpired s _ h := h.of_raised (by simp [Raised.refl])
  decayExpiry s h := h.of_raised (raised_foldl (fun t o ht => by simp [ht]) _ _ (.refl _))
  probeExpiry s h := h.of_raised (by simp [Raised.refl])
  probeStart s k t q _ _ h := h.of_raised (by simp [Raised.refl])
  probeDeadline s t _ h := h.of_raised (by simp [Raised.refl])
  probeWindow s w k t _ h := h.of_raised (by simp [Raised.refl])

/-! ### The spool memory -/

/-- Nothing but an admission writes the spool memory. -/
theorem still_memory (P : Memory → Prop) : Still fun u => P u.sm.memory where
  blind s t _ _ _ hm h := by rwa [hm]
  tick s h := h
  restartBlocks s h := by simpa only [State.restartBlocks, Spool.emptied] using h
  restartTraffic s h := by simpa only [State.restartTraffic, Spool.emptied] using h
  entry s a e _ h := by simpa
  makePrinter s a _ h := by simpa
  port s n q _ h := by simpa
  portDown s n q _ _ _ h := by
    unfold State.discardOpen State.removeJob
    (repeat' split) <;> simpa
  settings _ _ _ h := h
  mapJob _ _ _ _ h := h
  setState _ _ _ _ _ _ h := h
  toFront _ _ _ h := h
  openJob s src k p _ _ _ h := by unfold State.openJob; simpa
  removeJob s j e _ h := by unfold State.removeJob; simpa
  enqueue s j _ _ h := by unfold State.enqueue; simpa [State.mapJob]
  promote s j _ h := by
    unfold State.promote
    dsimp only
    (repeat' split) <;> simpa [State.mapJob]

/-- The spool memory is the one given. -/
structure HasMemory (m : Memory) (u : State) : Prop where
  memory : u.sm.memory = m

theorem hasMemory_eq (m : Memory) : HasMemory m = fun u : State => u.sm.memory = m :=
  funext fun _ => propext ⟨HasMemory.memory, .mk⟩

theorem steady_hasMemory (m : Memory) : Steady (HasMemory m) := hasMemory_eq m ▸ (still_memory (· = m)).calm.steady

theorem commandOf_keeps_memory (m : Memory) (code : Nat) (args : List Byte) :
    ∀ s, HasMemory m s → HasMemory m (commandOf code args s).2 := by
  have k := steady_hasMemory m
  apply commandOf_cases (P := fun c => ∀ s, HasMemory m s → HasMemory m (c s).2)
  case portStandby => intro x s h; unfold portStandbyCommand; split; exacts [h, k.stopPort _ h]
  case setHealthLimits =>
    intro q r p x y z s h
    unfold setHealthLimitsCommand
    split
    · exact h
    · next hl =>
      obtain ⟨hr, hs, hi, -⟩ := healthLimitsOf_spec hl
      dsimp only [accept]
      exact k.limits _ _ hr hs hi h
  case forceIsolate =>
    intro x s h
    unfold forceIsolateCommand
    (repeat' split)
    exacts [h, k.forceIsolate _ _ ‹_› h, h]
  case setMayIsolate =>
    intro x y s h
    unfold setMayIsolateCommand
    (repeat' split)
    exacts [h, h, k.setMayIsolate _ _ _ ‹_› h, h]
  case printerEnable => exact fun s h => k.enableEngine _ h
  case printerDisable => exact fun s h => k.disableEngine _ h
  case resumePrinter => exact fun s h => k.resumePrinter _ h
  case holdJob =>
    refine fun x s h => onJob_keeps (I := HasMemory m) _ _ (fun j hj h => ?_) h
    split
    · next hs => exact k.setJobState _ _ _ _ (job?_mem hj) (.inl hs) (.inr rfl) h
    all_goals exact h
  case releaseJob =>
    refine fun x s h => onJob_keeps (I := HasMemory m) _ _ (fun j hj h => ?_) h
    split
    · next hs => exact k.offerJobs _ (k.setJobState _ _ _ _ (job?_mem hj) (.inr hs) (.inl rfl) h)
    all_goals exact h
  case cancelJob =>
    exact fun x s h => onJob_keeps (I := HasMemory m) _ _ (fun j hj h => k.cancelJob _ (job?_mem hj) h) h
  case promoteJob =>
    exact fun x s h => onJob_keeps (I := HasMemory m) _ _ (fun j hj h => k.promote _ _ (job?_mem hj) h) h
  all_goals
    intros
    rename_i s h
    refine ⟨?_⟩
    simp only [readStatusCommand, readEntryCommand, writeEntryCommand, clearEntryCommand, setPrinterAddressCommand,
      setQuotaCommand, setTrunkProfileCommand, setPortProfileCommand, portEnableCommand, readPortCommand, setWeightsCommand,
      readHealthCommand, forceReadmitCommand, setPrintProfileCommand, readPrinterCommand, listJobsCommand, readJobCommand,
      onJob, setAlertsCommand, clearCausesCommand, readReportCommand, restartCommand, accept, refuse, answer]
    (repeat' split) <;> simp [h.memory]

/-- No command of the link admits a text. -/
theorem command_memory (code : Nat) (args : List Byte) (s : State) : (commandOf code args s).2.sm.memory = s.sm.memory :=
  (commandOf_keeps_memory _ code args s ⟨rfl⟩).memory

/-- A text is admitted at a reply's start point, or by a character that may complete a PRINT_DATA frame; nothing else writes the spool
memory (R91). -/
theorem exec_memory {c : Instr} {s t : State}
    (hport : ∀ n v pb sb, c ≠ .portCharacterTaken n v pb sb ∧ (c = .frameComplete n v pb sb → (s.port n).rx.kind ≠ kindPrintData))
    (hreply : ∀ quiet, c ≠ .replyStartPoint quiet) (ht : exec c s = .next t) : HasMemory s.sm.memory t := by
  have k := steady_hasMemory s.sm.memory
  have h : HasMemory s.sm.memory s := ⟨rfl⟩
  have restart (u : State) (hu : HasMemory s.sm.memory u) : HasMemory s.sm.memory u.executeRestart := by
    unfold State.executeRestart
    split
    · exact ⟨(k.restartBlocks _ hu).memory⟩
    · exact k.restartTraffic _ hu
    · exact hu
  have ends (b : Bool) : HasMemory s.sm.memory (s.endTransaction b) := by
    refine ⟨(restart _ ?_).memory⟩
    split <;> exact ⟨rfl⟩
  cases hw : spelling c with
  | some w => rw [exec_of_spelling hw] at ht; cases ht; exact ⟨(commandOf_keeps_memory _ _ _ s h).memory⟩
  | none =>
    cases c
    all_goals try (cases hw; done)
    all_goals dsimp only [exec] at ht
    case hardReset => cases ht; exact ⟨(k.restartBlocks _ h).memory⟩
    case i2cStart => cases ht; exact ends _
    case i2cStop => cases ht; exact ends _
    case addressByte => cases ht; split <;> exact ⟨rfl⟩
    case leadByte =>
      cases ht
      split
      · exact takeLead_keeps (I := HasMemory s.sm.memory) (fun _ _ h => ⟨h.memory⟩)
          (fun _ _ u hu => commandOf_keeps_memory _ _ _ u hu) _ h
      · exact h
    case argumentByte =>
      cases ht
      split
      · exact takeArgument_keeps (I := HasMemory s.sm.memory) (fun _ _ h => ⟨h.memory⟩)
          (fun _ _ u hu => commandOf_keeps_memory _ _ _ u hu) _ h
      · exact h
    case discardByte => cases ht; split <;> exact ⟨rfl⟩
    case readByte => cases ht; split <;> exact ⟨rfl⟩
    case addressCharacterTaken => cases ht; exact k.addressTaken _ _ _ _ h
    case burstEnd => cases ht; exact k.burstEnds _ _ h
    case jabber => cases ht; exact k.jabbers _ h
    case forwardHeldStart => cases ht; exact k.startHeld _ h
    case transmitterBurstEnd => cases ht; exact k.transmitterEnds _ h
    case pollMissWindowExpiry => cases ht; split; exacts [h, k.pollMiss _ _ (k.setSeg _ _ h)]
    case replyStartPoint q => exact absurd rfl (hreply q)
    case replyDeadlineExpiry => cases ht; split <;> exact ⟨rfl⟩
    case fillBudgetExhausted => cases ht; split <;> exact ⟨rfl⟩
    case minuteTimerExpiry => exact Host.Outcome.next.inj ht ▸ Steady.foldl k.ageEntry _ ⟨rfl⟩
    case portCharacterTaken n v p x => exact absurd rfl (hport n v p x).1
    case frameComplete n v p x =>
      cases ht
      split
      · exact k.portCharacter (fun e => absurd e ((hport n v p x).2 rfl)) _ _ h
      · exact h
    case frameGapExpiry => cases ht; exact k.gapExpires _ h
    case breakRecognized => cases ht; exact k.breakBegins _ h
    case breakEnd => cases ht; exact ⟨rfl⟩
    case peerReadyAsserted => exact k.peerAsserted _ ht h
    case peerReadyDeasserted => exact k.peerDeasserted _ ht h
    case detachTimerExpiry => cases ht; split; exacts [⟨by simp⟩, h]
    case portFrameSent => cases ht; split; exacts [k.frameSent _ _ ‹_› h, h, h]
    case jobIdleTimeout =>
      cases ht
      split
      · split
        · next hj ho => exact k.idleExpired _ (job?_mem hj) ho.1 h
        · exact h
      · exact h
    case printerLineChange => cases ht; split; exacts [h, k.reportEngine _ (k.lineChanged _ _ _ h)]
    case packEdge => cases ht; split; exacts [k.reportEngine _ (k.characterTaken _ ‹_› h), h]
    case ackTimerExpiry => cases ht; split; exacts [k.reportEngine _ (k.characterLost _ (And.left ‹_›) h), h]
    case pgntChange => cases ht; split; exacts [h, k.reportEngine _ (k.grantChanged _ _ h)]
    case releaseTimerExpiry => cases ht; split; exacts [k.reportEngine _ (k.releaseExpired _ h), h]
    case decayTimerExpiry => exact Host.Outcome.next.inj ht ▸ Steady.foldl k.decay _ ⟨rfl⟩
    case probeTimerExpiry => exact Host.Outcome.next.inj ht ▸ k.probeExpiry h
    case probePollStart =>
      cases ht
      split
      · split
        · exact ⟨by simp⟩
        · exact h
      · exact h
    case probePollDeadline => cases ht; split; exacts [k.probeOutcome _ _ (by simp [State.probeSending, *]) h, h]
    case probeWindowExpiry => cases ht; split; exacts [k.probeOutcome _ _ (by simp [State.probeSending, *]) h, h]
    case secondsCounterTick => cases ht; exact ⟨rfl⟩
    case lineActivityStart => cases ht; split; exacts [k.setSeg _ _ h, h]
    case syncMatch => cases ht; split; exacts [k.setSeg _ _ h, h]
    case trunkCharacterTaken => cases ht; exact k.characterOnTrunk _ _ h
    case idleRecognized => cases ht; exact k.idleSeen _ h
    case portStartBit => cases ht; split <;> exact ⟨rfl⟩

end Sys2Proof.Machine
end

section
/-! PROOF. The places of a job's characters in the spool memory (R84, R85, R91). -/

namespace Sys2Proof.Machine

variable {s t : State}

/-- What an admission adds to a chain is what the text needs beyond the blocks that the job holds (R84, R91). -/
theorem blocks_add_blocksNeeded (c n : Nat) : (c + n + 63) / 64 = (c + 63) / 64 + blocksNeeded c n := by
  unfold blocksNeeded; omega

/-- The block of the place of a character. -/
theorem chainAddress_block {chain : List (Fin 512)} {i : Nat} (h : i / 64 < chain.length) :
    chainAddress chain i = 64 * (chain[i / 64]).val + i % 64 := by
  simp [chainAddress, List.getElem?_eq_getElem h]

/-- Two places are the same only in the same block, at the same offset. -/
theorem chainAddress_inj {l m : List (Fin 512)} {i k : Nat} (hi : i / 64 < l.length) (hk : k / 64 < m.length)
    (h : chainAddress l i = chainAddress m k) : l[i / 64] = m[k / 64] ∧ i % 64 = k % 64 := by
  rw [chainAddress_block hi, chainAddress_block hk] at h
  exact ⟨Fin.ext (by omega), by omega⟩

/-- The places of a text in a chain without a repeated block are distinct. -/
theorem chainAddress_ne {chain : List (Fin 512)} (hn : chain.Nodup) {i k : Nat} (hik : i < k) (hk : k / 64 < chain.length) :
    chainAddress chain i ≠ chainAddress chain k := fun h => by
  obtain ⟨hb, ho⟩ := chainAddress_inj (by omega) hk h
  have := (List.Nodup.getElem_inj_iff hn).mp hb
  omega

/-- A place in the chain that stood before stays the place. -/
theorem chainAddress_append {chain more : List (Fin 512)} {i : Nat} (h : i / 64 < chain.length) :
    chainAddress (chain ++ more) i = chainAddress chain i := by
  simp [chainAddress, List.getElem?_append_left h]

namespace SpoolLaw

variable (h : SpoolLaw s)
include h

/-- No block stands twice in the free list and the chains together. -/
theorem nodup : (s.sm.free ++ s.sm.jobs.flatMap Job.chain).Nodup := h.blocks.nodup_iff.mpr (List.nodup_finRange 512)

theorem free_nodup : s.sm.free.Nodup := (List.nodup_append.mp h.nodup).1

/-- A job's blocks are not free. -/
theorem not_free {j : Job} (hj : j ∈ s.sm.jobs) {b : Fin 512} (hb : b ∈ j.chain) : b ∉ s.sm.free := fun hf =>
  (List.nodup_append.mp h.nodup).2.2 b hf b (List.mem_flatMap.mpr ⟨j, hj, hb⟩) rfl

theorem chain_nodup {j : Job} (hj : j ∈ s.sm.jobs) : j.chain.Nodup :=
  (List.nodup_flatMap.mp (List.nodup_append.mp h.nodup).2.1).1 j hj

theorem jobs_nodup : s.sm.jobs.Nodup := h.ids.1.of_map _

/-- Two jobs share no block. -/
theorem disjoint {j k : Job} (hj : j ∈ s.sm.jobs) (hk : k ∈ s.sm.jobs) (hn : j ≠ k) {b : Fin 512} (hb : b ∈ j.chain) :
    b ∉ k.chain := by
  have : Std.Symm fun j k : Job => j.chain.Disjoint k.chain := ⟨fun _ _ hd => hd.symm⟩
  exact fun hb' => (List.nodup_flatMap.mp (List.nodup_append.mp h.nodup).2.1).2.forall hj hk hn hb hb'

/-- Every character of a job's text stands in a block of its chain. -/
theorem place_lt {j : Job} (hj : j ∈ s.sm.jobs) {i : Nat} (hi : i < j.count) : i / 64 < j.chain.length := by
  rw [h.chains j hj]; omega

/-- The chain of a job that is admitted a text, and that of a job just opened, repeats no block. -/
theorem grown_nodup {j : Job} (hj : j ∈ s.sm.jobs ∨ j.chain = []) (n : Nat) : (j.chain ++ s.sm.free.take n).Nodup := by
  rcases hj with hj | hj
  · exact List.nodup_append.mpr ⟨h.chain_nodup hj, h.free_nodup.sublist (List.take_sublist _ _),
      fun b hb c hc e => h.not_free hj hb (List.mem_of_mem_take (e ▸ hc))⟩
  · rw [hj]; exact h.free_nodup.sublist (List.take_sublist _ _)

/-- The chain that an admission leaves has a block for every character of the text. -/
theorem grown_length {j : Job} (hj : j ∈ s.sm.jobs ∨ j.chain = [] ∧ j.count = 0) {n : Nat}
    (hf : blocksNeeded j.count n ≤ s.sm.free.length) :
    (j.chain ++ s.sm.free.take (blocksNeeded j.count n)).length = (j.count + n + 63) / 64 := by
  rw [blocks_add_blocksNeeded, List.length_append, List.length_take, min_eq_left hf]
  rcases hj with hj | ⟨hc, hn⟩
  · rw [h.chains j hj]
  · simp [hc, hn]

/-- The places of an admitted text are none of a text that a job of the table holds already (R84, R85). -/
theorem admitted_apart {j k : Job} (hj : j ∈ s.sm.jobs) (hk : k ∈ s.sm.jobs ∨ k.chain = [] ∧ k.count = 0) {n : Nat}
    (hf : blocksNeeded k.count n ≤ s.sm.free.length) {i m : Nat} (hi : i < j.count) (hm : m < n) :
    chainAddress j.chain i ≠ chainAddress (k.chain ++ s.sm.free.take (blocksNeeded k.count n)) (k.count + m) := fun e => by
  have hl := h.grown_length hk hf
  have hp : (k.count + m) / 64 < (k.chain ++ s.sm.free.take (blocksNeeded k.count n)).length := by omega
  have hq := h.place_lt hj hi
  obtain ⟨hb, ho⟩ := chainAddress_inj hq hp e
  have hmem : j.chain[i / 64] ∈ j.chain := List.getElem_mem _
  by_cases hc : (k.count + m) / 64 < k.chain.length
  · have hkj : k ∈ s.sm.jobs := hk.resolve_right fun ⟨hk, _⟩ => by simp [hk] at hc
    rw [List.getElem_append_left hc] at hb
    by_cases hjk : j = k
    · subst hjk
      have := (List.Nodup.getElem_inj_iff (h.chain_nodup hj)).mp hb
      omega
    · exact h.disjoint hj hkj hjk hmem (hb ▸ List.getElem_mem _)
  · rw [List.getElem_append_right (by omega)] at hb
    exact h.not_free hj hmem (hb ▸ List.mem_of_mem_take (List.getElem_mem _))

end SpoolLaw

/-! ### The obligation -/

/-- Fewer blocks are free than an admission needs in no admission. -/
theorem admission_eq_none {src : Source} {c n : Nat} (h : s.admission src c n = none) :
    s.heldOf src + blocksNeeded c n ≤ s.quotaOf src ∧ blocksNeeded c n ≤ s.sm.free.length := by
  unfold State.admission at h
  split at h
  · cases h
  · split at h
    · cases h
    · omega

/-- The text that a job of the table holds reads as it did. -/
def TextKept (s : State) (j : Job) (m : Memory) : Prop :=
  ∀ i, i < j.count → m.read (chainAddress j.chain i) = s.sm.memory.read (chainAddress j.chain i)

/-- An admission leaves the texts of the table as they are. -/
theorem textKept_admitsFrom (hs : SpoolLaw s) (hm : MemoryLaw s) {j : Job} (hj : j ∈ s.sm.jobs) :
    AdmitsFrom s fun u => TextKept s j u.sm.memory := by
  intro u k text hf hmem hk _ _ ha _ i hi
  have hn := (admission_eq_none ha).2
  rw [hf] at hn
  rw [u.read_admitText_other k text _ (hmem ▸ hm) fun m hlt => ?_, hmem]
  rw [hf]
  exact hs.admitted_apart hj hk hn hi hlt

/-- No command changes a character of a text that a job of the table holds. -/
theorem exec_textKept {c : Instr} (hs : SpoolLaw s) (hm : MemoryLaw s) (ht : exec c s = .next t) {j : Job} (hj : j ∈ s.sm.jobs) :
    TextKept s j t.sm.memory := by
  have k : Steady fun u => TextKept s j u.sm.memory := (still_memory (TextKept s j)).calm.steady
  have ad := textKept_admitsFrom hs hm hj
  have h : TextKept s j s.sm.memory := fun _ _ => rfl
  by_cases hr : ∃ q, c = .replyStartPoint q
  · obtain ⟨q, rfl⟩ := hr
    cases ht
    split
    · split
      · exact k.startReply ad _ h
      · exact h
    · exact h
  by_cases hp : ∃ n v pb sb, c = .portCharacterTaken n v pb sb
  · obtain ⟨n, v, pb, sb, rfl⟩ := hp
    cases ht
    exact k.portCharacter (fun _ => ad) _ _ h
  by_cases hf : ∃ n v pb sb, c = .frameComplete n v pb sb
  · obtain ⟨n, v, pb, sb, rfl⟩ := hf
    cases ht
    split
    · exact k.portCharacter (fun _ => ad) _ _ h
    · exact h
  have := exec_memory (fun n v pb sb => ⟨fun e => hp ⟨n, v, pb, sb, e⟩, fun e => absurd ⟨n, v, pb, sb, e⟩ hf⟩)
    (fun q e => hr ⟨q, e⟩) ht
  rw [this.memory]
  exact h

/-- Settles O7: only an admission writes the memory, into blocks that no other text holds. -/
theorem stepKeepsReportsAndMemory : Obligations.StepKeepsReportsAndMemory := by
  have memory : Kept MemoryLaw :=
    (still_memory (·.wf = true)).calm.steady.kept fun s j text _ _ _ h => s.memory_admitText j text h
  exact ⟨fun s t h ht => kept_reportLaw.step h ht, fun s t h ht => memory.step h ht,
    fun c s t hp hr ht => (exec_memory hp hr ht).memory, fun c s t hs hm ht j hj => exec_textKept hs hm ht hj⟩

end Sys2Proof.Machine
end

section
/-! PROOF. The law of the health objects through every step (R134, R145, R128, R3). -/

namespace Sys2Proof.Machine

variable {s t : State}

/-- What the law asks of a record that is the health object o in a state, whatever the thresholds are. -/
structure State.Sound (s : State) (o : ObjectId) (x : HealthObject) : Prop where
  score : x.score ≤ 1023
  effective : x.state = .isolated → x.mayIsolate = true ∧ o ≠ .segment .a ∧ ∀ a, o = .station a → (s.entry a).location ≠ .segA
  segA : o = .segment .a → x.mayIsolate = false
  off : ∀ a, o = .station a → (s.entry a).location.isSegment = false → x.score = 0 ∧ x.state = .active

/-- What the law asks of a record that is the health object o in a state. -/
structure State.Proper (s : State) (o : ObjectId) (x : HealthObject) : Prop extends s.Sound o x where
  band : x.state ≠ .isolated → (x.state = .active ↔ x.score < s.hm.suspect)
  above : x.state = .isolated → s.hm.readmit < x.score

theorem effectiveMayIsolate_iff {o : ObjectId} : s.effectiveMayIsolate o = true ↔
    (s.object o).mayIsolate = true ∧ o ≠ .segment .a ∧ ∀ a, o = .station a → (s.entry a).location ≠ .segA := by
  rcases o with (_ | _) | n | a <;> simp [State.effectiveMayIsolate]

theorem healthLaw_iff : HealthLaw s ↔ ThresholdLaw s ∧ ∀ o, s.Proper o (s.object o) := by
  refine and_congr_right fun _ => ⟨fun ⟨ho, hf, hl⟩ o => ?_, fun h => ⟨fun o => ?_, ?_, fun a ha => (h _).off a rfl ha⟩⟩
  · obtain ⟨hs, hb, hi, he⟩ := ho o
    exact ⟨⟨hs, fun h => effectiveMayIsolate_iff.mp (by_contra fun hn => he (by simpa using hn) h), fun e => e ▸ hf,
      fun a e => e ▸ hl a⟩, hb, hi⟩
  · refine ⟨(h o).score, (h o).band, (h o).above, fun hn hi => ?_⟩
    rw [effectiveMayIsolate_iff.mpr ((h o).effective hi)] at hn
    cases hn
  · exact (h (.segment .a)).segA rfl

/-! ### What the law reads -/

theorem State.Sound.congr {o : ObjectId} {x : HealthObject} (h : s.Sound o x)
    (hl : ∀ a, o = .station a → (t.entry a).location = (s.entry a).location) : t.Sound o x :=
  ⟨h.score, fun hi => ⟨(h.effective hi).1, (h.effective hi).2.1, fun a ha => hl a ha ▸ (h.effective hi).2.2 a ha⟩, h.segA,
    fun a ha => hl a ha ▸ h.off a ha⟩

theorem State.Proper.congr {o : ObjectId} {x : HealthObject} (h : s.Proper o x) (hs : t.hm.suspect = s.hm.suspect)
    (hr : t.hm.readmit = s.hm.readmit) (hl : ∀ a, o = .station a → (t.entry a).location = (s.entry a).location) : t.Proper o x :=
  ⟨h.toSound.congr hl, hs ▸ h.band, hr ▸ h.above⟩

/-- The law speaks of the thresholds, the locations and the objects. -/
theorem HealthLaw.of_objects (h : HealthLaw s) (hs : t.hm.suspect = s.hm.suspect) (hi : t.hm.isolate = s.hm.isolate)
    (hr : t.hm.readmit = s.hm.readmit)
    (ho : ∀ o, t.Proper o (t.object o) ∨
      t.object o = s.object o ∧ ∀ a, o = .station a → (t.entry a).location = (s.entry a).location) : HealthLaw t := by
  obtain ⟨ht, hp⟩ := healthLaw_iff.mp h
  exact healthLaw_iff.mpr ⟨by rwa [ThresholdLaw, hs, hi, hr],
    fun o => (ho o).elim id fun ⟨e, hl⟩ => e ▸ (hp o).congr hs hr hl⟩

/-- One object is replaced by a record that the law allows. -/
theorem HealthLaw.replace (h : HealthLaw s) {o : ObjectId} (hx : s.Proper o (t.object o))
    (ho : ∀ p, p ≠ o → t.object p = s.object p)
    (hs : t.hm.suspect = s.hm.suspect := by simp) (hi : t.hm.isolate = s.hm.isolate := by simp)
    (hr : t.hm.readmit = s.hm.readmit := by simp) (hl : ∀ a, (t.entry a).location = (s.entry a).location := by simp) :
    HealthLaw t := by
  refine h.of_objects hs hi hr fun p => ?_
  by_cases hp : p = o
  · subst hp; exact .inl (hx.congr hs hr fun a _ => hl a)
  · exact .inr ⟨ho p hp, fun a _ => hl a⟩

/-- What leaves the Health Monitor and the locations alone. -/
theorem HealthLaw.of_hm (h : HealthLaw s) (hm : t.hm = s.hm := by simp)
    (hl : ∀ a, (t.entry a).location = (s.entry a).location := by simp) : HealthLaw t :=
  h.of_objects (by rw [hm]) (by rw [hm]) (by rw [hm]) fun o => .inr ⟨State.object_congr hm o, fun a _ => hl a⟩

/-! ### Records that the law allows -/

/-- A cleared object, with any flag but segment A's. -/
theorem State.Proper.clean {o : ObjectId} {f : Bool} (hs : 0 < s.hm.suspect) (hf : o = .segment .a → f = false) :
    s.Proper o (.clean f) :=
  ⟨⟨Nat.zero_le _, nofun, hf, fun _ _ _ => ⟨rfl, rfl⟩⟩, fun _ => ⟨fun _ => hs, fun _ => rfl⟩, nofun⟩

/-- A judged object, whatever the thresholds were before. -/
theorem State.Sound.judged {o : ObjectId} {n : Nat} (h : s.Sound o (s.object o)) (ht : ThresholdLaw s) (hn : n ≤ 1023)
    (hz : ∀ a, o = .station a → (s.entry a).location.isSegment = false → n = 0) : s.Proper o (s.judged o n) := by
  obtain ⟨h1, h2, h3⟩ := ht
  have isolated (hj : s.judge o n = .isolated) : s.effectiveMayIsolate o = true ∧ s.hm.readmit < n := by
    unfold State.judge at hj
    split at hj
    · next hs => exact ⟨effectiveMayIsolate_iff.mpr (h.effective hs), by by_contra hc; simp [Nat.le_of_not_lt hc] at hj⟩
    · split at hj
      · next hk => exact ⟨hk.2, by omega⟩
      · split at hj <;> cases hj
  refine ⟨⟨hn, fun hj => effectiveMayIsolate_iff.mp (isolated hj).1, h.segA, fun a e hl => ?_⟩, ?_, fun hj => (isolated hj).2⟩
  · refine ⟨hz a e hl, ?_⟩
    show s.judge o n = .active
    unfold State.judge
    rw [(h.off a e hl).2, hz a e hl, if_neg (by decide), if_neg (by omega), if_neg (by omega)]
  · show s.judge o n ≠ .isolated → (s.judge o n = .active ↔ n < s.hm.suspect)
    unfold State.judge
    (repeat' split) <;> simp <;> omega

section

variable (h : HealthLaw s)
include h

theorem HealthLaw.proper (o : ObjectId) : s.Proper o (s.object o) := (healthLaw_iff.mp h).2 o

theorem HealthLaw.suspect_pos : 0 < s.hm.suspect := by
  obtain ⟨⟨h1, -, -⟩, -⟩ := h; omega

theorem HealthLaw.clean_keeping (o : ObjectId) : s.Proper o (.clean (s.object o).mayIsolate) :=
  .clean h.suspect_pos (h.proper o).segA

theorem HealthLaw.judged {o : ObjectId} {n : Nat} (hn : n ≤ 1023)
    (hz : ∀ a, o = .station a → (s.entry a).location.isSegment = false → n = 0) : s.Proper o (s.judged o n) :=
  (h.proper o).judged h.1 hn hz

/-- A station that is charged lives on a segment (R3). -/
theorem HealthLaw.segment_of_chargeable {o : ObjectId} (hc : s.chargeable o) (a : Address) (e : o = .station a) :
    (s.entry a).location.isSegment = true :=
  (hc a e).elim id fun hi => by
    by_contra hl
    rw [((h.proper o).off a e (by simpa using hl)).2] at hi
    cases hi

/-! ### What a step does to the objects -/

/-- A score is written and evaluated. -/
theorem HealthLaw.evaluate_score {o : ObjectId} {n : Nat} (hn : n ≤ 1023)
    (hz : ∀ a, o = .station a → (s.entry a).location.isSegment = false → n = 0) :
    HealthLaw ((s.setObject o { s.object o with score := n }).evaluate o) := by
  refine h.replace (o := o) ?_ fun p hp => ?_ <;> rw [State.object_evaluate_score]
  · rw [if_pos rfl]; exact h.judged hn hz
  · rw [if_neg hp]

theorem HealthLaw.addScore {o : ObjectId} (w : Nat) (hc : s.chargeable o) : HealthLaw (s.addScore o w) :=
  h.evaluate_score (Nat.min_le_left _ _) fun a e hl => by rw [h.segment_of_chargeable hc a e] at hl; cases hl

theorem HealthLaw.probeCredit (o : ObjectId) : HealthLaw (s.probeCredit o) := by
  unfold State.probeCredit
  split
  · exact h.evaluate_score (by have := (h.proper o).score; omega) fun a e hl => by simp [((h.proper o).off a e hl).1]
  · exact h

theorem HealthLaw.decay (o : ObjectId) : HealthLaw (s.decay o) := by
  unfold State.decay
  dsimp only
  split
  · exact h.evaluate_score (Nat.le_trans (Nat.sub_le _ _) (h.proper o).score)
      fun a e hl => by simp [decayed, ((h.proper o).off a e hl).1]
  · exact h

theorem HealthLaw.clearKeeping (o : ObjectId) : HealthLaw (s.clearKeeping o) := by
  refine h.replace (o := o) ?_ fun p hp => ?_ <;> rw [State.object_clearKeeping]
  · rw [if_pos rfl]; exact h.clean_keeping o
  · rw [if_neg hp]

theorem HealthLaw.forceIsolate {o : ObjectId} (ho : s.mayForceIsolate o = true) : HealthLaw (s.forceIsolate o) := by
  simp only [State.mayForceIsolate, Bool.and_eq_true] at ho
  obtain ⟨he, hloc⟩ := ho
  obtain ⟨⟨h1, h2, h3⟩, -⟩ := id h
  have hx : s.Proper o { s.object o with score := 1023, state := .isolated, limitMark := false } := by
    refine ⟨⟨le_refl _, fun _ => effectiveMayIsolate_iff.mp he, (h.proper o).segA, fun a e hl => ?_⟩, nofun, fun _ => ?_⟩
    · subst e
      simp only [beq_iff_eq] at hloc
      rw [hloc] at hl; cases hl
    · dsimp only; omega
  refine h.replace (o := o) ?_ (fun p hp => ?_) ?_ ?_ ?_ ?_
  all_goals
    unfold State.forceIsolate
    dsimp only
    split <;> simp_all

theorem HealthLaw.setMayIsolate {o : ObjectId} (f : Bool) (ho : o ≠ .segment .a) : HealthLaw (s.setMayIsolate o f) := by
  have hp := h.proper o
  unfold State.setMayIsolate
  dsimp only
  split
  · next hi =>
    have hx (m : Bool) : s.Proper o { s.object o with state := s.bandOf (s.object o).score, mayIsolate := false, limitMark := m } := by
      have hb : s.bandOf (s.object o).score ≠ .isolated := by unfold State.bandOf; split <;> decide
      refine ⟨⟨hp.score, fun e => absurd e hb, fun _ => rfl, fun a e hl => ?_⟩, fun _ => ?_, fun e => absurd e hb⟩
      · rw [(hp.off a e hl).2] at hi; cases hi.1
      · unfold State.bandOf
        split <;> simp <;> omega
    refine h.replace (o := o) ?_ fun p hp => ?_ <;> rw [State.object_evaluateMark]
    · simpa using hx _
    · simp [hp]
  · next hi =>
    let u := s.setObject o { s.object o with mayIsolate := f }
    have hu : u.Sound o (u.object o) := by
      refine State.Sound.congr (s := s) ?_ (by simp [u])
      simp only [u, State.object_setObject_eq, if_true]
      refine ⟨hp.score, fun e => ?_, fun e => absurd e ho, hp.off⟩
      exact ⟨by_contra fun hf => hi ⟨e, by simpa using hf⟩, (hp.effective e).2⟩
    refine h.replace (o := o) ?_ fun p hp => ?_ <;> rw [State.object_evaluate]
    · rw [if_pos rfl]
      have ht : ThresholdLaw u := by simpa [u, ThresholdLaw] using h.1
      exact (hu.judged ht hu.score fun a e hl => (hu.off a e hl).1).congr (by simp [u]) (by simp [u]) (by simp [u])
    · simp [hp]

end

/-- Sound objects that are all evaluated obey the law, whatever the thresholds were before (R145). -/
theorem evaluateAll_proper (l : List ObjectId) : ∀ {s : State}, ThresholdLaw s → (∀ o, s.Sound o (s.object o)) →
    ThresholdLaw (s.evaluateAll l) ∧
    ∀ o, o ∈ l ∨ s.Proper o (s.object o) → (s.evaluateAll l).Proper o ((s.evaluateAll l).object o) := by
  induction l with
  | nil => exact fun ht _ => ⟨ht, fun o h => h.resolve_left (by simp)⟩
  | cons p l ih =>
    intro s ht hs
    have hp : (s.evaluate p).Proper p ((s.evaluate p).object p) := by
      rw [State.object_evaluate, if_pos rfl]
      exact ((hs p).judged ht (hs p).score fun a e hl => ((hs p).off a e hl).1).congr (by simp) (by simp) (by simp)
    have others (o : ObjectId) (ho : o ≠ p) : (s.evaluate p).object o = s.object o := by rw [State.object_evaluate, if_neg ho]
    obtain ⟨h1, h2⟩ := ih (s := s.evaluate p) (by simpa [ThresholdLaw] using ht) fun o => by
      by_cases ho : o = p
      · exact ho ▸ hp.toSound
      · rw [others o ho]; exact (hs o).congr (by simp)
    refine ⟨h1, fun o ho => h2 o ?_⟩
    by_cases e : o = p
    · exact .inr (e ▸ hp)
    · refine ho.imp (fun hm => (List.mem_cons.mp hm).resolve_left e) fun hx => ?_
      rw [others o e]
      exact hx.congr (by simp) (by simp) (by simp)

theorem mem_allObjects (o : ObjectId) : o ∈ allObjects := by
  rcases o with (_ | _) | n | a <;> simp [allObjects]

/-- New thresholds, in order, and every object is judged by them (R145). -/
theorem HealthLaw.limits (h : HealthLaw s) {l : HealthLimits} (h1 : l.readmit < l.suspect) (h2 : l.suspect < l.isolate)
    (h3 : l.isolate ≤ 1023) : HealthLaw ({ s with hm := s.hm.setLimits l }.evaluateAll allObjects) := by
  have hs (o : ObjectId) : State.Sound { s with hm := s.hm.setLimits l } o (State.object { s with hm := s.hm.setLimits l } o) := by
    have ho : State.object { s with hm := s.hm.setLimits l } o = s.object o := by rcases o with (_ | _) | _ | _ <;> rfl
    rw [ho]
    exact (h.proper o).toSound.congr fun _ _ => rfl
  obtain ⟨ht, hp⟩ := evaluateAll_proper allObjects (s := { s with hm := s.hm.setLimits l }) ⟨h1, h2, h3⟩ hs
  exact healthLaw_iff.mpr ⟨ht, fun o => hp o (.inl (mem_allObjects o))⟩

/-! ### What a step does to the entries -/

/-- An address changes its location, and its station object is cleared (R3). -/
theorem HealthLaw.rerouted (h : HealthLaw s) {u : State} {a : Address} (f : Bool) (hm : u.hm = s.hm := by simp)
    (hl : ∀ b, b ≠ a → (u.entry b).location = (s.entry b).location := by simp +contextual) :
    HealthLaw (u.clearObject (.station a) f) := by
  refine h.of_objects (by simp [hm]) (by simp [hm]) (by simp [hm]) fun o => ?_
  rw [State.object_clearObject, State.object_congr hm]
  split
  · exact .inl (.clean (by simpa [hm] using h.suspect_pos) (by simp_all))
  · refine .inr ⟨rfl, fun b e => ?_⟩
    rw [State.entry_clearObject, hl b (by rintro rfl; simp_all)]

/-- An entry is written at its location. -/
theorem HealthLaw.setEntry (h : HealthLaw s) (a : Address) (e : Entry) (hl : e.location = (s.entry a).location) :
    HealthLaw (s.setEntry a e) :=
  h.of_hm (by simp) fun b => by rw [State.entry_setEntry_eq]; split <;> simp_all

theorem HealthLaw.writeEntry (h : HealthLaw s) (a : Address) (l : Location) (x : StandIn) : HealthLaw (s.writeEntry a l x) := by
  unfold State.writeEntry
  dsimp only
  split
  · exact h.setEntry _ _ ‹_›
  · have h1 : HealthLaw ((s.setEntry a { s.entry a with location := l, origin := .static, standIn := x, age := 0 }).clearKeeping
        (.station a)) := h.rerouted _
    split
    exacts [h1.of_hm, h1]

theorem HealthLaw.makePrinter (h : HealthLaw s) (a : Address) : HealthLaw (s.makePrinter a) := by
  have h1 : HealthLaw (s.vacatePrinter a) := by
    unfold State.vacatePrinter
    (repeat' split)
    exacts [h, h, h.rerouted _]
  unfold State.makePrinter
  dsimp only
  split
  exacts [h, h1.rerouted _]

theorem HealthLaw.ageEntry (h : HealthLaw s) (a : Address) : HealthLaw (s.ageEntry a) := by
  unfold State.ageEntry
  dsimp only
  split
  · split
    exacts [h.rerouted _, h.setEntry _ _ rfl]
  · exact h

/-- A station that is not ISOLATED moves with its score, and is evaluated (R14). -/
theorem HealthLaw.move (h : HealthLaw s) (g : Seg) {a : Address} (hi : (s.object (.station a)).state ≠ .isolated) :
    HealthLaw (s.move g a) := by
  have hp := h.proper (.station a)
  let u := (s.setEntry a { s.entry a with location := segLocation g, age := 0 }).raise .moved a.val (.segment g)
  have hu : u.Sound (.station a) (u.object (.station a)) := by
    have ho : u.object (.station a) = s.object (.station a) := by simp [u]
    rw [ho]
    refine ⟨hp.score, fun e => absurd e hi, nofun, fun b e hl => ?_⟩
    cases e
    cases g <;> simp [u, segLocation, Location.isSegment] at hl
  have ht : ThresholdLaw u := by simpa [u, ThresholdLaw] using h.1
  refine h.of_objects (by simp [State.move]) (by simp [State.move]) (by simp [State.move]) fun o => ?_
  have hm : s.move g a = u.evaluate (.station a) := rfl
  rw [hm, State.object_evaluate]
  split
  · next e =>
    have hx : (u.evaluate (.station a)).Proper (.station a) (u.judged (.station a) (u.object (.station a)).score) :=
      (hu.judged ht hu.score fun b e hl => (hu.off b e hl).1).congr (by simp) (by simp) (by simp)
    exact .inl (e ▸ hx)
  · next e =>
    refine .inr ⟨by simp [u], fun b hb => ?_⟩
    have hne : b ≠ a := by rintro rfl; exact e hb
    simp [u, hne]

theorem HealthLaw.learn (h : HealthLaw s) (g : Seg) (a : Address) : HealthLaw (s.learn g a) := by
  have hp := h.proper (.station a)
  unfold State.learn
  dsimp only
  split
  · next hl =>
    obtain ⟨hz, ha⟩ := hp.off a rfl (by rw [hl]; rfl)
    refine h.of_objects (by simp) (by simp) (by simp) fun o => ?_
    rw [State.object_setEntry]
    by_cases ho : o = .station a
    · subst ho
      exact .inl ⟨⟨hp.score, by simp [ha], nofun, fun _ _ _ => ⟨hz, ha⟩⟩, by simpa [hz, ha] using h.suspect_pos, by simp [ha]⟩
    · exact .inr ⟨rfl, fun b e => by rw [State.entry_setEntry_eq, if_neg]; rintro rfl; exact ho e⟩
  · split
    · exact h.setEntry _ _ rfl
    · split
      · next hm => exact h.move g hm.2
      · have h1 : HealthLaw (s.raise .conflict a.val (.segment g)) := h.of_hm
        exact h1.addScore _ (by simp [State.chargeable])

/-- All objects are as after a hard reset, and the thresholds are in order. -/
theorem HealthLaw.of_clean (ht : ThresholdLaw t) (ho : ∀ o, ∃ f, t.object o = .clean f ∧ (o = .segment .a → f = false)) : HealthLaw t :=
  healthLaw_iff.mpr ⟨ht, fun o => by
    obtain ⟨f, e, hf⟩ := ho o
    rw [e]
    exact .clean (by obtain ⟨h1, -, -⟩ := ht; omega) hf⟩

theorem object_atReset (o : ObjectId) (ht : t.hm.segA = .clean false) (hb : t.hm.segB = .clean true)
    (hp : t.hm.ports = Vector.replicate 8 (.clean true)) (hs : t.hm.stations = Vector.replicate 63 (.clean true)) :
    ∃ f, t.object o = .clean f ∧ (o = .segment .a → f = false) := by
  rcases o with (_ | _) | n | a <;> simp [State.object, ht, hb, hp, hs]

theorem State.restartBlocks_threshold (s : State) : ThresholdLaw s.restartBlocks := by
  show (96 : Nat) < 240 ∧ (240 : Nat) < 480 ∧ (480 : Nat) ≤ 1023
  decide

theorem State.restartTraffic_threshold (s : State) (h : ThresholdLaw s) : ThresholdLaw s.restartTraffic := by
  simpa [ThresholdLaw, State.restartTraffic, HealthMonitor.restarted] using h

/-- The probe exchange does not bear on the law. -/
theorem HealthLaw.probe (h : HealthLaw s) (hs : t.hm.suspect = s.hm.suspect) (hi : t.hm.isolate = s.hm.isolate)
    (hr : t.hm.readmit = s.hm.readmit) (ho : ∀ o, t.object o = s.object o := by simp)
    (hl : ∀ a, (t.entry a).location = (s.entry a).location := by simp) : HealthLaw t :=
  h.of_objects hs hi hr fun o => .inr ⟨ho o, fun a _ => hl a⟩

theorem steady_healthLaw : Steady HealthLaw where
  blind s t e h := by
    refine h.of_objects e.suspect e.isolate e.readmit fun o => .inr ⟨e.object o, fun a _ => ?_⟩
    rw [State.entry, e.entries]; rfl
  tick s h := h.of_objects rfl rfl rfl fun o => .inr ⟨by rcases o with (_ | _) | _ | _ <;> rfl, fun _ _ => rfl⟩
  restartBlocks s h := .of_clean (s.restartBlocks_threshold) fun o => object_atReset o rfl rfl rfl rfl
  restartTraffic s h := .of_clean (s.restartTraffic_threshold h.1) fun o => object_atReset (t := s.restartTraffic) o rfl rfl rfl rfl
  writeEntry s a l x _ _ _ h := h.writeEntry a l x
  clearEntry s a _ h := h.rerouted _
  makePrinter s a _ h := h.makePrinter a
  setQuota s src n h := h.of_hm (by simp) fun a => by
    cases src
    · rfl
    · simp only [State.setQuota, State.entry_setEntry_eq]; split <;> simp_all
  learn s g a h := h.learn g a
  ageEntry s a h := h.ageEntry a
  port s n q _ h := h.of_hm
  enablePort s n _ h := h.of_hm (by simp) fun a => by unfold State.enablePort; simp
  enterStandby s n _ h := by
    have h1 : HealthLaw ((s.mapPort n Port.toStandby).reportPort n) := h.of_hm
    exact (h1.clearKeeping (.port n)).of_hm (State.discardOpen_hm _ _)
  limits s l h1 h2 h3 h := h.limits h1 h2 h3
  addScore s o w hc h := h.addScore w hc
  probeCredit s o h := h.probeCredit o
  decay s o h := h.decay o
  forceIsolate s o ho h := h.forceIsolate ho
  clearKeeping s o h := h.clearKeeping o
  setMayIsolate s o f ho h := h.setMayIsolate f ho
  copyBegins s g c _ _ h := h.of_hm
  copyHeld s c _ h := h.of_hm
  copyGone s g x _ _ h := h.of_hm
  replyBegins s x _ _ h := h.of_hm
  replyEnds s g _ h := h.of_hm
  probeGone s _ h := h.probe rfl rfl rfl
  probePending s k t _ _ h := h.probe rfl rfl rfl
  probeHears s w k t _ h := h.probe rfl rfl rfl
  startProbe s k t _ _ h := h.probe (by rw [State.startProbe_hm]) (by rw [State.startProbe_hm]) (by rw [State.startProbe_hm])
    (hl := fun a => by simp [State.entry])
  probeSent s g _ h := h.probe (by rw [State.probeSent_hm]) (by rw [State.probeSent_hm]) (by rw [State.probeSent_hm])
    (hl := fun a => by simp [State.entry])
  printProfile s p t m h := h.of_hm rfl fun _ => rfl
  enableEngine s h := h.of_hm
  disableEngine s h := h.of_hm
  stopEngine s h := h.of_hm (by simp) fun _ => State.location_of_route (by simp)
  resumePrinter s h := h.of_hm
  lineChanged s l x h := h.of_hm
  characterTaken s _ h := h.of_hm (by simp) fun _ => State.location_of_route (by simp)
  characterLost s _ h := h.of_hm (by simp) fun _ => State.location_of_route (by simp)
  grantChanged s x h := h.of_hm
  releaseExpired s h := h.of_hm (by simp) fun _ => State.location_of_route (by simp)
  openJob s src k p _ _ _ h := h.of_hm
  removeJob s j e _ _ h := h.of_hm
  enqueue s j _ _ h := h.of_hm
  offerJobs s h := h.of_hm
  setJobState s j st x _ _ _ h := h.of_hm
  promote s j _ h := h.of_hm

/-- Settles O8: each clause replaces objects by records that the law allows, or leaves them alone. -/
theorem stepKeepsTheHealthLaw : Obligations.StepKeepsTheHealthLaw := fun _ _ h ht =>
  (steady_healthLaw.kept fun _ _ _ _ _ _ h => h.of_hm).step h ht

end Sys2Proof.Machine
end

section
/-! PROOF. The law of the spool through every step (R84, R85, R87, R88, R90, R92). -/

namespace Sys2Proof.Machine

variable {s t : State}

/-! ### What the operations on the table do to the spool and the charges -/

theorem State.heldOf_congr (h : t.sd = s.sd) (src : Source) : t.heldOf src = s.heldOf src := by
  cases src <;> simp [State.heldOf, State.entry, h]

theorem State.heldOf_setHeld_eq (src src' : Source) (n : Nat) :
    (s.setHeld src n).heldOf src' = if src' = src then n else s.heldOf src' := by
  split
  · next h => rw [h, State.heldOf_setHeld]
  · next h => rw [State.heldOf_setHeld_of_ne _ _ h]

theorem State.admitText_sm (j : Job) (text : List Byte) : (s.admitText j text).sm =
    { s.sm with
      memory := s.sm.memory.writeText (j.chain ++ s.sm.free.take (blocksNeeded j.count text.length)) j.count text
      free := s.sm.free.drop (blocksNeeded j.count text.length)
      jobs := s.sm.jobs.map fun k => if k.id = j.id then
        { k with
          chain := j.chain ++ s.sm.free.take (blocksNeeded j.count text.length), count := j.count + text.length
          idleTimer := some (1000 * s.sm.idleTimeout) } else k } := by
  simp [State.admitText, State.mapJob]

theorem State.heldOf_admitText (j : Job) (text : List Byte) (src : Source) : (s.admitText j text).heldOf src =
    if src = j.source then s.heldOf j.source + blocksNeeded j.count text.length else s.heldOf src := by
  unfold State.admitText
  rw [State.heldOf_congr (State.raiseLow_sd _ _), State.heldOf_setHeld_eq, State.heldOf_congr (State.mapJob_sd _ _ _)]
  rfl

theorem State.removeJob_sm (j : Job) (e : Ending) : (s.removeJob j e).sm =
    { s.sm with
      free := s.sm.free ++ j.chain, jobs := s.sm.jobs.filter fun k => k.id != j.id
      queue := s.sm.queue.filter fun i => i != j.id } := by
  simp [State.removeJob]

theorem State.heldOf_removeJob (j : Job) (e : Ending) (src : Source) : (s.removeJob j e).heldOf src =
    if src = j.source then s.heldOf j.source - j.blocks else s.heldOf src := by
  unfold State.removeJob
  rw [State.heldOf_congr (State.notifyJob_sd _ _ _ _ _), State.heldOf_congr (State.raise_sd _ _ _ _), State.heldOf_setHeld_eq]
  rfl

theorem State.openJob_sm (src : Source) (c : Nat) (p : Priority) : (s.openJob src c p).sm =
    { s.sm with jobs := s.sm.jobs ++ [newJob s s.freshId src c p], lastId := s.freshId } := by
  simp [State.openJob, newJob]

theorem State.enqueue_sm (j : Job) : ∃ u, (s.enqueue j).sm =
    { s.sm with
      jobs := s.sm.jobs.map fun k => if k.id = j.id then { k with state := .queued, idleTimer := none } else k
      queue := placeInQueue u s.sm.queue j.id j.priority } :=
  ⟨_, by simp only [State.enqueue, State.notifyJob_sm]; rfl⟩

theorem perm_placeInQueue (u : Nat → Bool) (q : List Nat) (id : Nat) (p : Priority) : (placeInQueue u q id p).Perm (id :: q) := by
  cases p
  · exact List.perm_append_singleton _ _
  · exact List.perm_middle.trans (.cons _ (.of_eq (List.take_append_drop _ _)))

/-! ### The id of a new record -/

theorem job?_isNone_eq_false {id : Nat} : (s.job? id).isNone = false ↔ ∃ j ∈ s.sm.jobs, j.id = id := by
  simp [State.job?, List.find?_isSome]

theorem job?_isNone {id : Nat} : (s.job? id).isNone = true ↔ ∀ j ∈ s.sm.jobs, j.id ≠ id := by
  simp [State.job?]

/-- With a record of each id there would be 255 of them (R87). -/
theorem freshId_spec (h : s.sm.jobs.length < 255) : FreshId s s.freshId := by
  unfold State.freshId
  rw [List.find?_map]
  cases hf : (List.range 255).find? ((fun id => (s.job? id).isNone) ∘ fun k => (s.sm.lastId + k) % 255 + 1) with
  | some d =>
    obtain ⟨hd, hm, hk⟩ := List.find?_range_eq_some.mp hf
    exact ⟨⟨d, by simpa using hm, rfl, fun k hlt => job?_isNone_eq_false.mp (by simpa using hk k hlt)⟩, job?_isNone.mp hd⟩
  | none =>
    have hall := List.find?_range_eq_none.mp hf
    have hn : ((List.range 255).map fun k => (s.sm.lastId + k) % 255 + 1).Nodup := by
      refine List.Nodup.map_on (fun k hk l hl e => ?_) List.nodup_range
      simp only [List.mem_range] at hk hl
      omega
    have hs : ((List.range 255).map fun k => (s.sm.lastId + k) % 255 + 1) ⊆ s.sm.jobs.map Job.id := by
      intro id hid
      obtain ⟨k, hk, rfl⟩ := List.mem_map.mp hid
      exact List.mem_map.mpr (job?_isNone_eq_false.mp (by simpa using hall k (List.mem_range.mp hk)))
    have := (hn.subperm hs).length_le
    simp at this
    omega

/-! ### The table -/

section

variable (h : SpoolLaw s)
include h

/-- A record of the table is found by its id. -/
theorem SpoolLaw.eq_of_id {j k : Job} (hj : j ∈ s.sm.jobs) (hk : k ∈ s.sm.jobs) (e : k.id = j.id) : k = j :=
  List.inj_on_of_nodup_map h.ids.1 hk hj e

/-- The table is a record and the others, in some order. -/
theorem SpoolLaw.perm_cons {j : Job} (hj : j ∈ s.sm.jobs) : s.sm.jobs.Perm (j :: s.sm.jobs.filter fun k => k.id != j.id) := by
  refine (List.perm_ext_iff_of_nodup h.jobs_nodup ?_).mpr fun k => ?_
  · exact List.nodup_cons.mpr ⟨by simp, h.jobs_nodup.filter _⟩
  · by_cases e : k = j
    · simp [e, hj]
    · simpa [e] using fun hk hi => e (h.eq_of_id hj hk hi)

/-- A change of one record, the others as they were. -/
theorem SpoolLaw.perm_map {j : Job} (hj : j ∈ s.sm.jobs) (f : Job → Job) :
    (s.sm.jobs.map fun k => if k.id = j.id then f k else k).Perm (f j :: s.sm.jobs.filter fun k => k.id != j.id) := by
  refine ((h.perm_cons hj).map _).trans (.of_eq ?_)
  rw [List.map_cons, if_pos rfl]
  congr 1
  refine (List.map_congr_left fun k hk => ?_).trans (List.map_id _)
  have := (List.mem_filter.mp hk).2
  simp_all

/-- An OPEN job is not in the queue. -/
theorem SpoolLaw.not_queued {j : Job} (hj : j ∈ s.sm.jobs) (ho : j.state = .opened) : j.id ∉ s.sm.queue := fun hq => by
  obtain ⟨k, hk, e, hc⟩ := (h.queue.2 _).mp hq
  rw [h.eq_of_id hj hk e] at hc
  simp [Job.closed, ho] at hc

end

/-- The law of the spool, of a free list, a table, its charges and its queue. -/
structure Stock (free : List (Fin 512)) (jobs : List Job) (held : Source → Nat) (queue : List Nat) : Prop where
  blocks : (free ++ jobs.flatMap Job.chain).Perm (List.finRange 512)
  chains : ∀ j ∈ jobs, j.chain.length = (j.count + 63) / 64
  held : ∀ src, held src = blocksOf jobs src
  ids : (jobs.map Job.id).Nodup ∧ ∀ j ∈ jobs, 1 ≤ j.id ∧ j.id ≤ 255
  limits : jobs.length ≤ 16 ∧ ∀ src : Source, (jobs.filter fun j => j.source == src).length ≤ 4 ∧
    (jobs.filter fun j => j.state == .opened && j.source == src).length ≤ 1
  queue : queue.Nodup ∧ ∀ id, id ∈ queue ↔ ∃ j ∈ jobs, j.id = id ∧ j.closed = true

theorem spoolLaw_iff : SpoolLaw s ↔ Stock s.sm.free s.sm.jobs s.heldOf s.sm.queue :=
  ⟨fun ⟨h1, h2, h3, h4, h5, h6⟩ => ⟨h1, h2, h3, h4, h5, h6⟩, fun ⟨h1, h2, h3, h4, h5, h6⟩ => ⟨h1, h2, h3, h4, h5, h6⟩⟩

section

variable {free free' : List (Fin 512)} {jobs jobs' : List Job} {held held' : Source → Nat} {queue queue' : List Nat} {j j' : Job}

/-- The order of the table does not matter, and that of the queue neither. -/
theorem Stock.perm (h : Stock free jobs held queue) (hp : jobs.Perm jobs') (hq : queue.Perm queue') : Stock free jobs' held queue' where
  blocks := ((hp.symm.flatMap_right _).append_left _).trans h.blocks
  chains k hk := h.chains k (hp.mem_iff.mpr hk)
  held src := (h.held src).trans ((hp.filter _).map _).sum_eq
  ids := ⟨(hp.map _).nodup_iff.mp h.ids.1, fun k hk => h.ids.2 k (hp.mem_iff.mpr hk)⟩
  limits := ⟨hp.length_eq ▸ h.limits.1, fun src =>
    ⟨(hp.filter _).length_eq ▸ (h.limits.2 src).1, (hp.filter _).length_eq ▸ (h.limits.2 src).2⟩⟩
  queue := ⟨hq.nodup_iff.mp h.queue.1, fun id => by
    rw [← hq.mem_iff, h.queue.2 id]
    simp only [hp.mem_iff]⟩

theorem blocksOf_cons (src : Source) : blocksOf (j :: jobs) src = (if j.source = src then j.blocks else 0) + blocksOf jobs src := by
  unfold blocksOf
  by_cases e : j.source = src <;> simp [e]

/-- Another record than the first stands in the queue when it is closed. -/
theorem Stock.queued_rest (h : Stock free (j :: jobs) held queue) (id : Nat) :
    id ∈ queue ∧ id ≠ j.id ↔ ∃ k ∈ jobs, k.id = id ∧ k.closed = true := by
  obtain ⟨hj, -⟩ := List.nodup_cons.mp h.ids.1
  rw [h.queue.2 id]
  constructor
  · rintro ⟨⟨k, hk, rfl, hc⟩, hne⟩
    exact ⟨k, (List.mem_cons.mp hk).resolve_left fun e => hne (e ▸ rfl), rfl, hc⟩
  · rintro ⟨k, hk, rfl, hc⟩
    exact ⟨⟨k, .tail _ hk, rfl, hc⟩, fun e => hj (e ▸ List.mem_map_of_mem hk)⟩

/-- A record leaves the table, with its blocks, its charge and its place in the queue. -/
theorem Stock.remove (h : Stock free (j :: jobs) held queue)
    (hh : ∀ src, held' src = if src = j.source then held j.source - j.blocks else held src) :
    Stock (free ++ j.chain) jobs held' (queue.filter fun i => i != j.id) := by
  refine ⟨by simpa using h.blocks, fun k hk => h.chains k (.tail _ hk), fun src => ?_,
    ⟨(List.nodup_cons.mp h.ids.1).2, fun k hk => h.ids.2 k (.tail _ hk)⟩, ⟨?_, fun src => ⟨?_, ?_⟩⟩, h.queue.1.filter _, fun id => ?_⟩
  · rw [hh, h.held, h.held, blocksOf_cons, blocksOf_cons]
    split
    · next e => simp [e]
    · next e => simp [Ne.symm e]
  · have := h.limits.1; simp at this; omega
  · exact ((List.sublist_cons_self _ _).filter _).length_le.trans (h.limits.2 src).1
  · exact ((List.sublist_cons_self _ _).filter _).length_le.trans (h.limits.2 src).2
  · rw [← h.queued_rest]; simp

/-- A record takes the place of another of its id and source, OPEN only if that was. -/
theorem Stock.swap (h : Stock free (j :: jobs) held queue) (hid : j'.id = j.id) (hs : j'.source = j.source)
    (ho : j'.state = .opened → j.state = .opened) (hb : (free' ++ j'.chain).Perm (free ++ j.chain))
    (hc : j'.chain.length = (j'.count + 63) / 64) (hr : ∀ src, src ≠ j.source → held' src = held src)
    (hh : held' j.source + j.blocks = held j.source + j'.blocks) (hq : queue'.Nodup)
    (hm : ∀ id, id ∈ queue' ↔ id = j.id ∧ j'.closed = true ∨ id ∈ queue ∧ id ≠ j.id) : Stock free' (j' :: jobs) held' queue' := by
  refine ⟨?_, ?_, fun src => ?_, ⟨?_, ?_⟩, ⟨h.limits.1, fun src => ⟨?_, ?_⟩⟩, hq, fun id => ?_⟩
  · refine .trans ?_ h.blocks
    simpa using hb.append_right (jobs.flatMap Job.chain)
  · exact List.forall_mem_cons.mpr ⟨hc, fun k hk => h.chains k (.tail _ hk)⟩
  · have hb := h.held src
    rw [blocksOf_cons] at hb ⊢
    by_cases e : src = j.source
    · subst e; simp only [hs, if_true] at hb ⊢; omega
    · simpa [hs, Ne.symm e, hr src e] using hb
  · simpa [hid] using h.ids.1
  · exact List.forall_mem_cons.mpr ⟨hid ▸ h.ids.2 j (.head _), fun k hk => h.ids.2 k (.tail _ hk)⟩
  · have := (h.limits.2 src).1
    by_cases e : j.source = src <;> simpa [e, hs] using this
  · have := (h.limits.2 src).2
    by_cases e : j'.state = .opened
    · by_cases e' : j.source = src <;> simpa [e, ho e, hs, e'] using this
    · rw [List.filter_cons_of_neg (by simp [e])]
      exact ((List.sublist_cons_self j jobs).filter _).length_le.trans this
  · rw [hm, h.queued_rest, List.exists_mem_cons_iff, hid]
    exact or_congr_left (and_congr_left fun _ => eq_comm)

/-- A closed record takes the place of a record of its own: its id goes to the queue. -/
theorem Stock.close (h : Stock free (j :: jobs) held queue) (hid : j'.id = j.id) (hs : j'.source = j.source) (hn : j'.count = j.count)
    (hc : j'.chain = j.chain) (hcl : j'.closed = true) : Stock free (j' :: jobs) held (j.id :: queue.filter fun i => i != j.id) := by
  refine h.swap hid hs (fun e => by simp [Job.closed, e] at hcl) (by rw [hc]) (by rw [hc, hn]; exact h.chains j (.head _))
    (fun _ _ => rfl) (by simp [Job.blocks, hc]) (List.nodup_cons.mpr ⟨by simp, h.queue.1.filter _⟩) fun id => ?_
  simp [hcl]

/-- Blocks from the head of the free list join a record's chain, with its charge. -/
theorem Stock.grow (h : Stock free (j :: jobs) held queue) (n : Nat) (hn : blocksNeeded j.count n ≤ free.length)
    (hh : ∀ src, held' src = if src = j.source then held j.source + blocksNeeded j.count n else held src)
    (hid : j'.id = j.id) (hs : j'.source = j.source) (hst : j'.state = j.state) (hc : j'.chain = j.chain ++ free.take (blocksNeeded j.count n))
    (hcount : j'.count = j.count + n) : Stock (free.drop (blocksNeeded j.count n)) (j' :: jobs) held' queue := by
  have hl := h.chains j (.head _)
  refine h.swap hid hs (fun e => hst ▸ e) ?_ ?_ (fun src e => by simp [hh, e]) ?_ h.queue.1 fun id => ?_
  · rw [hc]
    refine List.perm_append_comm.trans ?_
    rw [List.append_assoc, List.take_append_drop]
    exact List.perm_append_comm
  · rw [hc, hcount, blocks_add_blocksNeeded, List.length_append, List.length_take, min_eq_left hn, hl]
  · rw [hh, if_pos rfl, Job.blocks, Job.blocks, hc, List.length_append, List.length_take, min_eq_left hn]
    omega
  · have hj := h.queue.2 j.id
    have hcl : j'.closed = j.closed := by simp [Job.closed, hst]
    have hjq : j.id ∈ queue ↔ j.closed = true := by
      rw [hj]
      refine ⟨fun ⟨k, hk, e, hc⟩ => ?_, fun hc => ⟨j, .head _, rfl, hc⟩⟩
      rwa [← List.inj_on_of_nodup_map h.ids.1 hk (.head _) e]
    by_cases e : id = j.id
    · simp [e, hjq, hcl]
    · simp [e]

/-- A record without a character joins the table under an id of its own. -/
theorem Stock.add (h : Stock free jobs held queue) (hid : ∀ k ∈ jobs, k.id ≠ j.id) (hr : 1 ≤ j.id ∧ j.id ≤ 255) (hn : j.count = 0)
    (hc : j.chain = []) (ho : j.state = .opened) (hl : jobs.length < 16) (hsrc : (jobs.filter fun k => k.source == j.source).length < 4)
    (hone : ∀ k ∈ jobs, k.source = j.source → k.state ≠ .opened) : Stock free (j :: jobs) held queue := by
  refine ⟨by simpa [hc] using h.blocks, List.forall_mem_cons.mpr ⟨by simp [hc, hn], h.chains⟩, fun src => ?_,
    ⟨List.nodup_cons.mpr ⟨by simpa using hid, h.ids.1⟩, List.forall_mem_cons.mpr ⟨hr, h.ids.2⟩⟩,
    ⟨hl, fun src => ⟨?_, ?_⟩⟩, h.queue.1, fun id => ?_⟩
  · rw [h.held, blocksOf_cons]; simp [Job.blocks, hc]
  · by_cases e : j.source = src
    · subst e; simpa using hsrc
    · simpa [e] using (h.limits.2 src).1
  · by_cases e : j.source = src
    · subst e
      have : (jobs.filter fun k => k.state == .opened && k.source == j.source) = [] :=
        List.filter_eq_nil_iff.mpr fun k hk => by
          have := hone k hk
          simp only [Bool.and_eq_true, beq_iff_eq, not_and]
          exact fun h1 h2 => this h2 h1
      rw [List.filter_cons, this]
      split <;> simp
    · simpa [e] using (h.limits.2 src).2
  · rw [h.queue.2]
    simp [Job.closed, ho]

/-- Records change, none of them in what the law reads. -/
theorem Stock.map (h : Stock free jobs held queue) (f : Job → Job) (hf : ∀ k ∈ jobs, k.SameStock (f k)) :
    Stock free (jobs.map f) held queue := by
  have ids : (jobs.map f).map Job.id = jobs.map Job.id := by
    rw [List.map_map]; exact List.map_congr_left fun k hk => (hf k hk).1
  have chains : (jobs.map f).flatMap Job.chain = jobs.flatMap Job.chain := by
    rw [List.flatMap_map]; exact List.flatMap_congr fun k hk => (hf k hk).2.2.2.1
  have ofSource (src : Source) : (jobs.map f).filter (fun k => k.source == src) = (jobs.filter fun k => k.source == src).map f := by
    rw [List.filter_map]
    exact congrArg _ (List.filter_congr fun k hk => by simp [(hf k hk).2.1])
  have opened (src : Source) : (jobs.map f).filter (fun k => k.state == .opened && k.source == src) =
      (jobs.filter fun k => k.state == .opened && k.source == src).map f := by
    rw [List.filter_map]
    refine congrArg _ (List.filter_congr fun k hk => ?_)
    obtain ⟨-, hs, -, -, ho⟩ := hf k hk
    have : ((f k).state == .opened) = (k.state == .opened) := by rw [Bool.eq_iff_iff]; simpa using ho
    simp [hs, this]
  refine ⟨chains ▸ h.blocks, ?_, fun src => ?_, ⟨ids ▸ h.ids.1, ?_⟩, ⟨by simpa using h.limits.1, fun src => ⟨?_, ?_⟩⟩, h.queue.1, fun id => ?_⟩
  · rintro _ hm
    obtain ⟨k, hk, rfl⟩ := List.mem_map.mp hm
    obtain ⟨-, -, hn, hc, -⟩ := hf k hk
    rw [hn, hc]; exact h.chains k hk
  · rw [h.held, blocksOf, blocksOf, ofSource, List.map_map]
    exact congrArg _ (List.map_congr_left fun k hk => by simp [Job.blocks, (hf k (List.mem_of_mem_filter hk)).2.2.2.1])
  · rintro _ hm
    obtain ⟨k, hk, rfl⟩ := List.mem_map.mp hm
    rw [(hf k hk).1]; exact h.ids.2 k hk
  · rw [ofSource, List.length_map]; exact (h.limits.2 src).1
  · rw [opened, List.length_map]; exact (h.limits.2 src).2
  · rw [h.queue.2]
    simp only [List.mem_map, exists_exists_and_eq_and]
    refine exists_congr fun k => and_congr_right fun hk => ?_
    obtain ⟨hid, -, -, -, ho⟩ := hf k hk
    have : (f k).closed = k.closed := by
      unfold Job.closed
      rw [Bool.eq_iff_iff]
      simpa using not_congr ho.symm |>.symm
    rw [hid, this]

end

theorem SpoolLaw.congr (h : SpoolLaw s) (hs : t.sm = s.sm) (hh : ∀ src, t.heldOf src = s.heldOf src) : SpoolLaw t := by
  obtain ⟨h1, h2, h3, h4, h5, h6⟩ := h
  exact ⟨hs ▸ h1, hs ▸ h2, fun src => (hh src).trans (hs ▸ h3 src), hs ▸ h4, hs ▸ h5, hs ▸ h6⟩

/-! ### The operations -/

theorem SpoolLaw.split (h : SpoolLaw s) {j : Job} (hj : j ∈ s.sm.jobs) :
    Stock s.sm.free (j :: s.sm.jobs.filter fun k => k.id != j.id) s.heldOf s.sm.queue :=
  (spoolLaw_iff.mp h).perm (h.perm_cons hj) (.refl _)

theorem SpoolLaw.removeJob (h : SpoolLaw s) {j : Job} (hj : j ∈ s.sm.jobs) (e : Ending) : SpoolLaw (s.removeJob j e) := by
  have hr := (h.split hj).remove (held' := (s.removeJob j e).heldOf) (State.heldOf_removeJob j e)
  refine spoolLaw_iff.mpr ?_
  rw [State.removeJob_sm]
  exact hr

/-- A closed record takes the place of a record, and its id a place in the queue. -/
theorem SpoolLaw.close (h : SpoolLaw s) {j : Job} (hj : j ∈ s.sm.jobs) (f : Job → Job)
    (hf : (f j).id = j.id ∧ (f j).source = j.source ∧ (f j).count = j.count ∧ (f j).chain = j.chain ∧ (f j).closed = true)
    (hjobs : t.sm.jobs = s.sm.jobs.map fun k => if k.id = j.id then f k else k) (hfree : t.sm.free = s.sm.free)
    (hq : (j.id :: s.sm.queue.filter fun i => i != j.id).Perm t.sm.queue) (hh : ∀ src, t.heldOf src = s.heldOf src) : SpoolLaw t := by
  obtain ⟨hid, hs, hn, hc, hcl⟩ := hf
  have hp := ((h.split hj).close hid hs hn hc hcl).perm (h.perm_map hj f).symm hq
  refine spoolLaw_iff.mpr ?_
  rw [hjobs, hfree, funext hh]
  exact hp

theorem SpoolLaw.enqueue (h : SpoolLaw s) {j : Job} (hj : j ∈ s.sm.jobs) (ho : j.state = .opened) : SpoolLaw (s.enqueue j) := by
  obtain ⟨u, hu⟩ := s.enqueue_sm j
  refine h.close hj (fun k => { k with state := .queued, idleTimer := none }) ⟨rfl, rfl, rfl, rfl, rfl⟩ (by rw [hu]) (by rw [hu]) ?_
    (State.heldOf_congr (by simp))
  rw [hu, List.filter_eq_self.mpr fun i hi => ?_]
  · exact (perm_placeInQueue _ _ _ _).symm
  · have : i ≠ j.id := fun e => h.not_queued hj ho (e ▸ hi)
    simpa using this

theorem SpoolLaw.map (h : SpoolLaw s) (f : Job → Job) (hf : ∀ k ∈ s.sm.jobs, k.SameStock (f k)) (hjobs : t.sm.jobs = s.sm.jobs.map f)
    (hfree : t.sm.free = s.sm.free) (hq : t.sm.queue = s.sm.queue) (hh : ∀ src, t.heldOf src = s.heldOf src) : SpoolLaw t := by
  refine spoolLaw_iff.mpr ?_
  rw [hjobs, hfree, hq, funext hh]
  exact (spoolLaw_iff.mp h).map f hf

theorem SpoolLaw.mapJob (h : SpoolLaw s) (id : Nat) (f : Job → Job) (hf : ∀ k ∈ s.sm.jobs, k.id = id → k.SameStock (f k)) :
    SpoolLaw (s.mapJob id f) := by
  refine h.map (fun k => if k.id = id then f k else k) (fun k hk => ?_) rfl rfl rfl fun src => State.heldOf_congr rfl src
  split
  · exact hf k hk ‹_›
  · exact ⟨rfl, rfl, rfl, rfl, Iff.rfl⟩

theorem SpoolLaw.promote (h : SpoolLaw s) {j : Job} (hj : j ∈ s.sm.jobs) : SpoolLaw (s.promote j) := by
  have hm : SpoolLaw (s.mapJob j.id fun k => { k with priority := .urgent }) :=
    h.mapJob _ _ fun _ _ _ => ⟨rfl, rfl, rfl, rfl, Iff.rfl⟩
  unfold State.promote
  dsimp only
  split
  · exact h
  · split
    · exact hm
    · next ho =>
      refine h.close hj (fun k => { k with priority := .urgent }) ⟨rfl, rfl, rfl, rfl, by simpa [Job.closed] using ho⟩
        (by simp [State.mapJob]) (by simp) ?_ (State.heldOf_congr (by simp))
      simpa using (perm_placeInQueue _ _ _ _).symm

theorem SpoolLaw.toFront (h : SpoolLaw s) {j : Job} (hj : j ∈ s.sm.jobs) : SpoolLaw (s.toFront j) :=
  h.close hj (fun k => { k with state := .queued }) ⟨rfl, rfl, rfl, rfl, rfl⟩ rfl rfl (.refl _) (State.heldOf_congr rfl)

theorem SpoolLaw.openJob (h : SpoolLaw s) {src : Source} (c : Nat) (p : Priority) (ho : s.openJob? src = none)
    (hr : s.tableRoom src = true) : SpoolLaw (s.openJob src c p) := by
  simp only [State.tableRoom, Bool.and_eq_true, decide_eq_true_eq] at hr
  obtain ⟨⟨d, -, hid, -⟩, hne⟩ := freshId_spec (s := s) (by omega)
  have hone : ∀ k ∈ s.sm.jobs, k.source = src → k.state ≠ .opened := fun k hk hs he => by
    have := List.find?_eq_none.mp ho k hk
    simp [hs, he] at this
  have ha := ((spoolLaw_iff.mp h).add (j := newJob s s.freshId src c p) hne (by rw [newJob]; dsimp only; omega) rfl rfl rfl hr.1 hr.2
    hone).perm (List.perm_append_singleton _ _).symm (.refl _)
  refine spoolLaw_iff.mpr ?_
  rw [State.openJob_sm, funext (State.heldOf_congr (s := s) (State.openJob_sd s src c p))]
  exact ha

theorem SpoolLaw.admitText (h : SpoolLaw s) {j : Job} (hj : j ∈ s.sm.jobs) {text : List Byte}
    (ha : s.admission j.source j.count text.length = none) : SpoolLaw (s.admitText j text) := by
  have hg := ((h.split hj).grow (held' := (s.admitText j text).heldOf) (j' := { j with
      chain := j.chain ++ s.sm.free.take (blocksNeeded j.count text.length), count := j.count + text.length
      idleTimer := some (1000 * s.sm.idleTimeout) }) text.length (admission_eq_none ha).2 (State.heldOf_admitText j text) rfl rfl rfl rfl
      rfl).perm (h.perm_map hj fun k => { k with
        chain := j.chain ++ s.sm.free.take (blocksNeeded j.count text.length), count := j.count + text.length
        idleTimer := some (1000 * s.sm.idleTimeout) }).symm (.refl _)
  refine spoolLaw_iff.mpr ?_
  rw [State.admitText_sm]
  exact hg

theorem State.heldOf_restartBlocks (s : State) (src : Source) : s.restartBlocks.heldOf src = 0 := by
  cases src <;> simp [State.heldOf, State.restartBlocks, Directory.atReset, State.entry, Entry.unused]

theorem State.heldOf_restartTraffic (s : State) (src : Source) : s.restartTraffic.heldOf src = 0 := by
  cases src <;> simp [State.heldOf, State.restartTraffic, Directory.restarted, State.entry, Entry.restarted]

/-- A change of an entry's routing leaves the charges. -/
theorem State.heldOf_setEntry (s : State) (a : Address) (e : Entry) (he : e.held = (s.entry a).held) (src : Source) :
    (s.setEntry a e).heldOf src = s.heldOf src := by
  cases src
  · rfl
  · simp only [State.heldOf, State.entry_setEntry_eq]
    split
    · next h => rw [he, h]
    · rfl

theorem State.heldOf_makePrinter (s : State) (a : Address) (src : Source) : (s.makePrinter a).heldOf src = s.heldOf src := by
  have hv : (s.vacatePrinter a).heldOf src = s.heldOf src := by
    unfold State.vacatePrinter
    (repeat' split)
    · rfl
    · rfl
    · rw [State.heldOf_congr (State.clearKeeping_sd _ _), State.heldOf_setEntry]; rfl
  unfold State.makePrinter
  split
  · rfl
  · dsimp only
    rw [State.heldOf_congr (State.clearKeeping_sd _ _), State.heldOf_setEntry, hv]; rfl

/-- A spool without a job, as after a reset. -/
theorem SpoolLaw.of_empty (hs : t.sm.free = List.finRange 512) (hj : t.sm.jobs = []) (hq : t.sm.queue = [])
    (hh : ∀ src, t.heldOf src = 0) : SpoolLaw t := by
  refine spoolLaw_iff.mpr ?_
  rw [hs, hj, hq]
  exact ⟨by simp, by simp, fun src => by simp [hh, blocksOf], by simp, by simp, by simp⟩

theorem still_spoolLaw : Still SpoolLaw where
  blind s t he hp _ hs h := h.congr hs fun src => by cases src <;> simp [State.heldOf, State.entry, he, hp]
  tick s h := h.map (fun j => { j with idleTimer := tickTimer j.idleTimer }) (fun _ _ => ⟨rfl, rfl, rfl, rfl, Iff.rfl⟩) rfl rfl rfl
    fun src => by cases src <;> rfl
  restartBlocks s h := .of_empty (by simp only [State.restartBlocks, Spool.emptied]) rfl rfl s.heldOf_restartBlocks
  restartTraffic s h := .of_empty (by simp only [State.restartTraffic, Spool.emptied]) rfl rfl s.heldOf_restartTraffic
  entry s a e he h := h.congr (by simp) (s.heldOf_setEntry a e he.held)
  makePrinter s a _ h := h.congr (by simp) (s.heldOf_makePrinter a)
  port s n q _ h := h.congr (by simp) (State.heldOf_congr (by simp))
  portDown s n q _ _ _ h := by
    have h1 : SpoolLaw (s.setPort n q) := h.congr (by simp) (State.heldOf_congr (by simp))
    unfold State.discardOpen
    (repeat' split)
    exacts [h1, h1, h1.removeJob (openJob?_spec ‹_›).1 _]
  settings s t m h := by
    obtain ⟨h1, h2, h3, h4, h5, h6⟩ := h
    exact ⟨h1, h2, h3, h4, h5, h6⟩
  mapJob s id f hf h := h.mapJob id f hf
  setState s j st hj ho hst h := h.mapJob _ _ fun k hk e => by
    have := h.eq_of_id hj hk e
    exact ⟨rfl, rfl, rfl, rfl, by simp [this, ho, hst]⟩
  toFront s j hj h := h.toFront hj
  openJob s src k p ho hr _ h := h.openJob k p ho hr
  removeJob s j e hj h := h.removeJob hj e
  enqueue s j hj ho h := h.enqueue hj ho
  promote s j hj h := h.promote hj

theorem admitsText_spoolLaw : AdmitsText SpoolLaw := fun _ _ _ hj _ ha h => h.admitText hj ha

/-- Settles O11: blocks, charges, ids and places go together through every operation on the table. -/
theorem stepKeepsTheSpoolLaw : Obligations.StepKeepsTheSpoolLaw := fun _ _ h ht =>
  (still_spoolLaw.calm.steady.kept admitsText_spoolLaw).step h ht

end Sys2Proof.Machine
end

section
/-! PROOF. The laws of the directory and of the OPEN jobs, and those of the ports, through every step (R2, R81, R101, R46, R65, R68, R76,
R77, R141). -/

namespace Sys2Proof.Machine

variable {s t : State}

/-! ### The directory -/

/-- The law of the directory speaks of origins and locations. -/
theorem DirectoryLaw.congr (h : DirectoryLaw s)
    (he : ∀ a, (t.entry a).origin = (s.entry a).origin ∧ (t.entry a).location = (s.entry a).location) : DirectoryLaw t := by
  simpa only [DirectoryLaw, (he _).1, (he _).2] using h

theorem DirectoryLaw.setEntry (h : DirectoryLaw s) {a : Address} {e : Entry} (he : s.Reroutes a e) : DirectoryLaw (s.setEntry a e) := by
  obtain ⟨hl, hu⟩ := h
  have placed (b : Address) (hb : b ≠ a) (e' : e.location = (s.entry b).location)
      (hp : e.location.isPort = true ∨ e.location = .printer) : False := by
    rcases he.place with hp' | ⟨-, hn, hq⟩
    · exact hb (hu b a (by rw [← e', hp']) (e' ▸ hp))
    · rcases hp with hp | hp
      · rw [hq b hb e'.symm] at hp; cases hp
      · exact hn hp
  refine ⟨fun b hb => ?_, fun b c hbc hp => ?_⟩
  · rw [State.entry_setEntry_eq] at hb ⊢
    split at hb
    · rw [if_pos ‹_›]
      rcases he.origin with ho | ho | ⟨ho, hs⟩
      · rw [ho] at hb; cases hb
      · exact ho
      · rw [hs]; exact hl a (ho ▸ hb)
    · rw [if_neg ‹_›]; exact hl b hb
  · simp only [State.entry_setEntry_eq] at hbc hp
    by_cases hb : b = a <;> by_cases hc : c = a <;> simp only [hb, hc, if_true, if_false] at hbc hp ⊢
    · exact (placed c hc hbc hp).elim
    · exact (placed b hb hbc.symm (hbc ▸ hp)).elim
    · exact hu b c hbc hp

theorem DirectoryLaw.makePrinter (h : DirectoryLaw s) (a : Address) : DirectoryLaw (s.makePrinter a) := by
  by_cases ha : (s.entry a).location = .printer
  · rwa [State.makePrinter_of_printer s ha]
  · obtain ⟨hl, hu⟩ := id h
    have he := State.entry_makePrinter h ha
    refine ⟨fun b hb => ?_, fun b c hbc hp => ?_⟩
    · rw [he] at hb ⊢
      split at hb
      · cases hb
      · split at hb
        · cases hb
        · rw [if_neg ‹_›, if_neg ‹_›]; exact hl b hb
    · rw [he] at hbc hp
      rw [he] at hbc
      by_cases hb : b = a <;> by_cases hc : c = a <;> simp only [hb, hc, if_true, if_false] at hbc hp ⊢
      · split at hbc <;> simp_all [Entry.vacated]
      · split at hbc <;> simp_all [Entry.vacated]
      · split at hp
        · simp [Entry.vacated, Location.isPort] at hp
        · rw [if_neg ‹_›] at hbc
          split at hbc
          · simp [hbc, Entry.vacated, Location.isPort] at hp
          · exact hu b c hbc hp

theorem DirectoryLaw.restartTraffic (h : DirectoryLaw s) : DirectoryLaw s.restartTraffic := by
  have he (a : Address) : s.restartTraffic.entry a = (s.entry a).restarted :=
    s.entry_of_restarted (t := s.restartTraffic) (by rw [State.restartTraffic]) a
  refine ⟨fun a ha => ?_, fun a b hab hp => ?_⟩
  · rw [he] at ha; cases ha
  · rw [he, he] at hab
    rw [he] at hp
    unfold Entry.restarted at hab hp
    dsimp only at hab hp
    split at hp
    · simp [Location.isPort] at hp
    · rw [if_neg ‹_›] at hab
      split at hab
      · simp [hab, Location.isPort] at hp
      · exact h.2 a b hab hp

theorem still_directoryLaw : Still DirectoryLaw where
  blind s t he _ _ _ h := h.congr fun a => by rw [State.entry, he]; exact ⟨rfl, rfl⟩
  tick s h := h.congr fun _ => ⟨rfl, rfl⟩
  restartBlocks s h := by
    constructor <;> simp [State.restartBlocks, Directory.atReset, State.entry, Entry.unused, Location.isPort]
  restartTraffic s h := h.restartTraffic
  entry s a e he h := h.setEntry he
  makePrinter s a _ h := h.makePrinter a
  port s n q _ h := h.congr fun _ => by simp
  portDown s n q _ _ _ h := h.congr fun _ => by simp
  settings s _ _ h := h.congr fun _ => ⟨rfl, rfl⟩
  mapJob s _ _ _ h := h.congr fun _ => ⟨rfl, rfl⟩
  setState s _ _ _ _ _ h := h.congr fun _ => ⟨rfl, rfl⟩
  toFront s j _ h := h.congr fun _ => ⟨rfl, rfl⟩
  openJob s src k p _ _ _ h := h.congr fun _ => by simp
  removeJob s j e _ h := h.congr fun _ => by simp
  enqueue s j _ _ h := h.congr fun _ => by simp
  promote s j _ h := h.congr fun _ => by simp

theorem admitsText_directoryLaw : AdmitsText DirectoryLaw := fun _ _ _ _ _ _ h => h.congr fun _ => by simp

/-! ### The OPEN jobs of the desks -/

/-- The desk of a source, if it is one, lives on a port that is not out of service: what the law asks for an OPEN job of the source. -/
def State.Serves (s : State) (src : Source) : Prop :=
  ∀ a, src = .desk a → ∃ n, (s.entry a).location = .port n ∧ (s.port n).state ≠ .standby ∧ (s.port n).state ≠ .isolated

theorem openJobLaw_iff : OpenJobLaw s ↔ ∀ j ∈ s.sm.jobs, j.state = .opened → s.Serves j.source := Iff.rfl

theorem State.Serves.congr {src : Source} (h : s.Serves src) (hl : ∀ a, (t.entry a).location = (s.entry a).location)
    (hp : ∀ n, (t.port n).state = (s.port n).state) : t.Serves src := fun a e => by
  obtain ⟨n, h1, h2⟩ := h a e
  exact ⟨n, by rw [hl, h1], by rw [hp]; exact h2⟩

/-- Every OPEN job of the later state was one before, and its desk still lives on a port in service. -/
theorem OpenJobLaw.of_jobs (h : OpenJobLaw s) (hs : ∀ src, s.Serves src → t.Serves src)
    (hj : ∀ j ∈ t.sm.jobs, j.state = .opened → ∃ k ∈ s.sm.jobs, k.state = .opened ∧ k.source = j.source) : OpenJobLaw t :=
  openJobLaw_iff.mpr fun j hm ho => by
    obtain ⟨k, hk, hko, e⟩ := hj j hm ho
    exact hs _ (e ▸ openJobLaw_iff.mp h k hk hko)

/-- The table stays, and every desk with a port in service keeps it. -/
theorem OpenJobLaw.of_serves (h : OpenJobLaw s) (hj : t.sm.jobs = s.sm.jobs) (hs : ∀ src, s.Serves src → t.Serves src) : OpenJobLaw t :=
  h.of_jobs hs fun j hm ho => ⟨j, hj ▸ hm, ho, rfl⟩

/-- The routing and the ports' states stay, and no job opens. -/
theorem OpenJobLaw.of_table (h : OpenJobLaw s)
    (hj : ∀ j ∈ t.sm.jobs, j.state = .opened → ∃ k ∈ s.sm.jobs, k.state = .opened ∧ k.source = j.source)
    (hl : ∀ a, (t.entry a).location = (s.entry a).location := by simp) (hp : ∀ n, (t.port n).state = (s.port n).state := by simp) :
    OpenJobLaw t :=
  h.of_jobs (fun _ hs => hs.congr hl hp) hj

/-- Records change, and an OPEN one was OPEN before, of its source. -/
theorem opened_of_map {l : List Job} {f : Job → Job} (hf : ∀ k ∈ l, (f k).state = .opened → k.state = .opened ∧ k.source = (f k).source) :
    ∀ j ∈ l.map f, j.state = .opened → ∃ k ∈ l, k.state = .opened ∧ k.source = j.source := fun j hm ho => by
  obtain ⟨k, hk, rfl⟩ := List.mem_map.mp hm
  exact ⟨k, hk, hf k hk ho⟩

theorem State.notify_port_state (m n : PortNo) (x : Notice) : ((s.notify m x).port n).state = (s.port n).state := by
  unfold State.notify
  split
  · by_cases e : n = m
    · subst e; simp [State.mapPort, Port.queueNotice]
    · simp [e]
  · rfl

theorem State.notifyJob_port_state (src : Source) (id : Nat) (x : NoticeState) (p : Nat) (n : PortNo) :
    ((s.notifyJob src id x p).port n).state = (s.port n).state := by
  unfold State.notifyJob
  (repeat' split)
  exacts [rfl, State.notify_port_state _ _ _, rfl]

theorem State.removeJob_port_state (j : Job) (e : Ending) (n : PortNo) : ((s.removeJob j e).port n).state = (s.port n).state := by
  unfold State.removeJob
  rw [State.notifyJob_port_state]; simp

theorem State.openJob_port_state (src : Source) (c : Nat) (p : Priority) (n : PortNo) :
    ((s.openJob src c p).port n).state = (s.port n).state := by
  unfold State.openJob
  dsimp only
  rw [State.notifyJob_port_state]; rfl

theorem State.enqueue_port_state (j : Job) (n : PortNo) : ((s.enqueue j).port n).state = (s.port n).state := by
  unfold State.enqueue
  dsimp only
  rw [State.notifyJob_port_state]; rfl

theorem State.promote_port_state (j : Job) (n : PortNo) : ((s.promote j).port n).state = (s.port n).state := by
  unfold State.promote
  dsimp only
  (repeat' split)
  · rfl
  · rfl
  · rw [State.notifyJob_port_state]; rfl

theorem opened_of_mem_filter {l : List Job} (p : Job → Bool) :
    ∀ j ∈ l.filter p, j.state = .opened → ∃ k ∈ l, k.state = .opened ∧ k.source = j.source := fun j hm ho =>
  ⟨j, List.mem_of_mem_filter hm, ho, rfl⟩

theorem OpenJobLaw.mapJob (h : OpenJobLaw s) (id : Nat) (f : Job → Job)
    (hf : ∀ k ∈ s.sm.jobs, k.id = id → (f k).state = .opened → k.state = .opened ∧ k.source = (f k).source)
    (hj : t.sm.jobs = s.sm.jobs.map fun k => if k.id = id then f k else k)
    (hl : ∀ a, (t.entry a).location = (s.entry a).location := by simp) (hp : ∀ n, (t.port n).state = (s.port n).state := by simp) :
    OpenJobLaw t := by
  refine h.of_table (hj ▸ opened_of_map fun k hk => ?_) hl hp
  split
  · exact hf k hk ‹_›
  · exact fun ho => ⟨ho, rfl⟩

theorem OpenJobLaw.setEntry (h : OpenJobLaw s) (hd : DirectoryLaw s) {a : Address} {e : Entry} (he : s.Reroutes a e) :
    OpenJobLaw (s.setEntry a e) := by
  refine h.of_serves rfl fun src hs b hb => ?_
  obtain ⟨n, hl, hst, hi⟩ := hs b hb
  refine ⟨n, ?_, hst, hi⟩
  rw [State.entry_setEntry_eq]
  split
  · next e' =>
    subst e'
    rcases he.place with hp | ⟨hb | ho, -, -⟩
    · rw [hp, hl]
    · rw [(s.onBusyPort_iff b).mpr ⟨n, hl, hst⟩] at hb; cases hb
    · have := hd.1 b ho
      rw [hl] at this; cases this
  · exact hl

theorem OpenJobLaw.makePrinter (h : OpenJobLaw s) (hd : DirectoryLaw s) {a : Address} (hp : (s.entry a).location.isPort = false) :
    OpenJobLaw (s.makePrinter a) := by
  by_cases ha : (s.entry a).location = .printer
  · rwa [State.makePrinter_of_printer s ha]
  · refine h.of_serves (by simp) fun src hs b hb => ?_
    obtain ⟨n, hl, hst⟩ := hs b hb
    refine ⟨n, ?_, by rwa [State.port_congr (State.makePrinter_ports _ _)]⟩
    rw [State.entry_makePrinter hd ha]
    split
    · next e => rw [← e, hl] at hp; cases hp
    · rw [if_neg (by rw [hl]; simp), hl]

/-- The address of a port is the one whose entry says so. -/
theorem DirectoryLaw.mappedAddress_eq (h : DirectoryLaw s) {a : Address} {n : PortNo} (hl : (s.entry a).location = .port n) :
    s.mappedAddress n = some a := by
  cases hm : s.mappedAddress n with
  | none => simpa [hl] using List.find?_eq_none.mp hm a (List.mem_finRange a)
  | some b =>
    have hb := mappedAddress_spec hm
    rw [h.2 b a (hb.trans hl.symm) (.inl (by rw [hb]; rfl))]

theorem eq_of_length_le_one {α : Type} {l : List α} {a b : α} (h : l.length ≤ 1) (ha : a ∈ l) (hb : b ∈ l) : a = b := by
  match l, h with
  | [x], _ => rw [List.mem_singleton.mp ha, List.mem_singleton.mp hb]

/-- The OPEN job of a source is the one that is OPEN and the source's. -/
theorem SpoolLaw.openJob?_eq (h : SpoolLaw s) {j : Job} (hj : j ∈ s.sm.jobs) (ho : j.state = .opened) :
    s.openJob? j.source = some j := by
  cases hk : s.openJob? j.source with
  | none =>
    have := List.find?_eq_none.mp hk j hj
    simp [ho] at this
  | some k =>
    obtain ⟨hm, hko, hks⟩ := openJob?_spec hk
    have hl := (h.limits.2 j.source).2
    have mem {i : Job} (hi : i ∈ s.sm.jobs) (hio : i.state = .opened) (his : i.source = j.source) :
        i ∈ s.sm.jobs.filter fun i => i.state == .opened && i.source == j.source := by simp [hi, hio, his]
    rw [eq_of_length_le_one hl (mem hm hko hks) (mem hj ho rfl)]

/-- A port that goes out of service takes the OPEN job of its address with it (R81, R101). -/
theorem OpenJobLaw.portDown (h : OpenJobLaw s) (hd : DirectoryLaw s) (hs : SpoolLaw s) (n : PortNo) (q : Port) :
    OpenJobLaw ((s.setPort n q).discardOpen n) := by
  have discarded {k : Job} (hk : k ∈ s.sm.jobs) (ho : k.state = .opened) {b : Address} (hb : k.source = .desk b)
      (hl : (s.entry b).location = .port n) : (s.setPort n q).discardOpen n = (s.setPort n q).removeJob k .discarded := by
    have hm : (s.setPort n q).mappedAddress n = some b := hd.mappedAddress_eq hl
    have hj : (s.setPort n q).openJob? (.desk b) = some k := hb ▸ hs.openJob?_eq hk ho
    simp only [State.discardOpen, hm, hj]
  have jobs {k : Job} (hk : k ∈ ((s.setPort n q).discardOpen n).sm.jobs) : k ∈ s.sm.jobs := by
    unfold State.discardOpen at hk
    (repeat' split at hk)
    · exact hk
    · exact hk
    · rw [State.removeJob_sm] at hk; exact List.mem_of_mem_filter hk
  refine openJobLaw_iff.mpr fun k hk ho b hb => ?_
  obtain ⟨m, hl, hst⟩ := h k (jobs hk) ho b hb
  have hm : m ≠ n := by
    rintro rfl
    rw [discarded (jobs hk) ho hb hl, State.removeJob_sm] at hk
    simp at hk
  refine ⟨m, by simpa using hl, ?_⟩
  have hp : (((s.setPort n q).discardOpen n).port m).state = (s.port m).state := by
    have hq : (s.setPort n q).port m = s.port m := State.port_setPort_of_ne _ _ hm
    unfold State.discardOpen
    (repeat' split)
    · rw [hq]
    · rw [hq]
    · rw [State.removeJob_port_state, hq]
  rwa [hp]

/-- The laws that bear on the OPEN jobs of the desks. -/
structure DeskLaws (s : State) : Prop where
  directory : DirectoryLaw s
  spool : SpoolLaw s
  open_ : OpenJobLaw s

theorem still_deskLaws : Still DeskLaws where
  blind s t he hp hports hs h := ⟨still_directoryLaw.blind s t he hp hports hs h.1, still_spoolLaw.blind s t he hp hports hs h.2,
    h.3.of_serves (by rw [hs]) fun src hv => hv.congr (fun a => by rw [State.entry, he]; rfl) fun n => by rw [State.port, hports]; rfl⟩
  tick s h := ⟨still_directoryLaw.tick s h.1, still_spoolLaw.tick s h.2,
    h.3.of_table (opened_of_map fun _ _ ho => ⟨ho, rfl⟩) (fun _ => rfl) fun n => by simp [State.port, State.tick, Port.tick]⟩
  restartBlocks s h := ⟨still_directoryLaw.restartBlocks s h.1, still_spoolLaw.restartBlocks s h.2, nofun⟩
  restartTraffic s h := ⟨still_directoryLaw.restartTraffic s h.1, still_spoolLaw.restartTraffic s h.2, nofun⟩
  entry s a e he h := ⟨still_directoryLaw.entry s a e he h.1, still_spoolLaw.entry s a e he h.2, h.3.setEntry h.1 he⟩
  makePrinter s a hp h := ⟨h.1.makePrinter a, still_spoolLaw.makePrinter s a hp h.2, h.3.makePrinter h.1 hp⟩
  port s n q hq h := ⟨still_directoryLaw.port s n q hq h.1, still_spoolLaw.port s n q hq h.2,
    h.3.of_serves rfl fun src hs a ha => by
      obtain ⟨m, hl, hst, hi⟩ := hs a ha
      refine ⟨m, hl, ?_⟩
      rw [State.port_setPort_eq]
      split
      · next e =>
        have := hq.1
        rw [e] at hst hi
        exact ⟨fun e => (this (.inl e)).elim hst hi, fun e => (this (.inr e)).elim hst hi⟩
      · exact ⟨hst, hi⟩⟩
  portDown s n q h1 h2 h3 h := ⟨still_directoryLaw.portDown s n q h1 h2 h3 h.1, still_spoolLaw.portDown s n q h1 h2 h3 h.2,
    h.3.portDown h.1 h.2 n q⟩
  settings s t m h := ⟨still_directoryLaw.settings s t m h.1, still_spoolLaw.settings s t m h.2, h.3.of_serves rfl fun _ hs => hs⟩
  mapJob s id f hf h := ⟨still_directoryLaw.mapJob s id f hf h.1, still_spoolLaw.mapJob s id f hf h.2,
    h.3.mapJob id f (fun k hk e ho => by
      obtain ⟨-, hs, -, -, hst⟩ := hf k hk e
      exact ⟨hst.mp ho, hs.symm⟩) rfl (fun _ => rfl) fun _ => rfl⟩
  setState s j st hj ho hst h := ⟨still_directoryLaw.setState s j st hj ho hst h.1, still_spoolLaw.setState s j st hj ho hst h.2,
    h.3.mapJob _ _ (fun _ _ _ e => absurd e hst) rfl (fun _ => rfl) fun _ => rfl⟩
  toFront s j hj h := ⟨still_directoryLaw.toFront s j hj h.1, still_spoolLaw.toFront s j hj h.2,
    h.3.mapJob j.id (fun k => { k with state := .queued }) (fun _ _ _ e => nomatch e) rfl (fun _ => rfl) fun _ => rfl⟩
  openJob s src c p ho hr hd h := ⟨still_directoryLaw.openJob s src c p ho hr hd h.1, still_spoolLaw.openJob s src c p ho hr hd h.2, by
    refine openJobLaw_iff.mpr fun j hj hjo => ?_
    have hv : s.Serves j.source := by
      rw [State.openJob_sm] at hj
      rcases List.mem_append.mp hj with hj | hj
      · exact h.3 j hj hjo
      · rw [List.mem_singleton.mp hj]
        intro a ha
        obtain ⟨n, hl, hb⟩ := hd a ha
        exact ⟨n, hl, by rcases PortState.mayBegin_iff.mp hb with e | e <;> simp [e]⟩
    exact hv.congr (by simp) (State.openJob_port_state _ _ _)⟩
  removeJob s j e hj h := ⟨still_directoryLaw.removeJob s j e hj h.1, still_spoolLaw.removeJob s j e hj h.2,
    h.3.of_table (by rw [State.removeJob_sm]; exact opened_of_mem_filter _) (by simp) (State.removeJob_port_state _ _)⟩
  enqueue s j hj ho h := ⟨still_directoryLaw.enqueue s j hj ho h.1, still_spoolLaw.enqueue s j hj ho h.2, by
    obtain ⟨u, hu⟩ := s.enqueue_sm j
    exact h.3.mapJob j.id (fun k => { k with state := .queued, idleTimer := none }) (fun _ _ _ e => nomatch e) (by rw [hu]) (by simp)
      (State.enqueue_port_state j)⟩
  promote s j hj h := ⟨still_directoryLaw.promote s j hj h.1, still_spoolLaw.promote s j hj h.2, by
    have hf : ∀ k ∈ s.sm.jobs, k.id = j.id → ({ k with priority := .urgent } : Job).state = .opened →
        k.state = .opened ∧ k.source = ({ k with priority := .urgent } : Job).source := fun _ _ _ ho => ⟨ho, rfl⟩
    have hp := State.promote_port_state (s := s) j
    unfold State.promote at hp ⊢
    dsimp only at hp ⊢
    split
    · exact h.3
    · rw [if_neg ‹_›] at hp
      split
      · exact h.3.mapJob j.id _ hf rfl
      · rw [if_neg ‹_›] at hp
        exact h.3.mapJob j.id _ hf (by simp [State.mapJob]) (by simp) hp⟩

theorem admitsText_deskLaws : AdmitsText DeskLaws := fun s j text hj ho ha h =>
  ⟨admitsText_directoryLaw s j text hj ho ha h.1, h.2.admitText hj ha, by
    refine h.3.mapJob j.id _ (fun k hk e ho => ?_) (by rw [State.admitText_sm]) (by simp) (by simp)
    exact ⟨ho, rfl⟩⟩

/-- Settles O9: an entry is rerouted off a busy port only, and a port goes down with the OPEN job of its address. -/
theorem stepKeepsTheDirectoryLaws : Obligations.StepKeepsTheDirectoryLaws :=
  ⟨fun _ _ h ht => (still_directoryLaw.calm.steady.kept admitsText_directoryLaw).step h ht,
    fun _ _ hd hs ho ht => ((still_deskLaws.calm.steady.kept admitsText_deskLaws).step ⟨hd, hs, ho⟩ ht).open_⟩

end Sys2Proof.Machine
end

section
/-! PROOF. Laws on the states of the ports and of the health objects and on the cutting off of segment B: what a judgement of an object
does to them comes down to its order. -/

namespace Sys2Proof.Machine

/-- The clauses of a law that reads of the ports their states, of the health objects those of the segments and ports, and what decides
whether segment B is cut off. -/
structure Judging (I : State → Prop) : Prop where
  apart : ∀ s t, (∀ n, (t.port n).state = (s.port n).state) → (∀ o, (∀ a, o ≠ .station a) → t.object o = s.object o) →
    t.cutView = s.cutView → I s → I t
  setObject : ∀ s o x, (x.state = .isolated ↔ (s.object o).state = .isolated) → I s → I (s.setObject o x)
  isolate : ∀ s o x, x.state = .isolated → I s → I ((s.setObject o x).isolateObject o)
  readmit : ∀ s o x y, x.state ≠ .isolated → I s → I ((s.setObject o x).readmitObject o y)

theorem State.bandOf_ne_isolated (s : State) (n : Nat) : s.bandOf n ≠ .isolated := by
  unfold State.bandOf; split <;> decide

namespace Judging

variable {I : State → Prop} {s t : State} (k : Judging I)
include k

theorem keep (h : I s) (hp : ∀ n, (t.port n).state = (s.port n).state := by simp)
    (ho : ∀ o, (∀ a, o ≠ .station a) → t.object o = s.object o := by simp)
    (hv : t.cutView = s.cutView := by simp [State.cutView]) : I t := k.apart s t hp ho hv h

theorem reportObject (o : ObjectId) (d : HealthDetail) (x : PortState) (h : I s) : I (s.reportObject o d x) := k.keep h

theorem evaluateMark (o : ObjectId) (h : I s) : I (s.evaluateMark o) := by
  unfold State.evaluateMark
  dsimp only
  (repeat' split)
  exacts [h, k.reportObject _ _ _ (k.setObject _ _ _ (by rfl) h), k.setObject _ _ _ (by rfl) h]

theorem evaluate (o : ObjectId) (h : I s) : I (s.evaluate o) := by
  unfold State.evaluate
  dsimp only
  split
  · next hi =>
    split
    · exact k.readmit _ _ _ _ (by simp) h
    · exact k.setObject _ _ _ (by rfl) h
  · next hi =>
    split
    · exact k.isolate _ _ _ rfl h
    · split
      · exact k.evaluateMark o h
      · exact k.evaluateMark o (k.reportObject _ _ _
          (k.setObject _ _ _ ⟨fun e => absurd e (s.bandOf_ne_isolated _), fun e => absurd e hi⟩ h))

theorem evaluate_score (o : ObjectId) (n : Nat) (h : I s) : I ((s.setObject o { s.object o with score := n }).evaluate o) :=
  k.evaluate o (k.setObject _ _ _ (by rfl) h)

theorem addScore (o : ObjectId) (w : Nat) (h : I s) : I (s.addScore o w) := k.evaluate_score _ _ h

theorem clearObject (o : ObjectId) (f : Bool) (h : I s) : I (s.clearObject o f) := by
  have hs (hne : (s.object o).state ≠ .isolated) : I (s.setObject o (.clean f)) :=
    k.setObject _ _ _ ⟨nofun, fun e => absurd e hne⟩ h
  unfold State.clearObject
  dsimp only
  split
  · next hc => exact hs (by simp [hc])
  · split
    · exact k.readmit _ o _ _ (by simp [HealthObject.clean]) h
    · exact k.reportObject _ _ _ (hs ‹_›)

theorem clearKeeping (o : ObjectId) (h : I s) : I (s.clearKeeping o) := k.clearObject _ _ h

theorem setMayIsolate (o : ObjectId) (f : Bool) (h : I s) : I (s.setMayIsolate o f) := by
  unfold State.setMayIsolate
  dsimp only
  split
  · exact k.evaluateMark o (k.readmit _ o _ _ (s.bandOf_ne_isolated _) h)
  · exact k.evaluate o (k.setObject _ _ _ (by rfl) h)

theorem forceIsolate (o : ObjectId) (h : I s) : I (s.forceIsolate o) := by
  unfold State.forceIsolate
  dsimp only
  split
  · exact k.setObject _ _ _ ⟨fun _ => ‹_›, fun _ => rfl⟩ h
  · exact k.isolate _ o _ rfl h

theorem probeCredit (o : ObjectId) (h : I s) : I (s.probeCredit o) := by
  unfold State.probeCredit
  split
  exacts [k.evaluate_score _ _ h, h]

theorem decay (o : ObjectId) (h : I s) : I (s.decay o) := by
  unfold State.decay
  dsimp only
  split
  exacts [k.evaluate_score _ _ h, h]

theorem limits (l : HealthLimits) (h : I s) : I ({ s with hm := s.hm.setLimits l }.evaluateAll allObjects) := by
  have h1 : I { s with hm := s.hm.setLimits l } :=
    k.keep h (fun _ => by simp only [State.port]) (fun o _ => by
      simp only [State.object, HealthMonitor.setLimits]) (by simp only [State.cutView, HealthMonitor.setLimits])
  unfold State.evaluateAll
  exact Steady.foldl (I := I) (fun _ o => k.evaluate o) _ h1

/-! ### The directory -/

theorem setEntry (a : Address) (e : Entry) (h : I s) : I (s.setEntry a e) := k.keep h

theorem raise (x : Cause) (m : Nat) (d : Detail) (h : I s) : I (s.raise x m d) := k.keep h

theorem writeEntry (a : Address) (l : Location) (x : StandIn) (h : I s) : I (s.writeEntry a l x) := by
  have h1 : I (s.setEntry a { s.entry a with location := l, origin := .static, standIn := x, age := 0 }) := k.setEntry _ _ h
  unfold State.writeEntry
  dsimp only
  split
  · exact h1
  · have h2 : I ((s.setEntry a { s.entry a with location := l, origin := .static, standIn := x, age := 0 }).clearKeeping
        (.station a)) := k.clearKeeping _ h1
    split
    · exact k.keep h2 (fun n => State.notify_port_state _ _ _) (fun o _ => by simp [State.notifyLink])
        (by simp [State.cutView, State.notifyLink])
    · exact h2

theorem clearEntry (a : Address) (h : I s) : I (s.clearEntry a) := k.clearObject _ _ (k.setEntry _ _ h)

theorem learn (g : Seg) (a : Address) (h : I s) : I (s.learn g a) := by
  unfold State.learn State.move State.conflict
  dsimp only
  (repeat' split)
  · exact k.setEntry _ _ h
  · exact k.setEntry _ _ h
  · exact k.evaluate _ (k.raise _ _ _ (k.setEntry _ _ h))
  · exact k.addScore _ _ (k.raise _ _ _ h)

theorem ageEntry (a : Address) (h : I s) : I (s.ageEntry a) := by
  unfold State.ageEntry
  dsimp only
  (repeat' split)
  · exact k.clearKeeping _ (k.raise _ _ _ (k.setEntry _ _ h))
  · exact k.setEntry _ _ h
  · exact h

theorem vacatePrinter (a : Address) (h : I s) : I (s.vacatePrinter a) := by
  unfold State.vacatePrinter
  (repeat' split)
  exacts [h, h, k.clearKeeping _ (k.setEntry _ _ h)]

theorem makePrinter (a : Address) (h : I s) : I (s.makePrinter a) := by
  unfold State.makePrinter
  dsimp only
  split
  exacts [h, k.clearKeeping _ (k.setEntry _ _ (k.vacatePrinter _ h))]

theorem setQuota (src : Source) (n : Nat) (h : I s) : I (s.setQuota src n) := by
  unfold State.setQuota
  split
  exacts [k.apart s _ (fun _ => rfl) (fun o _ => by rcases o with (_ | _) | _ | _ <;> rfl) rfl h, k.setEntry _ _ h]

end Judging

end Sys2Proof.Machine
end

section
/-! PROOF. The laws of the ports through every step (R46, R65, R68, R76, R77, R81, R141). -/

namespace Sys2Proof.Machine

variable {s t : State}

/-! ### The lists (R46, R68, R76, R77, R81) -/

theorem portLaw_iff : PortLaw s ↔ ∀ n, (s.port n).Orderly := Iff.rfl

theorem PortLaw.congr (h : PortLaw s) (hp : t.ports = s.ports) : PortLaw t := fun n => by rw [State.port_congr hp]; exact h n

theorem PortLaw.setPort (h : PortLaw s) {n : PortNo} {q : Port} (hq : q.Orderly) : PortLaw (s.setPort n q) := fun m => by
  rw [State.port_setPort_eq]
  split
  exacts [hq, h m]

theorem PortLaw.notifyJob (h : PortLaw s) (src : Source) (id : Nat) (x : NoticeState) (p : Nat) : PortLaw (s.notifyJob src id x p) := by
  unfold State.notifyJob State.notify
  (repeat' split)
  · exact h
  · exact h.setPort ((Port.follows_queueNotice _ ‹_›).2 (h _))
  · exact h
  · exact h

theorem PortLaw.removeJob (h : PortLaw s) (j : Job) (e : Ending) : PortLaw (s.removeJob j e) :=
  PortLaw.notifyJob (h.congr (by simp)) _ _ _ _

theorem PortLaw.portDown (h : PortLaw s) (n : PortNo) {q : Port} (hq : q.Orderly) : PortLaw ((s.setPort n q).discardOpen n) := by
  unfold State.discardOpen
  (repeat' split)
  exacts [h.setPort hq, h.setPort hq, (h.setPort hq).removeJob _ _]

theorem Port.orderly_of_empty {q : Port} (hl : q.listsEmpty) (hh : q.headSent = false) (ht : q.tx.busy = false) : q.Orderly := by
  obtain ⟨h1, h2, h3, h4⟩ := id hl
  refine ⟨?_, ?_, ?_, ?_, by simp [hh], fun _ => ⟨hl, ht⟩⟩ <;> simp [*]

theorem still_portLaw : Still PortLaw where
  blind s t _ _ hp _ h := h.congr hp
  tick s h n := by
    have hn : s.tick.port n = (s.port n).tick := by simp [State.port, State.tick]
    rw [hn]; exact h n
  restartBlocks s h n := Port.orderly_of_empty (by simp [State.port, State.restartBlocks, State.portsAtReset, Port.listsEmpty, Port.atReset])
    (by simp [State.port, State.restartBlocks, State.portsAtReset, Port.atReset])
    (by simp [State.port, State.restartBlocks, State.portsAtReset, Port.atReset, PortTx.busy])
  restartTraffic s h n := Port.orderly_of_empty
    (by simp [State.port, State.restartTraffic, State.portsRestarted, Port.listsEmpty, Port.atReset])
    (by simp [State.port, State.restartTraffic, State.portsRestarted, Port.atReset])
    (by simp [State.port, State.restartTraffic, State.portsRestarted, Port.atReset, PortTx.busy])
  entry s a e _ h := h.congr rfl
  makePrinter s a _ h := h.congr (s.makePrinter_ports a)
  port s n q hq h := h.setPort (hq.2 (h n))
  portDown s n q h1 h2 h3 h := h.portDown n (Port.orderly_of_empty h1 h2 h3)
  settings _ _ _ h := h
  mapJob _ _ _ _ h := h
  setState _ _ _ _ _ _ h := h
  toFront _ _ _ h := h
  openJob s src k p _ _ _ h := by unfold State.openJob; exact PortLaw.notifyJob (h.congr (by rfl)) _ _ _ _
  removeJob s j e _ h := h.removeJob j e
  enqueue s j _ _ h := by unfold State.enqueue; exact PortLaw.notifyJob (h.congr (by rfl)) _ _ _ _
  promote s j _ h := by
    unfold State.promote
    dsimp only
    (repeat' split)
    exacts [h, h, PortLaw.notifyJob (h.congr (by rfl)) _ _ _ _]

/-! ### The agreement with the health objects (R65, R68, R141) -/

/-- A port's state agrees with its object's. -/
def PortState.Agrees (p : PortState) (x : Health) : Prop :=
  (p = .isolated → x = .isolated) ∧ (p = .online ∨ p = .detached → x ≠ .isolated)

theorem portHealthLaw_iff : PortHealthLaw s ↔ ∀ n, (s.port n).state.Agrees (s.object (.port n)).state := Iff.rfl

theorem PortState.Agrees.afterIsolation (p : PortState) : p.afterIsolation.Agrees .isolated := by
  cases p <;> simp [PortState.Agrees, PortState.afterIsolation]

theorem PortState.Agrees.afterReadmission (p : Port) {y : Health} (hy : y ≠ .isolated) :
    p.afterReadmission.Agrees y := by
  have hb := PortState.mayBegin_iff.mp p.serviceState_mayBegin
  unfold Port.afterReadmission
  split
  · exact ⟨fun e => by rw [e] at hb; simp at hb, fun _ => hy⟩
  · exact ⟨fun e => absurd e ‹_›, fun _ => hy⟩

theorem PortState.Agrees.of_iff {p : PortState} {x y : Health} (h : p.Agrees x) (hy : y = .isolated ↔ x = .isolated) : p.Agrees y :=
  ⟨fun e => hy.mpr (h.1 e), fun e => fun e' => h.2 e (hy.mp e')⟩

theorem State.discardOpen_port_state (n m : PortNo) : ((s.discardOpen n).port m).state = (s.port m).state := by
  unfold State.discardOpen
  (repeat' split)
  exacts [rfl, rfl, State.removeJob_port_state _ _ _]

theorem State.mapPort_port_state (n m : PortNo) (f : Port → Port) :
    ((s.mapPort n f).port m).state = if m = n then (f (s.port n)).state else (s.port m).state := by
  rw [State.mapPort, State.port_setPort_eq]; split <;> rfl

/-- The order of R139 leaves a port in the state of R68. -/
theorem State.isolatePort_port_state (n m : PortNo) : ((s.isolatePort n).port m).state =
    if m = n then (s.port n).state.afterIsolation else (s.port m).state := by
  unfold State.isolatePort
  split
  · rw [State.discardOpen_port_state, State.port_congr (State.fillOffline_ports _ _), State.mapPort_port_state]
    congr 1
    rcases PortState.mayBegin_iff.mp ‹_› with e | e <;> rw [e] <;> rfl
  · next h =>
    split
    · next e =>
      rw [e]
      cases hs : (s.port n).state <;> simp [hs, PortState.mayBegin] at h <;> rfl
    · rfl

/-- The order of R141 leaves a port in the state of R68. -/
theorem State.readmitPort_port_state (n m : PortNo) : ((s.readmitPort n).port m).state =
    if m = n then (s.port n).afterReadmission else (s.port m).state := by
  unfold State.readmitPort Port.afterReadmission
  split
  · rw [State.notifyLink, State.notify_port_state, State.mapPort_port_state]
  · split <;> simp_all

theorem State.isolateObject_port_state (o : ObjectId) (m : PortNo) : ((s.isolateObject o).port m).state =
    if o = .port m then (s.port m).state.afterIsolation else (s.port m).state := by
  unfold State.isolateObject
  dsimp only
  rcases o with (_ | _) | n | a
  · simp
  · simp
  · rw [State.isolatePort_port_state]
    by_cases e : m = n
    · subst e; simp
    · simp [e, Ne.symm e]
  · simp

theorem State.readmitObject_port_state (o : ObjectId) (x : Health) (m : PortNo) : ((s.readmitObject o x).port m).state =
    if o = .port m then (s.port m).afterReadmission else (s.port m).state := by
  unfold State.readmitObject State.readmissionOrder
  rcases o with (_ | _) | n | a
  · simp
  · simp
  · dsimp only
    rw [State.readmitPort_port_state]
    by_cases e : m = n
    · subst e; simp
    · simp [e, Ne.symm e]
  · simp

namespace PortHealthLaw

theorem congr (h : PortHealthLaw s) (hp : ∀ n, (t.port n).state = (s.port n).state := by simp)
    (ho : ∀ n, (t.object (.port n)).state = (s.object (.port n)).state := by simp) : PortHealthLaw t := fun n => by
  rw [hp, ho]; exact h n

variable (h : PortHealthLaw s)
include h

/-- A record that is ISOLATED exactly when the object was. -/
theorem setObject {o : ObjectId} {x : HealthObject} (hx : x.state = .isolated ↔ (s.object o).state = .isolated) :
    PortHealthLaw (s.setObject o x) := portHealthLaw_iff.mpr fun n => by
  rw [State.port_congr (State.setObject_ports _ _ _), State.object_setObject_eq]
  split
  · next e => subst e; exact PortState.Agrees.of_iff (h n) hx
  · exact h n

theorem isolateObject (o : ObjectId) {x : HealthObject} (hx : x.state = .isolated) :
    PortHealthLaw ((s.setObject o x).isolateObject o) := portHealthLaw_iff.mpr fun n => by
  rw [State.isolateObject_port_state, State.port_congr (State.setObject_ports _ _ _), State.object_isolateObject,
    State.object_setObject_eq]
  split
  · next e => rw [if_pos e.symm, hx]; exact .afterIsolation _
  · next e => rw [if_neg fun e' => e e'.symm]; exact h n

theorem readmitObject (o : ObjectId) {x : HealthObject} (hx : x.state ≠ .isolated) (y : Health) :
    PortHealthLaw ((s.setObject o x).readmitObject o y) := portHealthLaw_iff.mpr fun n => by
  rw [State.readmitObject_port_state, State.port_congr (State.setObject_ports _ _ _), State.object_readmitObject,
    State.object_setObject_eq]
  split
  · next e => rw [if_pos e.symm]; exact .afterReadmission _ hx
  · next e => rw [if_neg fun e' => e e'.symm]; exact h n

omit h in
theorem judging : Judging PortHealthLaw where
  apart s t hp ho _ h := h.congr hp fun n => by rw [ho (.port n) fun _ => nofun]
  setObject s o x hx h := h.setObject hx
  isolate s o x hx h := h.isolateObject o hx
  readmit s o x y hx h := h.readmitObject o hx y

/-- A port passes into a state that its object allows. -/
theorem portState {n : PortNo} {x : PortState} (hx : x.Agrees (s.object (.port n)).state)
    (hp : ∀ m, (t.port m).state = if m = n then x else (s.port m).state)
    (ho : ∀ m, (t.object (.port m)).state = (s.object (.port m)).state) : PortHealthLaw t := portHealthLaw_iff.mpr fun m => by
  rw [hp, ho]
  split
  · next e => rw [e]; exact hx
  · exact h m

theorem enterStandby (n : PortNo) : PortHealthLaw (s.enterStandby n) := by
  have h1 : PortHealthLaw ((s.mapPort n Port.toStandby).reportPort n) :=
    h.portState (n := n) (x := .standby) ⟨nofun, nofun⟩ (fun m => by
      rw [State.port_congr (State.reportPort_ports _ _), State.mapPort_port_state]; rfl) (by simp)
  have h2 : PortHealthLaw (((s.mapPort n Port.toStandby).reportPort n).clearKeeping (.port n)) :=
    judging.clearObject _ _ h1
  unfold State.enterStandby
  exact h2.congr (State.discardOpen_port_state n)

theorem enablePort (n : PortNo) : PortHealthLaw (s.enablePort n) := by
  refine h.portState (n := n) (x := ((s.port n).enabled ((s.object (.port n)).state == .isolated)).state) ?_ (fun m => ?_)
    (by simp [State.enablePort])
  · unfold Port.enabled
    split
    · next hi => exact ⟨fun _ => by simpa using hi, nofun⟩
    · next hi =>
      have hb := PortState.mayBegin_iff.mp (s.port n).serviceState_mayBegin
      exact ⟨fun e => by dsimp only at e; rw [e] at hb; simp at hb, fun _ => by simpa using hi⟩
  · rw [State.enablePort, State.notifyLink, State.notify_port_state, State.port_congr (State.reportPort_ports _ _),
      State.mapPort_port_state]

end PortHealthLaw

theorem engineBlind_portHealthLaw : EngineBlind PortHealthLaw where
  blind _ _ _ h := h
  notice s n x _ h := h.congr fun m => by
    rw [State.mapPort_port_state]
    split
    · next e => simp [e, Port.queueNotice]
    · rfl
  mapJob _ _ _ _ h := h
  setState _ _ _ _ _ _ h := h
  toFront _ _ _ h := h
  removeJob s j e _ h := h.congr (State.removeJob_port_state _ _)

theorem PortHealthLaw.setPort (h : PortHealthLaw s) {n : PortNo} {q : Port} (hq : (s.port n).Follows q) :
    PortHealthLaw (s.setPort n q) := by
  refine h.portState (n := n) (x := q.state) ?_ (fun m => by rw [State.port_setPort_eq]; split <;> rfl) (by simp)
  rcases hq.1 with e | e | ⟨e, e'⟩
  · exact e ▸ h n
  · rw [e]; simp [PortState.Agrees]
  · have := (h n).2 (PortState.mayBegin_iff.mp e)
    exact ⟨fun e => (by rw [e] at e'; cases e'), fun _ => this⟩

theorem steady_portHealthLaw : Steady PortHealthLaw where
  blind s t e h := h.congr (fun n => by rw [State.port_congr e.ports]) fun n => by rw [e.object]
  tick s h := h.congr (fun n => by simp [State.port, State.tick, Port.tick]) fun n => rfl
  restartBlocks s h := portHealthLaw_iff.mpr fun n => by
    simp [State.port, State.restartBlocks, State.portsAtReset, Port.atReset, PortState.Agrees]
  restartTraffic s h := portHealthLaw_iff.mpr fun n => by
    simp [State.port, State.restartTraffic, State.portsRestarted, Port.atReset, PortState.Agrees]
  writeEntry s a l x _ _ _ h := PortHealthLaw.judging.writeEntry a l x h
  clearEntry s a _ h := PortHealthLaw.judging.clearEntry a h
  makePrinter s a _ h := PortHealthLaw.judging.makePrinter a h
  setQuota s src n h := PortHealthLaw.judging.setQuota src n h
  learn s g a h := PortHealthLaw.judging.learn g a h
  ageEntry s a h := PortHealthLaw.judging.ageEntry a h
  port s n q hq h := h.setPort hq
  enablePort s n _ h := h.enablePort n
  enterStandby s n _ h := h.enterStandby n
  limits s l _ _ _ h := PortHealthLaw.judging.limits l h
  addScore s o w _ h := PortHealthLaw.judging.addScore o w h
  probeCredit s o h := PortHealthLaw.judging.probeCredit o h
  decay s o h := PortHealthLaw.judging.decay o h
  forceIsolate s o _ h := PortHealthLaw.judging.forceIsolate o h
  clearKeeping s o h := PortHealthLaw.judging.clearKeeping o h
  setMayIsolate s o f _ h := PortHealthLaw.judging.setMayIsolate o f h
  copyBegins s g c _ _ h := h.congr
  copyHeld s c _ h := h.congr
  copyGone s g x _ _ h := h.congr
  replyBegins s x _ _ h := h.congr
  replyEnds s g _ h := h.congr
  probeGone s _ h := h.congr
  probePending s k t _ _ h := h.congr
  probeHears s w k t _ h := h.congr
  startProbe s k t _ _ h := h.congr (fun n => by rw [State.port_congr (State.startProbe_ports _ _)])
  probeSent s g _ h := h.congr (fun n => by rw [State.port_congr (State.probeSent_ports _ _)])
  printProfile s p t m h := h
  enableEngine s h := engineBlind_portHealthLaw.enableEngine h
  disableEngine s h := engineBlind_portHealthLaw.disableEngine h
  stopEngine s h := engineBlind_portHealthLaw.stopEngine h
  resumePrinter s h := engineBlind_portHealthLaw.resumePrinter h
  lineChanged s l x h := engineBlind_portHealthLaw.lineChanged l x h
  characterTaken s _ h := engineBlind_portHealthLaw.characterTaken h
  characterLost s _ h := engineBlind_portHealthLaw.characterLost h
  grantChanged s x h := engineBlind_portHealthLaw.grantChanged x h
  releaseExpired s h := engineBlind_portHealthLaw.releaseExpired h
  openJob s src k p _ _ _ h := h.congr (State.openJob_port_state _ _ _)
  removeJob s j e _ _ h := h.congr (State.removeJob_port_state _ _)
  enqueue s j _ _ h := h.congr (State.enqueue_port_state _)
  offerJobs s h := engineBlind_portHealthLaw.offerJobs h
  setJobState s j st x _ _ _ h := h.congr (fun n => by rw [State.setJobState, State.notifyJob_port_state]; rfl)
  promote s j _ h := h.congr (State.promote_port_state _)

/-- Settles O10: lists grow within their bounds and in service alone, and the orders of R68 keep a port with its object. -/
theorem stepKeepsThePortLaws : Obligations.StepKeepsThePortLaws := fun _ _ hp hh ht =>
  ⟨(still_portLaw.calm.steady.kept fun _ _ _ _ _ _ h => h.congr (by simp)).step hp ht,
    (steady_portHealthLaw.kept fun _ _ _ _ _ _ h => h.congr).step hh ht⟩

end Sys2Proof.Machine
end

section
/-! PROOF. The laws of the engine through every step (R109, R113, R114, R116): its record's own, and that of its job in the table. -/

namespace Sys2Proof.Machine

variable {B : State → Prop} {s t : State}

/-! ### What the engine's record may be -/

/-- The record with a job: it has one, and PREQ is asserted exactly for a SHARED one. -/
structure Engine.Engaged (e : Engine) : Prop where
  job : e.job.isSome = true
  preq : e.preq = e.shared

/-- No handshake is in progress. -/
structure Engine.Quiet (e : Engine) : Prop where
  handshake : e.handshake = .none
  ackTimer : e.ackTimer = none

/-- The record without a job. -/
structure Engine.Free (e : Engine) : Prop extends e.Quiet where
  job : e.job = none
  shared : e.shared = false
  preq : e.preq = false

/-- The law of the engine's record (R109, R114, R116). -/
def Engine.Lawful (e : Engine) : Prop :=
  (e.handshake ≠ .none → e.state = .running) ∧ (e.ackTimer.isSome = true ↔ e.handshake ≠ .none) ∧
  (e.job.isSome = e.state.hasJob) ∧ (e.shared = true → e.state.hasJob = true) ∧ e.preq = e.shared

namespace Engine

variable {e : Engine}

theorem Lawful.engaged (h : e.Lawful) (hj : e.state.hasJob = true) : e.Engaged := ⟨h.2.2.1.trans hj, h.2.2.2.2⟩

theorem Lawful.quiet (h : e.Lawful) (hs : e.state ≠ .running) : e.Quiet := by
  obtain ⟨h1, h2, -⟩ := h
  have hn : e.handshake = .none := by_contra fun hn => hs (h1 hn)
  exact ⟨hn, by simpa [hn] using h2⟩

theorem Lawful.free (h : e.Lawful) (hj : e.state.hasJob = false) : e.Free := by
  have hq := h.quiet (by rintro e'; simp [e', EngineState.hasJob] at hj)
  obtain ⟨-, -, h3, h4, h5⟩ := h
  have hs : e.shared = false := by_contra fun hn => by simp [h4 (by simpa using hn)] at hj
  exact ⟨hq, by simpa [hj] using h3, hs, h5.trans hs⟩

theorem Engaged.lawful (h : e.Engaged) (hq : e.Quiet) (hj : e.state.hasJob = true) : e.Lawful := by
  refine ⟨fun hn => absurd hq.1 hn, by simp [hq.1, hq.2], h.1.trans hj.symm, fun _ => hj, h.2⟩

theorem Free.lawful (h : e.Free) (hj : e.state.hasJob = false) : e.Lawful :=
  ⟨fun hn => absurd h.handshake hn, by simp [h.handshake, h.ackTimer], by simp [h.job, hj], by simp [h.shared], by simp [h.preq, h.shared]⟩

theorem letGo_free (h : e.preq = e.shared) : e.letGo.Free := by
  refine ⟨⟨rfl, rfl⟩, rfl, rfl, ?_⟩
  cases hs : e.shared <;> simp [letGo, hs, h]

end Engine

/-! ### The law with what an engine's job asks of the table -/

/-- The clauses of a law that ties the table to the engine's job alone: what the engine does to both. -/
structure JobBound (B : State → Prop) : Prop where
  engine : ∀ s pe au, pe.job = s.pe.job → B s → B { s with pe, au }
  notice : ∀ s n x, (s.port n).state = .online → B s → B (s.mapPort n fun p => p.queueNotice x)
  progress : ∀ s id (p m : Job → Option Position) (d : Job → Nat), B s → B (s.mapJob id fun j => { j with position := p j, pageMark := m j, copiesDone := d j })
  selected : ∀ s j, s.nextQueued = some j → s.pe.job = none → B s → B ((s.mapJob j.id fun k => { k with state := .printing }).mapPe fun e =>
    { e with job := some j.id, shared := e.profile.shared })
  ended : ∀ s j e, s.printing? = some j → B s → B ((s.removeJob j e).mapPe Engine.letGo)
  jobless : ∀ s, s.printing? = none → B s → B (s.mapPe Engine.letGo)
  returned : ∀ s j, s.printing? = some j → B s → B ((s.toFront j).mapPe Engine.letGo)

/-- The engine's record is lawful, and the table goes with its job. -/
structure Sane (B : State → Prop) (s : State) : Prop where
  engine : s.pe.Lawful
  bound : B s

namespace JobBound

variable (b : JobBound B)
include b

theorem mapPe (f : Engine → Engine) (hf : (f s.pe).job = s.pe.job) (h : B s) : B (s.mapPe f) := b.engine s _ _ hf h

theorem notifyJob (src : Source) (id : Nat) (x : NoticeState) (p : Nat) (h : B s) : B (s.notifyJob src id x p) := by
  unfold State.notifyJob State.notify
  (repeat' split)
  exacts [h, b.notice _ _ _ ‹_› h, h, h]

/-! ### The handshake -/

theorem sane_stall (r : StallReason) (he : s.pe.Engaged) (h : B s) : Sane B (s.stall r) :=
  ⟨Engine.Engaged.lawful ⟨he.job, he.preq⟩ ⟨rfl, rfl⟩ rfl, b.mapPe _ rfl h⟩

theorem sane_tryStrobe (h : Sane B s) : Sane B s.tryStrobe := by
  unfold State.tryStrobe
  split
  · next hm =>
    obtain ⟨h1, h2, h3⟩ := h.engine
    simp only [Engine.mayStrobe, Bool.and_eq_true, beq_iff_eq] at hm
    obtain ⟨⟨⟨⟨hs, hw⟩, -⟩, -⟩, -⟩ := hm
    exact ⟨⟨fun _ => hs, by simpa [hw] using h2, h3⟩, b.mapPe _ rfl h.bound⟩
  · exact h

theorem sane_characterDue (he : s.pe.Engaged) (hs : s.pe.state = .running) (h : B s) : Sane B s.characterDue := by
  unfold State.characterDue
  split
  · exact b.sane_stall _ he h
  · refine b.sane_tryStrobe ⟨⟨fun _ => hs, by simp [State.mapPe], ?_⟩, b.mapPe _ rfl h⟩
    exact ⟨by simp [State.mapPe, hs, EngineState.hasJob, he.job], fun _ => by simp [State.mapPe, hs, EngineState.hasJob], he.preq⟩

theorem copyStart (id : Nat) (h : B s) : B (s.copyStart id) := b.mapPe _ rfl (b.progress s id _ _ _ h)

theorem toPageMark (id : Nat) (h : B s) : B (s.toPageMark id) := b.mapPe _ rfl (b.progress s id _ _ _ h)

theorem sane_enterRunning (he : s.pe.Engaged) (hq : s.pe.Quiet) (h : B s) : Sane B s.enterRunning := by
  have h1 : B (s.mapPe fun e => { e with state := .running }) := b.mapPe _ rfl h
  unfold State.enterRunning
  dsimp only
  split
  · exact ⟨Engine.Engaged.lawful ⟨he.job, he.preq⟩ ⟨hq.handshake, hq.ackTimer⟩ rfl, h1⟩
  · split
    · exact b.sane_characterDue ⟨he.job, he.preq⟩ rfl (b.copyStart _ h1)
    · exact b.sane_characterDue ⟨he.job, he.preq⟩ rfl (b.toPageMark _ h1)

/-! ### Selection -/

theorem sane_select {j : Job} (hn : s.nextQueued = some j) (hf : s.pe.Free) (h : B s) : Sane B (s.select j) := by
  have h1 := b.notifyJob j.source j.id .printing (s.queuePosition j.id) (b.selected s j hn hf.job h)
  have hpe : (((s.mapJob j.id fun k => { k with state := .printing }).mapPe fun e =>
      { e with job := some j.id, shared := e.profile.shared }).notifyJob j.source j.id .printing (s.queuePosition j.id)).pe =
      { s.pe with job := some j.id, shared := s.pe.profile.shared } := by simp
  unfold State.select
  dsimp only
  generalize (((s.mapJob j.id fun k => { k with state := .printing }).mapPe fun e =>
      { e with job := some j.id, shared := e.profile.shared }).notifyJob j.source j.id .printing (s.queuePosition j.id)) = u at h1 hpe ⊢
  split
  · next hs =>
    have he : ({ u.pe with state := .claiming, preq := true } : Engine).Engaged := ⟨by simp [hpe], by simp [hpe, hs]⟩
    have hq : ({ u.pe with state := .claiming, preq := true } : Engine).Quiet := ⟨by simp [hpe, hf.handshake], by simp [hpe, hf.ackTimer]⟩
    have h2 : B (u.mapPe fun e => { e with state := .claiming, preq := true }) := b.mapPe _ rfl h1
    split
    · exact b.sane_enterRunning he hq h2
    · exact ⟨he.lawful hq rfl, h2⟩
  · next hs =>
    exact b.sane_enterRunning ⟨by simp [hpe], by simp [hpe, hf.preq]; simpa using hs⟩
      ⟨by simp [hpe, hf.handshake], by simp [hpe, hf.ackTimer]⟩ h1

theorem sane_selectIfIdle (h : Sane B s) : Sane B s.selectIfIdle := by
  unfold State.selectIfIdle
  split
  · next hi =>
    split
    · exact b.sane_select ‹_› (h.engine.free (by rw [hi]; rfl)) h.bound
    · exact h
  · exact h

theorem sane_enterByReadiness (hf : s.pe.Free) (h : B s) : Sane B s.enterByReadiness := by
  refine b.sane_selectIfIdle ⟨Engine.Free.lawful ⟨⟨hf.handshake, hf.ackTimer⟩, hf.job, hf.shared, hf.preq⟩ ?_, b.mapPe _ rfl h⟩
  dsimp only [State.mapPe]
  split <;> rfl

/-! ### The end of a job -/

/-- What is left of a proceeding once the job has been let go. -/
theorem sane_proceed (hp : s.pe.preq = s.pe.shared) (h : B (s.mapPe Engine.letGo)) : Sane B s.proceed := by
  have hf : (s.mapPe Engine.letGo).pe.Free := Engine.letGo_free hp
  have off (x : EngineState) (hx : x.hasJob = false) : Sane B ((s.mapPe Engine.letGo).mapPe fun e => { e with state := x }) :=
    ⟨Engine.Free.lawful ⟨⟨hf.handshake, hf.ackTimer⟩, hf.job, hf.shared, hf.preq⟩ hx, b.mapPe _ rfl h⟩
  unfold State.proceed
  dsimp only
  split
  · exact off .disabled rfl
  · split
    · exact off .gap rfl
    · exact b.sane_enterByReadiness hf h

theorem sane_endJob (e : Ending) (hp : s.pe.preq = s.pe.shared) (h : B s) : Sane B (s.endJob e) := by
  unfold State.endJob
  split
  · exact b.sane_proceed (by simpa using hp) (b.ended s _ e ‹_› h)
  · exact b.sane_proceed hp (b.jobless s ‹_› h)

theorem sane_returnToQueue (hp : s.pe.preq = s.pe.shared) (h : B s) : Sane B s.returnToQueue := by
  have off (u : State) (hu : u.pe = s.pe) (h : B (u.mapPe Engine.letGo)) :
      Sane B ((u.mapPe Engine.letGo).mapPe fun e => { e with state := .disabled }) := by
    have hf : (u.mapPe Engine.letGo).pe.Free := Engine.letGo_free (by rw [hu]; exact hp)
    exact ⟨Engine.Free.lawful ⟨⟨hf.handshake, hf.ackTimer⟩, hf.job, hf.shared, hf.preq⟩ rfl, b.mapPe _ rfl h⟩
  have comm (u : State) (src : Source) (id : Nat) (x : NoticeState) (p : Nat) :
      (u.notifyJob src id x p).mapPe Engine.letGo = (u.mapPe Engine.letGo).notifyJob src id x p := by
    cases src with
    | primary => rfl
    | desk a =>
      have hl : ((u.mapPe Engine.letGo).entry a).location = (u.entry a).location := rfl
      unfold State.notifyJob
      dsimp only
      rw [hl]
      split
      · unfold State.notify
        have hp (n : PortNo) : (u.mapPe Engine.letGo).port n = u.port n := rfl
        rw [hp]
        split <;> rfl
      · rfl
  unfold State.returnToQueue
  dsimp only
  split
  · exact off s rfl (b.jobless s ‹_› h)
  · next j hj =>
    refine off _ (by simp) ?_
    rw [comm]
    exact b.notifyJob _ _ _ _ (b.returned s j hj h)

theorem sane_afterHandshake (u : Option StallReason) (he : s.pe.Engaged) (hs : s.pe.state = .running) (h : B s) :
    Sane B (s.afterHandshake u) := by
  unfold State.afterHandshake
  split
  · exact b.sane_returnToQueue he.preq h
  · split
    · exact b.sane_stall _ he h
    · split
      · exact b.sane_stall _ he h
      · split
        · exact b.sane_stall _ he h
        · exact b.sane_characterDue he hs h

theorem sane_copyEnd (j : Job) (he : s.pe.Engaged) (hs : s.pe.state = .running) (h : B s) : Sane B (s.copyEnd j) := by
  unfold State.copyEnd
  split
  · exact b.sane_afterHandshake _ ⟨he.job, he.preq⟩ hs (b.copyStart _ (b.progress s j.id _ _ _ h))
  · exact b.sane_endJob _ he.preq h

theorem sane_textTaken (j : Job) (p : Position) (he : s.pe.Engaged) (hs : s.pe.state = .running) (h : B s) :
    Sane B (s.textTaken j p) := by
  unfold State.textTaken
  dsimp only
  split
  · split
    · exact b.sane_afterHandshake _ ⟨he.job, he.preq⟩ hs (b.mapPe _ rfl h)
    · exact b.sane_copyEnd _ he hs h
  · exact b.sane_afterHandshake _ ⟨he.job, he.preq⟩ hs (b.progress s j.id _ _ _ h)

theorem sane_characterTaken (hs : s.pe.state = .running) (h : Sane B s) : Sane B s.characterTaken := by
  have he : s.handshakeEnds.pe.Engaged := by
    have := h.engine.engaged (by rw [hs]; rfl)
    exact ⟨this.job, this.preq⟩
  have h1 : B s.handshakeEnds := b.mapPe _ rfl h.bound
  have hl : Sane B s.handshakeEnds := ⟨he.lawful ⟨rfl, rfl⟩ (by show s.pe.state.hasJob = true; rw [hs]; rfl), h1⟩
  unfold State.characterTaken
  dsimp only
  split
  · exact b.sane_endJob _ he.preq h1
  · split
    · exact hl
    · split
      · exact b.sane_copyEnd _ he hs h1
      · exact b.sane_textTaken _ _ he hs h1
      · exact hl

theorem sane_characterLost (hs : s.pe.state = .running) (h : Sane B s) : Sane B s.characterLost := by
  have he : s.handshakeEnds.pe.Engaged := by
    have := h.engine.engaged (by rw [hs]; rfl)
    exact ⟨this.job, this.preq⟩
  have h1 : B s.handshakeEnds := b.mapPe _ rfl h.bound
  unfold State.characterLost
  dsimp only
  split
  · exact b.sane_endJob _ he.preq h1
  · exact b.sane_afterHandshake _ he hs h1

/-! ### Resumption, the lines and the orders -/

theorem sane_reportEngine (x : EngineState) (h : Sane B s) : Sane B (s.reportEngine x) := by
  unfold State.reportEngine
  split
  · exact ⟨h.engine, b.engine s s.pe _ rfl h.bound⟩
  · exact h

theorem sane_resume (he : s.pe.Engaged) (h : B s) : Sane B s.resume := by
  unfold State.resume
  split
  · exact b.sane_stall _ he h
  · exact b.sane_characterDue ⟨he.job, he.preq⟩ rfl (b.mapPe _ rfl h)

theorem sane_resumeFromMark (he : s.pe.Engaged) (h : B s) : Sane B s.resumeFromMark := by
  unfold State.resumeFromMark State.rewind
  split
  · exact b.sane_resume ⟨he.job, he.preq⟩ (b.toPageMark _ h)
  · exact b.sane_resume he h

theorem sane_resumeByPolicy (he : s.pe.Engaged) (h : B s) : Sane B s.resumeByPolicy := by
  unfold State.resumeByPolicy
  split
  · exact b.sane_resume he h
  · exact b.sane_resumeFromMark he h

/-- A detected level is no part of what the law reads. -/
theorem sane_setLine (l : PrinterLine) (x : Bool) (h : Sane B s) : Sane B (s.mapPe fun e => e.setLine l x) :=
  ⟨by cases l <;> exact h.engine, b.mapPe _ (by cases l <;> rfl) h.bound⟩

theorem sane_lineChanged (l : PrinterLine) (x : Bool) (h : Sane B s) : Sane B (s.lineChanged l x) := by
  have h1 := b.sane_setLine l x h
  have hst : (s.mapPe fun e => e.setLine l x).pe.state = s.pe.state := by cases l <;> rfl
  unfold State.lineChanged
  dsimp only
  generalize (s.mapPe fun e => e.setLine l x) = u at h1 hst ⊢
  have he (hj : s.pe.state.hasJob = true) : u.pe.Engaged := h1.engine.engaged (by rw [hst]; exact hj)
  split
  iterate 4 exact h1
  · next hs =>
    split
    · exact h1
    · have hf := h1.engine.free (by rw [hst, hs]; rfl)
      exact ⟨Engine.Free.lawful ⟨⟨hf.handshake, hf.ackTimer⟩, hf.job, hf.shared, hf.preq⟩ rfl, b.mapPe _ rfl h1.bound⟩
  · next hs =>
    split
    · exact b.sane_enterByReadiness (h1.engine.free (by rw [hst, hs]; rfl)) h1.bound
    · exact h1
  · next hs =>
    split
    · split
      · exact b.sane_stall _ (he (by rw [hs]; rfl)) h1.bound
      · exact b.sane_tryStrobe h1
    · exact h1
  · next hs =>
    split
    · exact b.sane_resumeByPolicy (he (by rw [hs]; rfl)) h1.bound
    · exact h1
  · next hs =>
    split
    · exact b.sane_resumeByPolicy (he (by rw [hs]; rfl)) h1.bound
    · exact h1
  · next hs =>
    split
    · exact b.sane_resumeFromMark (he (by rw [hs]; rfl)) h1.bound
    · exact h1

theorem sane_grantChanged (x : Bool) (h : Sane B s) : Sane B (s.grantChanged x) := by
  have h1 : Sane B (s.mapPe fun e => { e with pgnt := x }) := ⟨h.engine, b.mapPe _ rfl h.bound⟩
  have hst : (s.mapPe fun e => { e with pgnt := x }).pe.state = s.pe.state := rfl
  unfold State.grantChanged
  dsimp only
  generalize (s.mapPe fun e => { e with pgnt := x }) = u at h1 hst ⊢
  have he (hj : s.pe.state.hasJob = true) : u.pe.Engaged := h1.engine.engaged (by rw [hst]; exact hj)
  split
  · split
    · next hs =>
      split
      · exact b.sane_enterRunning (he (by rw [hs]; rfl)) (h1.engine.quiet (by rw [hst, hs]; decide)) h1.bound
      · exact h1
    · next hs =>
      split
      · exact b.sane_tryStrobe h1
      · split
        · exact ⟨h1.engine, b.mapPe _ rfl h1.bound⟩
        · exact b.sane_stall _ (he (by rw [hs]; rfl)) h1.bound
    · next hs =>
      have := he (by rw [hs]; rfl)
      split
      · exact b.sane_characterDue ⟨this.job, this.preq⟩ rfl (b.mapPe _ rfl h1.bound)
      · exact h1
    · exact h1
  · exact h1

theorem sane_stopEngine (h : Sane B s) : Sane B s.stopEngine := by
  unfold State.stopEngine
  split
  · exact ⟨h.engine, b.mapPe _ rfl h.bound⟩
  · exact b.sane_reportEngine _ (b.sane_endJob _ h.engine.2.2.2.2 h.bound)

theorem sane_disableEngine (h : Sane B s) : Sane B s.disableEngine := by
  have off (hj : s.pe.state.hasJob = false) : Sane B ((s.mapPe fun e => { e with state := .disabled }).reportEngine s.pe.state) := by
    have hf := h.engine.free hj
    exact b.sane_reportEngine _
      ⟨Engine.Free.lawful ⟨⟨hf.handshake, hf.ackTimer⟩, hf.job, hf.shared, hf.preq⟩ rfl, b.mapPe _ rfl h.bound⟩
  unfold State.disableEngine
  split
  · exact h
  · next hs => exact hs ▸ off (by rw [hs]; rfl)
  · next hs => exact hs ▸ off (by rw [hs]; rfl)
  · next hs => exact hs ▸ off (by rw [hs]; rfl)
  all_goals
    split
    · exact ⟨h.engine, b.mapPe _ rfl h.bound⟩
    · exact b.sane_reportEngine _ (b.sane_returnToQueue h.engine.2.2.2.2 h.bound)

theorem sane_enableEngine (h : Sane B s) : Sane B s.enableEngine := by
  unfold State.enableEngine
  split
  · next hs =>
    have hf := h.engine.free (by rw [hs]; rfl)
    refine b.sane_reportEngine _ ?_
    split
    · exact ⟨Engine.Free.lawful ⟨⟨hf.handshake, hf.ackTimer⟩, hf.job, hf.shared, hf.preq⟩ rfl, b.mapPe _ rfl h.bound⟩
    · exact b.sane_enterByReadiness hf h.bound
  · exact h

theorem sane_resumePrinter (h : Sane B s) : Sane B s.resumePrinter := by
  unfold State.resumePrinter
  split
  · next hs => exact b.sane_reportEngine _ (b.sane_resumeFromMark (h.engine.engaged (by rw [hs]; rfl)) h.bound)
  · exact h

theorem sane_releaseExpired (h : Sane B s) : Sane B s.releaseExpired := by
  have h1 : Sane B (s.mapPe fun e => { e with releaseTimer := none }) := ⟨h.engine, b.mapPe _ rfl h.bound⟩
  unfold State.releaseExpired
  dsimp only
  split
  · next hs => exact b.sane_enterByReadiness (h1.engine.free (by show s.pe.state.hasJob = false; rw [hs]; rfl)) h1.bound
  · exact h1

theorem sane_offerJobs (h : Sane B s) : Sane B s.offerJobs := b.sane_reportEngine _ (b.sane_selectIfIdle h)

end JobBound

/-! ### The engine's record alone -/

theorem jobBound_true : JobBound fun _ => True := by constructor <;> intros <;> trivial

theorem engineLaw_iff : EngineLaw s ↔ Sane (fun _ => True) s := ⟨fun h => ⟨h, trivial⟩, Sane.engine⟩

theorem EngineLaw.congr (h : EngineLaw s) (hp : t.pe = s.pe) : EngineLaw t := by
  unfold EngineLaw at *; rwa [hp]

theorem Engine.free_atReset (x : Bool) : (Engine.atReset x).Free := ⟨⟨rfl, rfl⟩, rfl, rfl, rfl⟩

theorem Engine.restarted_lawful (e : Engine) : e.restarted.Lawful := by
  refine Engine.Free.lawful ⟨⟨rfl, rfl⟩, rfl, rfl, rfl⟩ ?_
  show (if e.state = .disabled then EngineState.disabled else if e.ready then .idle else .notReady).hasJob = false
  (repeat' split) <;> rfl

theorem calm_engineLaw : Calm EngineLaw where
  blind s t _ _ _ _ hp h := h.congr hp
  tick s h := by
    obtain ⟨h1, h2, h3⟩ := h
    refine ⟨h1, Iff.trans ?_ h2, h3⟩
    show (tickTimer s.pe.ackTimer).isSome = true ↔ _
    cases s.pe.ackTimer <;> simp [tickTimer]
  restartBlocks s h := Engine.Free.lawful (Engine.free_atReset s.pe.pgnt) rfl
  restartTraffic s h := s.pe.restarted_lawful
  entry s a e _ h := h.congr rfl
  makePrinter s a _ h := h.congr (by simp)
  port s n q _ h := h.congr rfl
  portDown s n q _ _ _ h := h.congr (by simp)
  printProfile s p t m h := h
  enableEngine s h := (jobBound_true.sane_enableEngine (engineLaw_iff.mp h)).engine
  disableEngine s h := (jobBound_true.sane_disableEngine (engineLaw_iff.mp h)).engine
  stopEngine s h := (jobBound_true.sane_stopEngine (engineLaw_iff.mp h)).engine
  resumePrinter s h := (jobBound_true.sane_resumePrinter (engineLaw_iff.mp h)).engine
  lineChanged s l x h := (jobBound_true.sane_lineChanged l x (engineLaw_iff.mp h)).engine
  characterTaken s ha h := by
    simp only [Engine.inAck, Bool.and_eq_true, beq_iff_eq] at ha
    exact (jobBound_true.sane_characterTaken ha.1 (engineLaw_iff.mp h)).engine
  characterLost s hs h := (jobBound_true.sane_characterLost hs (engineLaw_iff.mp h)).engine
  grantChanged s x h := (jobBound_true.sane_grantChanged x (engineLaw_iff.mp h)).engine
  releaseExpired s h := (jobBound_true.sane_releaseExpired (engineLaw_iff.mp h)).engine
  openJob s src k p _ _ _ h := h.congr (by simp)
  removeJob s j e _ _ h := h.congr (by simp)
  enqueue s j _ _ h := h.congr (by simp)
  offerJobs s h := (jobBound_true.sane_offerJobs (engineLaw_iff.mp h)).engine
  setJobState s j st x _ _ _ h := h.congr (by simp)
  promote s j _ h := h.congr (by simp)

/-! ### The PRINTING job -/

/-- The laws that tie the PRINTING record to the engine's job: the table's ids and the record itself. -/
structure PrintingLaws (s : State) : Prop where
  spool : SpoolLaw s
  printing : PrintingLaw s

/-- No record is PRINTING and the engine has no job, or the engine's job is a record, and that one alone is PRINTING. -/
theorem PrintingLaw.congr (h : PrintingLaw s) (hp : t.pe.job = s.pe.job) (f : Job → Job) (hj : t.sm.jobs = s.sm.jobs.map f)
    (hf : ∀ j ∈ s.sm.jobs, (f j).id = j.id ∧ ((f j).state = .printing ↔ j.state = .printing)) : PrintingLaw t := by
  obtain ⟨h1, h2⟩ := h
  refine ⟨fun j hm => ?_, fun id hid => ?_⟩
  · rw [hj] at hm
    obtain ⟨k, hk, rfl⟩ := List.mem_map.mp hm
    rw [(hf k hk).2, h1 k hk, hp, (hf k hk).1]
  · obtain ⟨j, hm, e⟩ := h2 id (hp ▸ hid)
    exact ⟨f j, hj ▸ List.mem_map_of_mem hm, (hf j hm).1.trans e⟩

/-- The table and the engine's job stay. -/
theorem PrintingLaw.of_jobs (h : PrintingLaw s) (hp : t.pe.job = s.pe.job) (hj : t.sm.jobs = s.sm.jobs) : PrintingLaw t := by
  unfold PrintingLaw at *; rwa [hp, hj]

/-- Without a job, no record is PRINTING. -/
theorem PrintingLaw.of_none (hp : t.pe.job = none) (hj : ∀ j ∈ t.sm.jobs, j.state ≠ .printing) : PrintingLaw t :=
  ⟨fun j hm => by simp [hp, hj j hm], by simp [hp]⟩

/-- The engine's job is found. -/
theorem PrintingLaw.printing?_isSome (h : PrintingLaw s) {id : Nat} (hid : s.pe.job = some id) : s.printing?.isSome = true := by
  obtain ⟨j, hj, e⟩ := h.2 id hid
  simp only [State.printing?, hid, Option.bind_some, State.job?, List.find?_isSome]
  exact ⟨j, hj, by simpa using e⟩

/-- The record found is the engine's job. -/
theorem printing?_id {j : Job} (h : s.printing? = some j) : s.pe.job = some j.id := by
  obtain ⟨id, hid, hj⟩ := Option.bind_eq_some_iff.mp h
  rw [hid, job?_id hj]

theorem jobBound_printingLaws : JobBound PrintingLaws where
  engine s pe au hp h := ⟨h.1.congr rfl fun src => by cases src <;> rfl, h.2.of_jobs hp rfl⟩
  notice s n x _ h := ⟨h.1.congr rfl fun src => by cases src <;> rfl, h.2.of_jobs rfl rfl⟩
  progress s id p m d h := ⟨h.1.mapJob id _ fun _ _ _ => ⟨rfl, rfl, rfl, rfl, Iff.rfl⟩,
    h.2.congr rfl _ rfl fun k _ => by split <;> simp⟩
  selected s j hn hj h := by
    obtain ⟨hm, hq⟩ := nextQueued_spec hn
    have hm := job?_mem hm
    have none_printing (k : Job) (hk : k ∈ s.sm.jobs) : k.state ≠ .printing := fun e => by
      rw [(h.2.1 k hk).mp e] at hj; cases hj
    refine ⟨(h.1.mapJob j.id _ fun k hk e => ?_).congr (by rfl) fun src => by cases src <;> rfl, fun k hk => ?_, fun id hid => ?_⟩
    · have := h.1.eq_of_id hm hk e
      exact ⟨rfl, rfl, rfl, rfl, by simp [this, hq]⟩
    · obtain ⟨k, hi, rfl⟩ := List.mem_map.mp hk
      split
      · next e => simp [State.mapPe, e]
      · next e => simp [State.mapPe, none_printing k hi, Ne.symm e]
    · cases hid
      exact ⟨{ j with state := .printing }, List.mem_map.mpr ⟨j, hm, if_pos rfl⟩, rfl⟩
  ended s j e hj h := by
    have hs := h.1.removeJob (printing?_mem hj) e
    refine ⟨hs.congr rfl fun src => by cases src <;> rfl, .of_none rfl fun k hk hp => ?_⟩
    change k ∈ (s.removeJob j e).sm.jobs at hk
    rw [State.removeJob_sm] at hk
    obtain ⟨hk, hne⟩ := List.mem_filter.mp hk
    have := (h.2.1 k hk).mp hp
    rw [printing?_id hj, Option.some_inj] at this
    simp [this] at hne
  jobless s hn h := by
    have hj : s.pe.job = none := by
      cases hid : s.pe.job with
      | none => rfl
      | some id => simpa [hn] using h.2.printing?_isSome hid
    exact ⟨h.1.congr rfl fun src => by cases src <;> rfl, .of_none rfl fun k hk hp => by rw [(h.2.1 k hk).mp hp] at hj; cases hj⟩
  returned s j hj h := by
    refine ⟨(h.1.toFront (printing?_mem hj)).congr rfl fun src => by cases src <;> rfl, .of_none rfl fun k hk hp => ?_⟩
    obtain ⟨i, hi, rfl⟩ := List.mem_map.mp hk
    split at hp
    · cases hp
    · next hne =>
      have := (h.2.1 i hi).mp hp
      rw [printing?_id hj, Option.some_inj] at this
      exact hne this.symm

/-- A record that is not PRINTING leaves the table. -/
theorem PrintingLaw.removeJob (h : PrintingLaw s) (hs : SpoolLaw s) {j : Job} (hj : j ∈ s.sm.jobs) (hn : j.state ≠ .printing) (e : Ending) :
    PrintingLaw (s.removeJob j e) := by
  have hp : (s.removeJob j e).pe = s.pe := by simp
  refine ⟨fun k hk => ?_, fun id hid => ?_⟩
  · rw [State.removeJob_sm] at hk
    rw [hp]
    exact h.1 k (List.mem_of_mem_filter hk)
  · rw [hp] at hid
    obtain ⟨k, hk, rfl⟩ := h.2 id hid
    rw [State.removeJob_sm]
    refine ⟨k, List.mem_filter.mpr ⟨hk, ?_⟩, rfl⟩
    have hne : k.id ≠ j.id := fun e' => hn (hs.eq_of_id hj hk e' ▸ (h.1 k hk).mpr hid)
    simpa using hne

/-- A record changes, in or out of PRINTING neither before nor after. -/
theorem PrintingLaw.mapJob (h : PrintingLaw s) (hs : SpoolLaw s) {j : Job} (hj : j ∈ s.sm.jobs) (f : Job → Job)
    (hf : (f j).id = j.id ∧ ((f j).state = .printing ↔ j.state = .printing)) (hp : t.pe.job = s.pe.job)
    (ht : t.sm.jobs = s.sm.jobs.map fun k => if k.id = j.id then f k else k) : PrintingLaw t :=
  h.congr hp _ ht fun k hk => by
    split
    · next e => rw [hs.eq_of_id hj hk e]; exact hf
    · exact ⟨rfl, Iff.rfl⟩

theorem calm_printingLaws : Calm (Sane PrintingLaws) where
  blind s t he hp hn hm hpe h := ⟨calm_engineLaw.blind s t he hp hn hm hpe h.1, still_spoolLaw.blind s t he hp hn hm h.2.1,
    h.2.2.of_jobs (by rw [hpe]) (by rw [hm])⟩
  tick s h := ⟨calm_engineLaw.tick s h.1, still_spoolLaw.tick s h.2.1, h.2.2.congr rfl _ rfl fun _ _ => ⟨rfl, Iff.rfl⟩⟩
  restartBlocks s h := ⟨calm_engineLaw.restartBlocks s h.1, still_spoolLaw.restartBlocks s h.2.1, .of_none rfl nofun⟩
  restartTraffic s h := ⟨calm_engineLaw.restartTraffic s h.1, still_spoolLaw.restartTraffic s h.2.1, .of_none rfl nofun⟩
  entry s a e he h := ⟨calm_engineLaw.entry s a e he h.1, still_spoolLaw.entry s a e he h.2.1, h.2.2.of_jobs rfl rfl⟩
  makePrinter s a hp h := ⟨calm_engineLaw.makePrinter s a hp h.1, still_spoolLaw.makePrinter s a hp h.2.1,
    h.2.2.of_jobs (by simp) (by simp)⟩
  port s n q hq h := ⟨calm_engineLaw.port s n q hq h.1, still_spoolLaw.port s n q hq h.2.1, h.2.2.of_jobs rfl rfl⟩
  portDown s n q h1 h2 h3 h := ⟨calm_engineLaw.portDown s n q h1 h2 h3 h.1, still_spoolLaw.portDown s n q h1 h2 h3 h.2.1, by
    have hp : PrintingLaw (s.setPort n q) := h.2.2.of_jobs rfl rfl
    have hs : SpoolLaw (s.setPort n q) := h.2.1.congr rfl fun src => by cases src <;> rfl
    unfold State.discardOpen
    (repeat' split)
    · exact hp
    · exact hp
    · next hj =>
      obtain ⟨hm, ho, -⟩ := openJob?_spec hj
      exact hp.removeJob hs hm (by rw [ho]; decide) _⟩
  printProfile s p t m h := ⟨h.1, still_spoolLaw.settings s t m h.2.1 |>.congr rfl fun src => by cases src <;> rfl, h.2.2.of_jobs rfl rfl⟩
  enableEngine _ h := jobBound_printingLaws.sane_enableEngine h
  disableEngine _ h := jobBound_printingLaws.sane_disableEngine h
  stopEngine _ h := jobBound_printingLaws.sane_stopEngine h
  resumePrinter _ h := jobBound_printingLaws.sane_resumePrinter h
  lineChanged _ l x h := jobBound_printingLaws.sane_lineChanged l x h
  characterTaken s ha h := by
    simp only [Engine.inAck, Bool.and_eq_true, beq_iff_eq] at ha
    exact jobBound_printingLaws.sane_characterTaken ha.1 h
  characterLost _ hs h := jobBound_printingLaws.sane_characterLost hs h
  grantChanged _ x h := jobBound_printingLaws.sane_grantChanged x h
  releaseExpired _ h := jobBound_printingLaws.sane_releaseExpired h
  openJob s src c p ho hr hd h := ⟨calm_engineLaw.openJob s src c p ho hr hd h.1, h.2.1.openJob c p ho hr, by
    simp only [State.tableRoom, Bool.and_eq_true, decide_eq_true_eq] at hr
    obtain ⟨-, hne⟩ := freshId_spec (s := s) (by omega)
    have hp : (s.openJob src c p).pe = s.pe := by simp
    refine ⟨fun k hk => ?_, fun id hid => ?_⟩
    · rw [hp]
      rw [State.openJob_sm] at hk
      rcases List.mem_append.mp hk with hk | hk
      · exact h.2.2.1 k hk
      · rw [List.mem_singleton.mp hk]
        refine ⟨nofun, fun e => ?_⟩
        obtain ⟨i, hi, e⟩ := h.2.2.2 _ e
        exact absurd e (hne i hi)
    · obtain ⟨k, hk, e⟩ := h.2.2.2 id (hp ▸ hid)
      exact ⟨k, by rw [State.openJob_sm]; exact List.mem_append_left _ hk, e⟩⟩
  removeJob s j e hj hn h := ⟨calm_engineLaw.removeJob s j e hj hn h.1, h.2.1.removeJob hj e, h.2.2.removeJob h.2.1 hj hn e⟩
  enqueue s j hj ho h := ⟨calm_engineLaw.enqueue s j hj ho h.1, h.2.1.enqueue hj ho, by
    obtain ⟨u, hu⟩ := s.enqueue_sm j
    exact h.2.2.mapJob h.2.1 hj (fun k => { k with state := .queued, idleTimer := none }) ⟨rfl, by simp [ho]⟩ (by simp) (by rw [hu])⟩
  offerJobs _ h := jobBound_printingLaws.sane_offerJobs h
  setJobState s j st x hj hs ht h := ⟨calm_engineLaw.setJobState s j st x hj hs ht h.1,
    still_spoolLaw.calm.setJobState s j st x hj hs ht h.2.1,
    h.2.2.mapJob h.2.1 hj (fun k => { k with state := st })
      ⟨rfl, by rcases hs with e | e <;> rcases ht with e' | e' <;> simp [e, e']⟩ (by simp) (by simp [State.setJobState, State.mapJob])⟩
  promote s j hj h := ⟨calm_engineLaw.promote s j hj h.1, h.2.1.promote hj, by
    have hf : PrintingLaw (s.mapJob j.id fun k => { k with priority := .urgent }) :=
      h.2.2.congr rfl _ rfl fun k _ => by split <;> simp
    unfold State.promote
    dsimp only
    (repeat' split)
    exacts [h.2.2, hf, hf.of_jobs (by simp) (by simp)]⟩

theorem admitsText_printingLaws : AdmitsText (Sane PrintingLaws) := fun s j text hj ho ha h =>
  ⟨EngineLaw.congr h.1 (by simp), h.2.1.admitText hj ha, by
    refine h.2.2.congr (by simp) _ (by rw [State.admitText_sm]) fun k _ => ?_
    split <;> simp⟩

/-- Settles O12: the engine takes a job where it has none, and lets it go where the record leaves PRINTING. -/
theorem stepKeepsTheEngineLaws : Obligations.StepKeepsTheEngineLaws :=
  ⟨fun _ _ h ht => (calm_engineLaw.steady.kept fun _ _ _ _ _ _ h => h.congr (by simp)).step h ht,
    fun _ _ hs he hp ht => ((calm_printingLaws.steady.kept admitsText_printingLaws).step ⟨he, hs, hp⟩ ht).bound.printing⟩

end Sys2Proof.Machine
end

section
/-! PROOF. The cutting off of segment B: its law speaks of the copies, the transmitters, the gate and the probe exchange beside the
state of segment B's object, and an order for segment B settles it whatever stood before. -/

namespace Sys2Proof.Machine

variable {s t : State}

/-- What the law says of the transmitters alone, whatever the state of segment B. -/
structure PollLaw (s : State) : Prop where
  sending : s.ti.segB.tx = .probe ↔ s.probeSending = true
  roles : s.ti.segA.tx ≠ .probe ∧ s.ti.segB.tx ≠ .reply

theorem CutLaw.poll (h : CutLaw s) : PollLaw s := ⟨h.sending, h.roles⟩

theorem State.segBIsolated_iff : s.segBIsolated = true ↔ (s.object (.segment .b)).state = .isolated := by
  simp [State.segBIsolated, State.object]

theorem State.segBIsolated_eq_false : s.segBIsolated = false ↔ (s.object (.segment .b)).state ≠ .isolated := by
  simp [State.segBIsolated, State.object]

theorem State.segBIsolated_congr (h : (t.object (.segment .b)).state = (s.object (.segment .b)).state) :
    t.segBIsolated = s.segBIsolated := by
  simpa [State.segBIsolated, State.object] using congrArg (· == Health.isolated) h

theorem PollLaw.congr (h : PollLaw s) (hv : t.cutView = s.cutView := by simp [State.cutView]) : PollLaw t := by
  simp only [State.cutView, Prod.mk.injEq] at hv
  obtain ⟨-, ha, -, hb, -, hp⟩ := hv
  exact ⟨by rw [hb, State.probeSending, hp]; exact h.sending, by rw [ha, hb]; exact h.roles⟩

/-- The law reads what decides whether segment B is cut off, and whether it is ISOLATED. -/
theorem CutLaw.of_view (h : CutLaw s) (hi : t.segBIsolated = s.segBIsolated) (hv : t.cutView = s.cutView) : CutLaw t := by
  have hp := h.poll.congr hv
  simp only [State.cutView, Prod.mk.injEq] at hv
  obtain ⟨hca, -, hcb, hb, hg, hpr⟩ := hv
  refine ⟨fun e => ?_, fun e => by rw [hg]; exact h.released (hi ▸ e), hp.sending, hp.roles⟩
  obtain ⟨ca, cb, tb, sp, g⟩ := h.isolated (hi ▸ e)
  rw [ca] at hca
  rw [cb] at hcb
  exact ⟨by simpa using hca, by simpa using hcb, hb ▸ tb, by rw [State.stationProbe, hpr]; exact sp,
    by rw [hg, State.probeSending, hpr]; exact g⟩

theorem CutLaw.congr (h : CutLaw s) (ho : (t.object (.segment .b)).state = (s.object (.segment .b)).state := by simp)
    (hv : t.cutView = s.cutView := by simp [State.cutView]) : CutLaw t :=
  h.of_view (State.segBIsolated_congr ho) hv

/-! ### The orders for segment B and for a station -/

/-- What is being forwarded stops on both sides (R34). -/
theorem State.stopCopies (s : State) : (s.stopCopy .a).stopCopy .b = { s with ti := { s.ti with
    segA := { s.ti.segA with copy := none, tx := if s.ti.segA.tx = .copy then .idle else s.ti.segA.tx },
    segB := { s.ti.segB with copy := none, tx := if s.ti.segB.tx = .copy then .idle else s.ti.segB.tx } } } := rfl

/-- Stopping what is forwarded leaves the poll that transmitter B sends. -/
theorem PollLaw.stopCopies (h : PollLaw s) : PollLaw ((s.stopCopy .a).stopCopy .b) := by
  rw [State.stopCopies]
  obtain ⟨hs, ha, hb⟩ := h
  refine ⟨?_, ?_, ?_⟩
  · show _ ↔ s.probeSending = true
    rw [← hs]
    dsimp only
    split <;> simp_all
  · dsimp only
    split
    exacts [nofun, ha]
  · dsimp only
    split
    exacts [nofun, hb]

/-- Nothing is forwarded, and segment B is left to segment probes. -/
structure State.Silenced (s : State) : Prop where
  copyA : s.ti.segA.copy = none
  copyB : s.ti.segB.copy = none
  tx : s.ti.segB.tx = .idle ∨ s.ti.segB.tx = .probe
  station : s.stationProbe = false

/-- An isolation of segment B leaves it to segment probes (R34, R152). -/
theorem PollLaw.silenced (h : PollLaw s) (ha : s.ti.segA.copy = none) (hb : s.ti.segB.copy = none)
    (ht : s.ti.segB.tx ≠ .copy) : PollLaw s.abandonStationProbe ∧ s.abandonStationProbe.Silenced := by
  have htx : s.ti.segB.tx = .idle ∨ s.ti.segB.tx = .probe := by
    have := h.roles.2
    cases hx : s.ti.segB.tx <;> simp_all
  unfold State.abandonStationProbe
  split
  · next hp => exact ⟨⟨⟨nofun, nofun⟩, h.roles.1, nofun⟩, ha, hb, .inl rfl, rfl⟩
  · next ph t hne hp =>
    have hph : (ph == .sending) = false := by
      cases ph with
      | sending => exact absurd rfl hne
      | _ => rfl
    have hs := h.sending
    simp only [State.probeSending, hp, Option.any_some, hph] at hs
    exact ⟨⟨hs, h.roles⟩, ha, hb, htx, rfl⟩
  · next h1 h2 =>
    refine ⟨h, ha, hb, htx, ?_⟩
    unfold State.stationProbe
    cases hp : s.hm.probe with
    | none => rfl
    | some p =>
      obtain ⟨ph, k, t⟩ := p
      cases k with
      | segment => rfl
      | station => exact absurd hp (h2 _ _)

/-- The gate over a segment B that is left to segment probes: open for a poll that is being sent (R138, R151). -/
theorem PollLaw.gated (h : PollLaw s) (hq : s.Silenced) (hi : s.segBIsolated = true) :
    CutLaw (s.setGate (!s.segmentProbeSending)) := by
  refine ⟨fun _ => ⟨hq.copyA, hq.copyB, hq.tx, hq.station, ?_⟩, fun e => absurd (e.symm.trans hi) (by decide), h.sending, h.roles⟩
  have hs := hq.station
  show (!s.segmentProbeSending) = !s.probeSending
  simp only [State.stationProbe] at hs
  unfold State.segmentProbeSending State.probeSending
  cases hp : s.hm.probe with
  | none => rfl
  | some p =>
    rw [hp] at hs
    cases hk : p.kind <;> simp_all

/-- An isolation of segment B cuts it off (R34, R138). -/
theorem PollLaw.cutSegmentB (h : PollLaw s) (hi : s.segBIsolated = true) : CutLaw s.cutSegmentB := by
  have hne : ((s.stopCopy .a).stopCopy .b).ti.segB.tx ≠ .copy := by
    rw [State.stopCopies]
    dsimp only
    split
    exacts [nofun, ‹_›]
  obtain ⟨hp, hq⟩ := h.stopCopies.silenced rfl rfl hne
  have hi' : ((s.stopCopy .a).stopCopy .b).abandonStationProbe.segBIsolated = true := by
    rw [← hi]
    unfold State.abandonStationProbe
    split <;> rfl
  unfold State.cutSegmentB
  dsimp only
  rw [State.takeUpBoth_eq]
  exact (hp.gated hq hi').of_view rfl rfl

/-- A readmission of segment B opens its gate (R38). -/
theorem PollLaw.restoreSegmentB (h : PollLaw s) (hi : s.segBIsolated = false) : CutLaw s.restoreSegmentB := by
  unfold State.restoreSegmentB
  dsimp only
  split
  · next hp =>
    refine ⟨fun e => absurd (hi.symm.trans e) (by decide), fun _ => rfl, ?_, h.roles⟩
    have := h.sending
    simp only [State.probeSending, hp] at this
    exact this
  · exact ⟨fun e => absurd (hi.symm.trans e) (by decide), fun _ => rfl, h.sending, h.roles⟩

theorem State.cutStation_cutView (s : State) (a : Address) : (s.cutStation a).cutView = s.cutView := by
  unfold State.cutStation State.disarmStation
  dsimp only
  (repeat' split) <;> rfl

/-- The exchange ends while no poll is sent. -/
theorem CutLaw.probeGone (h : CutLaw s) (hp : s.probeSending = false) : CutLaw (s.setProbe none) := by
  refine ⟨fun e => ?_, h.released, ?_, h.roles⟩
  · obtain ⟨ca, cb, tb, sp, g⟩ := h.isolated e
    exact ⟨ca, cb, tb, rfl, by rw [hp] at g; exact g⟩
  · have := h.sending
    rw [hp] at this
    exact this

theorem CutLaw.restoreStation (h : CutLaw s) (a : Address) : CutLaw (s.restoreStation a) := by
  unfold State.restoreStation
  split
  · next hp => exact h.probeGone (by simp [State.probeSending, hp])
  · exact h

theorem State.isolatePort_cutView (s : State) (n : PortNo) : (s.isolatePort n).cutView = s.cutView := by
  have hf (u : State) : (u.fillOffline n).cutView = u.cutView := by
    unfold State.fillOffline
    split <;> rfl
  have hd (u : State) : (u.discardOpen n).cutView = u.cutView := by simp [State.cutView]
  unfold State.isolatePort
  split
  · rw [hd, hf]; rfl
  · rfl

/-! ### Judgements -/

theorem judging_cutLaw : Judging CutLaw where
  apart s t _ ho hv h := h.congr (by rw [ho (.segment .b) fun _ => nofun]) hv
  setObject s o x hx h := by
    have h1 : PollLaw (s.setObject o x) := h.poll.congr
    have hv : (s.setObject o x).cutView = s.cutView := by simp [State.cutView]
    have hi : (s.setObject o x).segBIsolated = s.segBIsolated := by
      rw [Bool.eq_iff_iff, State.segBIsolated_iff, State.segBIsolated_iff, State.object_setObject_eq]
      split
      · next e => rw [hx, e]
      · rfl
    exact h.of_view hi hv
  isolate s o x hx h := by
    have h1 := PollLaw.congr (s := s) (t := s.setObject o x) h.poll
    unfold State.isolateObject
    dsimp only
    rcases o with (_ | _) | n | a
    · exact h.congr
    · refine PollLaw.cutSegmentB h1.congr ?_
      simp [State.segBIsolated_iff, hx]
    · exact h.congr (by simp) (by rw [State.isolatePort_cutView]; simp [State.cutView])
    · exact h.congr (by simp) (by rw [State.cutStation_cutView]; simp [State.cutView])
  readmit s o x y hx h := by
    have h1 : PollLaw (s.setObject o x) := h.poll.congr
    unfold State.readmitObject State.readmissionOrder
    rcases o with (_ | _) | n | a
    · exact h.congr
    · refine PollLaw.restoreSegmentB h1.congr ?_
      simpa [State.segBIsolated_eq_false] using hx
    · exact h.congr
    · exact CutLaw.restoreStation (h.congr) a

/-! ### The trunk and the probe exchange -/

/-- A segment whose transmitter begins and ends no poll; ISOLATED, segment B stays left to segment probes. -/
theorem CutLaw.setSeg (h : CutLaw s) (g : Seg) (x : Segment)
    (ht : x.tx = (s.seg g).tx ∨ x.tx ≠ .probe ∧ (s.seg g).tx ≠ .probe) (hr : g = .b → x.tx ≠ .reply)
    (hi : s.segBIsolated = true → x.copy = none ∧ (g = .b → x.tx = .idle ∨ x.tx = .probe)) : CutLaw (s.setSeg g x) := by
  obtain ⟨hs, ha, hb⟩ := h.poll
  cases g with
  | a =>
    refine ⟨fun e => ?_, h.released, hs, ?_, hb⟩
    · obtain ⟨-, cb, tb, sp, g⟩ := h.isolated e
      exact ⟨(hi e).1, cb, tb, sp, g⟩
    · rcases ht with e | e
      exacts [fun e' => ha (e ▸ e'), e.1]
  | b =>
    refine ⟨fun e => ?_, h.released, ?_, ha, hr rfl⟩
    · obtain ⟨ca, -, -, sp, g⟩ := h.isolated e
      exact ⟨ca, (hi e).1, (hi e).2 rfl, sp, g⟩
    · show x.tx = .probe ↔ s.probeSending = true
      rw [← hs]
      rcases ht with e | e
      · rw [e]; rfl
      · exact ⟨fun e' => absurd e' e.1, fun e' => absurd e' e.2⟩

/-- An exchange whose poll is not being sent takes the place of another one, or of none. -/
theorem CutLaw.setProbe (h : CutLaw s) (p : Probe) (hs : s.probeSending = false) (hp : p.phase ≠ .sending)
    (hk : s.segBIsolated = true → p.kind ≠ .station) : CutLaw (s.setProbe (some p)) := by
  have hp' : (s.setProbe (some p)).probeSending = false := by simpa [State.probeSending, State.setProbe] using hp
  refine ⟨fun e => ?_, h.released, ?_, h.roles⟩
  · obtain ⟨ca, cb, tb, -, g⟩ := h.isolated e
    exact ⟨ca, cb, tb, by simpa [State.stationProbe, State.setProbe] using hk e, by rw [hp', ← hs]; exact g⟩
  · rw [hp', ← hs]; exact h.sending

theorem CutLaw.not_station (h : CutLaw s) {p : Probe} (hp : s.hm.probe = some p) (hi : s.segBIsolated = true) : p.kind ≠ .station := by
  obtain ⟨-, -, -, sp, -⟩ := h.isolated hi
  simpa [State.stationProbe, hp] using sp

theorem CutLaw.startProbe (h : CutLaw s) {k : ProbeKind} {a : Address} (hp : s.hm.probe = some ⟨.pending, k, a⟩) :
    CutLaw (s.startProbe ⟨.pending, k, a⟩) := by
  have hst := h.not_station hp
  unfold State.startProbe
  dsimp only
  cases k with
  | segment =>
    refine ⟨fun e => ?_, fun _ => rfl, ⟨fun _ => rfl, fun _ => rfl⟩, h.roles.1, nofun⟩
    obtain ⟨ca, cb, -, -, -⟩ := h.isolated e
    exact ⟨ca, cb, .inr rfl, rfl, rfl⟩
  | station => exact ⟨fun e => absurd rfl (hst e), h.released, ⟨fun _ => rfl, fun _ => rfl⟩, h.roles.1, nofun⟩

theorem CutLaw.probeSent (h : CutLaw s) {g : Seg} (ht : (s.seg g).tx = .probe) : CutLaw (s.probeSent g) := by
  cases g with
  | a => exact absurd ht h.roles.1
  | b =>
    have hs := h.sending.mp ht
    cases hp : s.hm.probe with
    | none => rw [State.probeSending, hp] at hs; cases hs
    | some p =>
      obtain ⟨ph, k, a⟩ := p
      have hst := h.not_station hp
      have hph : ph = .sending := by simpa [State.probeSending, hp] using hs
      subst hph
      unfold State.probeSent
      dsimp only
      rw [hp]
      dsimp only
      split
      · next hi =>
        obtain ⟨ca, cb, -, -, -⟩ := h.isolated hi
        exact ⟨fun _ => ⟨ca, cb, .inl rfl, by simpa [State.stationProbe, State.setProbe, State.setGate] using hst hi, rfl⟩,
          fun e => absurd (hi.symm.trans e) (by decide), ⟨nofun, nofun⟩, h.roles.1, nofun⟩
      · next hi => exact ⟨fun e => absurd e hi, h.released, ⟨nofun, nofun⟩, h.roles.1, nofun⟩

/-! ### The steps -/

theorem CutLaw.of_ti (h : CutLaw s) (ht : t.ti = s.ti := by simp) (hh : t.hm = s.hm := by simp) : CutLaw t :=
  h.congr (by rw [State.object_congr hh]) (by rw [State.cutView, State.cutView, ht, hh])

/-- The law of a part whose exchange, copies and transmitters are at rest. -/
theorem cutLaw_of_rest (hi : t.segBIsolated = false) (hg : t.ti.gateB = false) (hp : t.hm.probe = none)
    (ha : t.ti.segA.tx = .idle) (hb : t.ti.segB.tx = .idle) : CutLaw t :=
  ⟨fun e => absurd (hi.symm.trans e) (by decide), fun _ => hg, by simp [hb, State.probeSending, hp], by simp [ha], by simp [hb]⟩

theorem steady_cutLaw : Steady CutLaw where
  blind s t e h := h.congr (by rw [e.object]) e.cut
  tick s h := h.congr (by rfl) (by
    unfold State.tick State.sendFills
    dsimp only [State.cutView]
    split <;> rfl)
  restartBlocks s h := cutLaw_of_rest (by rfl) (by rfl) (by rfl) (by rfl) (by rfl)
  restartTraffic s h := cutLaw_of_rest (by rfl) (by rfl) (by rfl) (by rfl) (by rfl)
  writeEntry s a l x _ _ _ h := judging_cutLaw.writeEntry a l x h
  clearEntry s a _ h := judging_cutLaw.clearEntry a h
  makePrinter s a _ h := judging_cutLaw.makePrinter a h
  setQuota s src n h := judging_cutLaw.setQuota src n h
  learn s g a h := judging_cutLaw.learn g a h
  ageEntry s a h := judging_cutLaw.ageEntry a h
  port s n q _ h := h.of_ti
  enablePort s n _ h := h.of_ti (by simp [State.enablePort, State.notifyLink]) (by simp [State.enablePort, State.notifyLink])
  enterStandby s n _ h := by
    have h1 : CutLaw ((s.mapPort n Port.toStandby).reportPort n) := h.of_ti
    have h2 := judging_cutLaw.clearKeeping (.port n) h1
    exact h2.of_ti (by simp [State.enterStandby]) (by simp [State.enterStandby])
  limits s l _ _ _ h := judging_cutLaw.limits l h
  addScore s o w _ h := judging_cutLaw.addScore o w h
  probeCredit s o h := judging_cutLaw.probeCredit o h
  decay s o h := judging_cutLaw.decay o h
  forceIsolate s o _ h := judging_cutLaw.forceIsolate o h
  clearKeeping s o h := judging_cutLaw.clearKeeping o h
  setMayIsolate s o f _ h := judging_cutLaw.setMayIsolate o f h
  printProfile s p t m h := h.of_ti rfl rfl
  enableEngine s h := h.of_ti
  disableEngine s h := h.of_ti
  stopEngine s h := h.of_ti
  resumePrinter s h := h.of_ti
  lineChanged s l x h := h.of_ti
  characterTaken s _ h := h.of_ti
  characterLost s _ h := h.of_ti
  grantChanged s x h := h.of_ti
  releaseExpired s h := h.of_ti
  openJob s src k p _ _ _ h := h.of_ti
  removeJob s j e _ _ h := h.of_ti
  enqueue s j _ _ h := h.of_ti
  offerJobs s h := h.of_ti
  setJobState s j st x _ _ _ h := h.of_ti
  promote s j _ h := h.of_ti
  copyBegins s g c ht hi h := by
    have hf : s.segBIsolated ≠ true := fun e => by
      obtain ⟨ca, cb, -⟩ := h.isolated e
      rcases hi with hi | hi
      · exact absurd (e.symm.trans hi) (by decide)
      · cases g <;> simp_all [State.seg]
    exact h.setSeg g _ (.inr ⟨nofun, by rw [ht]; nofun⟩) (fun _ => nofun) fun e => absurd e hf
  copyHeld s c hi h := h.setSeg .b _ (.inl rfl) (fun _ => h.roles.2) fun e => absurd (hi.symm.trans e) (by decide)
  copyGone s g x hc ht h := by
    refine h.setSeg g x (ht.imp_right fun ⟨e, e'⟩ => by rw [e, e']; exact ⟨nofun, nofun⟩) ?_ fun e => ⟨hc, ?_⟩
    · rintro rfl
      rcases ht with e | ⟨-, e⟩ <;> rw [e]
      exacts [h.roles.2, nofun]
    · rintro rfl
      obtain ⟨-, -, tb, -⟩ := h.isolated e
      rcases ht with e | ⟨-, e⟩ <;> rw [e]
      exacts [tb, .inl rfl]
  replyBegins s x ht hc h := h.setSeg .a x (.inr ⟨by rw [ht]; nofun, h.roles.1⟩) nofun fun e => ⟨hc.trans (h.isolated e).1, nofun⟩
  replyEnds s g ht h := by
    cases g with
    | a => exact h.setSeg .a _ (.inr ⟨nofun, h.roles.1⟩) nofun fun e => ⟨(h.isolated e).1, nofun⟩
    | b => exact absurd ht h.roles.2
  probeGone s hs h := h.probeGone hs
  probePending s k t hp hk h := h.setProbe _ (by simp [State.probeSending, hp]) nofun fun e e' =>
    absurd (e.symm.trans (hk e')) (by decide)
  probeHears s w k t hp h := by
    have hk := h.not_station hp
    exact h.setProbe _ (by simp [State.probeSending, hp]) nofun hk
  startProbe s k t hp _ h := h.startProbe hp
  probeSent s g ht h := h.probeSent ht

/-- Settles O13: an order for segment B settles what the law says; forwarding begins only past an open gate, and transmitter B alone
sends a poll. -/
theorem stepKeepsSegmentBCutOff : Obligations.StepKeepsSegmentBCutOff := fun _ _ h ht =>
  (steady_cutLaw.kept fun _ _ _ _ _ _ h => h.of_ti).step h ht

end Sys2Proof.Machine
end

section
/-! PROOF. The machine: its step, its reset state, and its queue of commands. -/

namespace Sys2Proof.Machine

/-- Settles O1: a step takes the command at the front of the queue. -/
theorem stepRunsTheFrontCommand : Obligations.StepRunsTheFrontCommand := fun _ _ => rfl

/-! ### No command touches the queue (O3) -/

/-- A next state is answered, with the queue of commands as it was. -/
def AnswersKeepingQueue (s : State) (r : Result) : Prop := ∃ t, r = .next t ∧ t.pending = s.pending

variable {s t : State}

theorem command_pending (code : Nat) (args : List Byte) : ∀ s, (commandOf code args s).2.pending = s.pending := by
  apply commandOf_cases (P := fun c => ∀ s, (c s).2.pending = s.pending)
  case holdJob | releaseJob | cancelJob | promoteJob =>
    intro id s
    refine onJob_keeps (I := fun u => u.pending = s.pending) _ _ (fun j _ h => ?_) rfl
    (repeat' split) <;> simp [accept, refuse]
  all_goals
    intros
    rename_i s
    simp only [readStatusCommand, readEntryCommand, writeEntryCommand, clearEntryCommand, setPrinterAddressCommand,
      setQuotaCommand, setTrunkProfileCommand, setPortProfileCommand, portEnableCommand, portStandbyCommand, readPortCommand,
      setHealthLimitsCommand, setWeightsCommand, forceIsolateCommand, setMayIsolateCommand,
      readHealthCommand, forceReadmitCommand, setPrintProfileCommand, readPrinterCommand, listJobsCommand,
      setAlertsCommand, clearCausesCommand, readReportCommand, readJobCommand, onJob, restartCommand, printerEnableCommand,
      printerDisableCommand, resumePrinterCommand, accept, refuse, answer] <;> (repeat' split) <;> simp

theorem execute_pending (cont : Bool) {c : Command} (h : ∀ s, (c s).2.pending = s.pending) : (s.execute cont c).pending = s.pending :=
  h s

theorem State.restartBlocks_pending (s : State) : s.restartBlocks.pending = s.pending := by simp only [State.restartBlocks]

theorem executeRestart_pending (s : State) : s.executeRestart.pending = s.pending := by
  unfold State.executeRestart
  split
  · rw [State.restartFull, State.mapAl_pending, State.restartBlocks_pending]
  · simp only [State.restartTraffic]
  · rfl

theorem endTransaction_pending (s : State) (b : Bool) : (s.endTransaction b).pending = s.pending := by
  refine (executeRestart_pending _).trans ?_
  split <;> rfl

theorem hardReset_pending (s : State) : s.hardReset.pending = s.pending := by
  rw [State.hardReset, State.mapAl_pending, State.restartBlocks_pending]

/-- What a decay expiry does to the objects leaves the queue of commands alone. -/
theorem decayed_pending (l : List ObjectId) (s : State) : (l.foldl State.decay s).pending = s.pending :=
  Steady.foldl (I := fun u => u.pending = s.pending) (fun t o h => (State.decay_pending t o).trans h) l rfl

theorem primaryAdmit_pending {text : List Byte} (h : s.primaryAdmit text = some t) : t.pending = s.pending := by
  unfold State.primaryAdmit at h
  (repeat' split at h)
  · cases h
  · cases h; simp
  · cases h
  · dsimp only at h
    split at h <;> cases h <;> simp

theorem submitPrimary_pending (m : List Byte) : (s.submitPrimary m).2.pending = s.pending := by
  unfold State.submitPrimary
  split
  · split <;> simp
  · dsimp only
    split
    · rfl
    · next t h =>
      have h1 : t.pending = s.pending := by
        split at h
        · cases h; rfl
        · exact primaryAdmit_pending h
      dsimp only
      split <;> simp [h1]

theorem decideReply_pending (k : Taking) : (s.decideReply k).2.pending = s.pending := by
  unfold State.decideReply
  (repeat' split) <;> simp
  all_goals next h => exact (congrArg (fun x => x.2.pending) h).symm.trans (submitPrimary_pending _)

theorem startReply_pending (k : Taking) : (s.startReply k).pending = s.pending := by
  have h := decideReply_pending (s := s) k
  unfold State.startReply
  split <;> simp_all

theorem exec_answers (c : Instr) (s : State) : AnswersKeepingQueue s (exec c s) := by
  have keeps {u : State} (hu : u.pending = s.pending) : AnswersKeepingQueue s (.next u) := ⟨u, rfl, hu⟩
  cases hw : spelling c with
  | some w => rw [exec_of_spelling hw]; exact keeps (command_pending _ _ s)
  | none =>
    have hal (u : State) (al : AdminLink) (h : u.pending = s.pending) : { u with al }.pending = s.pending := h
    have hc (code : Nat) (args : List Byte) (u : State) (h : u.pending = s.pending) :
        (commandOf code args u).2.pending = s.pending := (command_pending code args u).trans h
    cases c
    all_goals try (cases hw; done)
    all_goals refine keeps ?_
    case hardReset => exact hardReset_pending s
    case i2cStart | i2cStop => exact endTransaction_pending _ _
    case leadByte b =>
      split
      · exact takeLead_keeps (I := fun u => u.pending = s.pending) hal hc b rfl
      · rfl
    case argumentByte b =>
      split
      · exact takeArgument_keeps (I := fun u => u.pending = s.pending) hal hc b rfl
      · rfl
    case replyStartPoint =>
      (repeat' split)
      exacts [startReply_pending _, rfl, rfl]
    case decayTimerExpiry => exact decayed_pending _ _
    all_goals (repeat' split) <;> simp

/-- Settles O3: no row of the table refuses a state, and none of the operations writes the queue. -/
theorem everyCommandAnswersANextState : Obligations.EveryCommandAnswersANextState := exec_answers

/-! ### The idle step (O2) -/

theorem tickTimer_eq (x : Option Nat) : tickTimer x = x.map (· - 1) := by cases x <;> rfl

theorem Port.tick_eq (p : Port) : p.tick = { p with
    gapTimer := if p.gapHeld then p.gapTimer else p.gapTimer.map (· - 1), detachTimer := p.detachTimer.map (· - 1) } := by
  simp only [Port.tick, tickTimer_eq]

theorem State.port_tick (s : State) (n : PortNo) : s.tick.port n = (s.port n).tick := by simp [State.port, State.tick]

/-- Without a fill the trunk and the reply context stand still. -/
theorem State.sendFills_of_not_filling (h : ∀ k sent, s.pr ≠ .filling k sent) : s.sendFills = s := by
  unfold State.sendFills
  split
  · next k sent e => exact absurd e (h k sent)
  · rfl

/-- Settles O2: every timer of the state is ticked once, and the reply context and segment A by a fill alone. -/
theorem idleStepCountsOneMillisecond : Obligations.IdleStepCountsOneMillisecond := by
  intro s hs
  have hstep : step s = .next s.tick := by unfold step; rw [hs]
  refine ⟨s.tick, hstep, ?frame, fun hn => ?still, fun k sent hf => ?filling, rfl, fun n => ?ports, ?jobs, ?engine, rfl, rfl⟩
  case frame =>
    unfold State.tick State.sendFills
    split <;> rfl
  case still =>
    unfold State.tick
    rw [State.sendFills_of_not_filling hn]
    exact ⟨rfl, rfl, rfl⟩
  case filling =>
    have ht : s.tick.pr = s.sendFills.pr ∧ s.tick.draws = s.sendFills.draws ∧ s.tick.ti = s.sendFills.ti := ⟨rfl, rfl, rfl⟩
    obtain ⟨hpr, hd, hti⟩ := ht
    rw [hpr, hd, hti]
    unfold State.sendFills
    rw [hf]
    exact ⟨_, Nat.min_le_right _ _, rfl, rfl, rfl⟩
  case ports => rw [State.port_tick, Port.tick_eq]
  case jobs => simp only [State.tick, tickTimer_eq]
  case engine => simp only [State.tick, tickTimer_eq]

/-! ### The reset state (O4, O5, O6) -/

theorem State.entry_reset (a : Address) : State.reset.entry a = .unused := by
  simp [State.entry, State.reset, Directory.atReset]

theorem State.port_reset (n : PortNo) : State.reset.port n = .atReset .default false false := by
  simp [State.port, State.reset]

theorem State.object_reset (o : ObjectId) : State.reset.object o = .clean (decide (o ≠ .segment .a)) := by
  rcases o with (_ | _) | n | a <;> simp [State.object, State.reset, HealthMonitor.atReset]

theorem State.seg_reset (g : Seg) : State.reset.seg g = .atReset .default := by cases g <;> rfl

/-- Settles O4: the reset tables, row by row. -/
theorem resetHoldsTheSpecValues : Obligations.ResetHoldsTheSpecValues := by
  refine ⟨State.entry_reset, rfl, rfl, rfl, rfl, fun g => ?_, rfl, rfl, rfl, fun n => ?_, rfl, rfl, by simp only [State.reset, Spool.emptied], rfl, rfl, rfl, rfl, rfl,
    rfl, rfl, rfl, rfl, rfl, rfl, rfl, rfl, rfl, rfl, rfl, rfl, rfl, rfl, rfl, rfl, State.object_reset, rfl, rfl, rfl, rfl, rfl, rfl, rfl,
    rfl, rfl, rfl, rfl, rfl, rfl, rfl, rfl, rfl, rfl, rfl, rfl, rfl, ?_, rfl, rfl, rfl, rfl, rfl, rfl⟩
  · rw [State.seg_reset]; exact ⟨rfl, rfl, rfl, rfl, rfl, rfl⟩
  · rw [State.port_reset]; exact ⟨rfl, rfl, ⟨rfl, rfl, rfl, rfl⟩, rfl, rfl, rfl, rfl, rfl, rfl⟩
  · decide

/-- Settles O5: the reset state is clean, empty and at rest. -/
theorem resetMeetsEveryLaw : Obligations.ResetMeetsEveryLaw := by
  have hreport : ReportLaw State.reset := ⟨Nat.zero_le _, rfl⟩
  have hhealth : HealthLaw State.reset := .of_clean (by unfold ThresholdLaw; decide) fun o => object_atReset o rfl rfl rfl rfl
  have hdirectory : DirectoryLaw State.reset := by
    constructor <;> simp [State.entry_reset, Entry.unused, Location.isPort]
  have hports : PortLaw State.reset := fun n => by
    rw [State.port_reset]
    exact Port.orderly_of_empty ⟨rfl, rfl, rfl, rfl⟩ rfl rfl
  have hagree : PortHealthLaw State.reset := fun n => by
    rw [State.port_reset]
    exact ⟨nofun, nofun⟩
  have hspool : SpoolLaw State.reset := .of_empty (by simp only [State.reset, Spool.emptied]) rfl rfl fun src => by
    cases src
    · rfl
    · simp [State.heldOf, State.entry_reset, Entry.unused]
  have hopen : OpenJobLaw State.reset := nofun
  exact ⟨hreport, hhealth, hdirectory, hports, hagree, hspool, rfl, hopen, Engine.Free.lawful (Engine.free_atReset false) rfl,
    ⟨nofun, nofun⟩, cutLaw_of_rest rfl rfl rfl rfl rfl⟩

/-- A hard reset, written out: the reset state with what the outside and the memory keep. -/
theorem State.hardReset_eq (s : State) : s.hardReset = { State.reset with
    ports := Vector.ofFn fun n => { State.reset.port n with srdy := (s.port n).srdy, inBreak := (s.port n).inBreak }
    sm := { State.reset.sm with memory := s.sm.memory }
    pe := { State.reset.pe with pgnt := s.pe.pgnt }
    al := { State.reset.al with straps := s.al.straps, target := 0x4C + s.al.straps.setWidth 7 }
    draws := s.draws, pending := s.pending } := by
  have hp : s.portsAtReset =
      Vector.ofFn fun n => { State.reset.port n with srdy := (s.port n).srdy, inBreak := (s.port n).inBreak } := by
    simp only [State.port_reset]
    rfl
  simp only [State.hardReset, State.restartBlocks, State.mapAl, hp, State.reset, Spool.emptied, Engine.atReset, AdminLink.atReset]

/-- Settles O6: a hard reset written out; the link it leaves is IDLE and takes nothing before a START. -/
theorem hardResetRestoresTheResetValues : Obligations.HardResetRestoresTheResetValues := by
  intro s h
  have hreset : exec .hardReset s = .next h := congrArg Host.Outcome.next s.hardReset_eq
  have hidle : h.al.phase = .idle ∧ h.al.ignoring = true ∧ h.al.acknowledged = false ∧ h.al.sent = none := ⟨rfl, rfl, rfl, rfl⟩
  obtain ⟨hphase, hignoring, hack, hsent⟩ := hidle
  refine ⟨hreset, rfl, show valueBits 0 = List.replicate 8 false by decide, rfl, by rw [AdminLink.sdaOfReadByte, hsent], fun bits ninth => ⟨?_, by
    rw [AdminLink.sdaOfTakenByte, hack]; rfl⟩⟩
  have hc : h.al.commandOfBits bits ninth = .addressByte (sdaByte bits) := by rw [AdminLink.commandOfBits, hphase]
  have htaken : h.al.takeIdleByte (sdaByte bits) = h.al := by
    rw [AdminLink.takeIdleByte, hignoring]
    rfl
  rw [hc]
  show Host.Outcome.next (if h.al.phase = .idle then h.mapAl (·.takeIdleByte (sdaByte bits)) else h) = .next h
  rw [if_pos hphase, State.mapAl, htaken]

end Sys2Proof.Machine
end

section
/-! PROOF. The administration link: how bytes spell commands, how commands answer, and how transactions begin and end
(chapter 10). -/

namespace Sys2Proof.Machine

variable {s t : State}

/-! ### Spelled commands (O17) -/

theorem argumentCount_of_spelling {i : Instr} {w : Spelling} (h : spelling i = some w) :
    argumentCount w.code.toNat = some w.args.length := by
  cases i <;> cases h <;> rfl

/-- The lead byte is read as the code and the continuation flag that it was made of. -/
theorem Spelling.lead_read (w : Spelling) : w.lead.setWidth 7 = w.code ∧ w.lead.getLsbD 7 = w.cont := by
  unfold Spelling.lead
  refine ⟨?_, ?_⟩
  · ext i hi
    rw [BitVec.getElem_setWidth, BitVec.getLsbD_append]
    simp [hi, BitVec.getLsbD_eq_getElem]
  · rw [BitVec.getLsbD_append]
    simp

/-- What the link holds once a lead byte has been taken, before its phase is decided. -/
def AdminLink.lead (al : AdminLink) (w : Spelling) : AdminLink :=
  { al with code := w.code, cont := w.cont, acknowledged := true }

/-- The lead byte of a spelled command without arguments executes it; that of another opens the gathering of its arguments. -/
theorem exec_leadByte_lead {i : Instr} {w : Spelling} (h : spelling i = some w) (hp : s.al.phase = .lead) :
    exec (.leadByte w.lead) s = .next (
      if w.args = [] then { s with al := s.al.lead w }.execute w.cont (commandOf w.code.toNat [])
      else { s with al := { s.al.lead w with phase := .args, remaining := w.args.length, args := [] } }) := by
  obtain ⟨hcode, hcont⟩ := w.lead_read
  show Host.Outcome.next (if s.al.phase = .lead then s.takeLead w.lead else s) = _
  rw [if_pos hp, State.takeLead, hcode, hcont, argumentCount_of_spelling h]
  cases hargs : w.args <;> rfl

/-- The link as the last of its argument bytes leaves it. -/
def AdminLink.filled (al : AdminLink) (bytes : List Byte) : AdminLink :=
  { al with args := al.args ++ bytes, remaining := 0, acknowledged := true }

/-- The argument bytes gather, and the last of them executes the command. -/
theorem run_argumentBytes (b : Byte) (bytes : List Byte) : ∀ s : State, s.al.phase = .args →
    s.al.remaining = bytes.length + 1 → s.run ((b :: bytes).map .argumentByte) =
      .next ({ s with al := s.al.filled (b :: bytes) }.execute s.al.cont
        (commandOf s.al.code.toNat (s.al.args ++ b :: bytes))) := by
  induction bytes generalizing b with
  | nil =>
    intro s hp hr
    have htake : exec (.argumentByte b) s = .next ({ s with al := s.al.filled [b] }.execute s.al.cont
        (commandOf s.al.code.toNat (s.al.args ++ [b]))) := by
      show Host.Outcome.next (if s.al.phase = .args then s.takeArgument b else s) = _
      rw [if_pos hp, State.takeArgument, if_pos (by rw [hr]; rfl), AdminLink.filled, State.mapAl, hr]
      rfl
    rw [List.map_cons, State.run, htake]
    rfl
  | cons c bytes ih =>
    intro s hp hr
    have htake : exec (.argumentByte b) s = .next { s with al :=
        { s.al with args := s.al.args ++ [b], remaining := bytes.length + 1, acknowledged := true } } := by
      show Host.Outcome.next (if s.al.phase = .args then s.takeArgument b else s) = _
      rw [if_pos hp, State.takeArgument, if_neg (by rw [hr]; simp), State.mapAl, hr]
      rfl
    rw [List.map_cons, State.run, htake]
    dsimp only
    refine Eq.trans (ih c _ ?_ ?_) ?_
    · exact hp
    · rfl
    · simp [AdminLink.filled]

/-- Settles O17: the lead byte opens the gathering, and the last argument byte executes the command on what was gathered. -/
theorem spelledCommandsRunAsTheCommand : Obligations.SpelledCommandsRunAsTheCommand := by
  intro i w s h hp
  rw [exec_of_spelling h, Spelling.events, State.run, exec_leadByte_lead h hp]
  cases hargs : w.args with
  | nil =>
    rw [if_pos rfl, AdminLink.gathered, if_pos hargs]
    rfl
  | cons b bytes =>
    rw [if_neg (by simp), AdminLink.gathered, if_neg (by simp [hargs]), hargs]
    exact run_argumentBytes b bytes _ rfl rfl

/-! ### Answers (O18) -/

/-- A command refuses and changes nothing, or answers OK and leaves of the link all but a pending restart as it was. -/
def Answers (c : Command) : Prop := ∀ s : State,
  (∃ st, st ≠ .ok ∧ c s = refuse st s) ∨
  ∃ bytes t, c s = ((.ok, bytes), t) ∧ t.al = { s.al with pendingRestart := t.al.pendingRestart }

theorem answers_commandOf (code : Nat) (args : List Byte) : Answers (commandOf code args) := by
  have no (s : State) {st : Status} (h : st ≠ .ok) : (∃ st', st' ≠ .ok ∧ refuse st s = refuse st' s) ∨
      ∃ bytes t, refuse st s = ((.ok, bytes), t) ∧ t.al = { s.al with pendingRestart := t.al.pendingRestart } := .inl ⟨st, h, rfl⟩
  have yes {s t : State} {bytes : List Byte} (h : t.al = s.al) : (∃ st', st' ≠ .ok ∧ answer bytes t = refuse st' s) ∨
      ∃ bytes' t', answer bytes t = ((.ok, bytes'), t') ∧ t'.al = { s.al with pendingRestart := t'.al.pendingRestart } :=
    .inr ⟨_, _, rfl, by rw [h]⟩
  apply commandOf_cases (P := Answers)
  case restart =>
    intro x s
    unfold restartCommand
    split
    · exact no s (by decide)
    · exact .inr ⟨_, _, rfl, rfl⟩
  all_goals
    intros
    intro s
    simp only [readStatusCommand, readEntryCommand, writeEntryCommand, clearEntryCommand, setPrinterAddressCommand,
      setQuotaCommand, setTrunkProfileCommand, setPortProfileCommand, portEnableCommand, portStandbyCommand, readPortCommand,
      setHealthLimitsCommand, setWeightsCommand, forceIsolateCommand, setMayIsolateCommand,
      readHealthCommand, forceReadmitCommand, setPrintProfileCommand, readPrinterCommand, listJobsCommand,
      setAlertsCommand, clearCausesCommand, readReportCommand, readJobCommand, holdJobCommand,
      releaseJobCommand, cancelJobCommand, promoteJobCommand, onJob, printerEnableCommand,
      printerDisableCommand, resumePrinterCommand]
    (repeat' split) <;> first | exact yes (by simp) | exact no s nofun

/-- Settles O18: each command refuses whole or answers OK, and the link does the rest. -/
theorem answersOfTheLink : Obligations.AnswersOfTheLink := by
  intro i w s h
  have he := exec_of_spelling h (s := s)
  obtain ⟨st, hst, hc⟩ | ⟨bytes, t, hc, hal⟩ := answers_commandOf w.code.toNat w.args s
  · obtain ⟨t, ht, hr⟩ := refuses_of he hc hst
    have hstatus : t.al.response.status = st := by rw [hr.1]
    have hrestart : t.al.pendingRestart = s.al.pendingRestart := by
      obtain ⟨-, -, -, hk, -⟩ := hr
      rw [hk]
    exact ⟨t, ht, by rw [hr.1], fun _ => ⟨hstatus ▸ hr, hrestart⟩, fun hok => absurd (hstatus.symm.trans hok) hst⟩
  · refine ⟨_, he, ?_⟩
    rw [State.execute_eq hc]
    have hindex : t.al.index = s.al.index := by rw [hal]
    unfold AdminLink.goOn AdminLink.respond
    by_cases hgo : w.cont = true ∧ t.al.pendingRestart = none
    · simp [hgo, hindex]
    · simp [hgo, hindex]

/-! ### Transactions (O14) -/

theorem exec_i2c {c : Instr} (hc : c = .i2cStart ∨ c = .i2cStop) (s : State) :
    exec c s = .next (s.endTransaction (decide (c = .i2cStart))) := by
  rcases hc with rfl | rfl <;> rfl

/-- Settles O14: a transaction ends without a restart, and the address byte is judged by the target and the direction. -/
theorem transactionsBeginAndEnd : Obligations.TransactionsBeginAndEnd := by
  refine ⟨fun c s hc hr => ?ends, fun b s hp hi => ?address, fun b s hp hi => ?ignored⟩
  case ends =>
    have hstay (u : State) (hu : u.al.pendingRestart = none) : u.executeRestart = u := by
      rw [State.executeRestart, hu]
    have hstop : decide (c = .i2cStop) = !decide (c = .i2cStart) := by rcases hc with rfl | rfl <;> rfl
    rw [exec_i2c hc, hstop, State.endTransaction]
    by_cases ha : s.al.phase = .args
    · simp only [if_pos ha]
      rw [hstay (s.mapAl _) (by exact hr)]
      rfl
    · simp only [if_neg ha]
      rw [hstay s hr]
      rfl
  case address =>
    show Host.Outcome.next (if s.al.phase = .idle then s.mapAl (·.takeIdleByte b) else s) = _
    rw [if_pos hp, State.mapAl, AdminLink.takeIdleByte_started hi, AdminLink.takeAddress]
    by_cases ht : b.extractLsb' 1 7 = s.al.target
    · simp [ht]
    · simp [ht]
  case ignored =>
    show Host.Outcome.next (if s.al.phase = .idle then s.mapAl (·.takeIdleByte b) else s) = _
    rw [if_pos hp, State.mapAl, AdminLink.takeIdleByte_ignoring hi]

/-! ### Restarts (O15) -/

/-- The blocks as RESTART TRAFFIC leaves them. -/
theorem State.restartTraffic_blocks (s : State) : s.restartTraffic.sd = s.sd.restarted ∧ s.restartTraffic.ti = s.ti.restarted ∧
    s.restartTraffic.pr = .idle ∧ s.restartTraffic.sm = .emptied s.sm.memory s.sm.idleTimeout s.sm.lowMark ∧
    s.restartTraffic.pe = s.pe.restarted ∧ s.restartTraffic.hm = s.hm.restarted ∧ s.restartTraffic.au = s.au.restarted := by
  simp only [State.restartTraffic, and_self]

theorem State.entry_restartTraffic (s : State) (a : Address) : s.restartTraffic.entry a = (s.entry a).restarted :=
  s.entry_of_restarted (by simp only [State.restartTraffic]) a

theorem State.port_restartTraffic (s : State) (n : PortNo) :
    s.restartTraffic.port n = .atReset (s.port n).profile (s.port n).srdy (s.port n).inBreak := by
  simp [State.port, State.restartTraffic, State.portsRestarted]

theorem State.seg_restartTraffic (s : State) (g : Seg) : s.restartTraffic.seg g = .atReset s.ti.written := by
  cases g <;> simp only [State.seg, State.restartTraffic, TrunkInterface.restarted]

theorem State.object_restartTraffic (s : State) (o : ObjectId) :
    s.restartTraffic.object o = .clean (decide (o ≠ .segment .a)) := by
  rcases o with (_ | _) | n | a <;> simp [State.object, State.restartTraffic, HealthMonitor.restarted, HealthMonitor.atReset]

/-- Outside ARGS the transaction ends with the restart that is pending, and nothing else but the link's phase. -/
theorem endTransaction_outside_args (b : Bool) (hp : s.al.phase ≠ .args) : s.endTransaction b =
    s.executeRestart.mapAl fun al =>
      { al with phase := .idle, remaining := 0, args := [], ignoring := !b, released := false, sent := none } := by
  rw [State.endTransaction, if_neg hp]

/-- Settles O15: outside ARGS the end of a transaction is the restart, with the link's phase cleared. -/
theorem restartsAtTheTransactionEnd : Obligations.RestartsAtTheTransactionEnd := by
  refine ⟨fun c s hc hr hp => ?full, fun c s hc hr hp => ?traffic⟩
  case full =>
    refine ⟨_, _, rfl, exec_i2c hc s, ?_⟩
    have hx : s.executeRestart = s.restartFull := by rw [State.executeRestart, hr]
    rw [endTransaction_outside_args _ hp, hx]
    exact ⟨rfl, rfl, rfl, rfl, rfl, rfl⟩
  case traffic =>
    have hx : s.executeRestart = s.restartTraffic := by rw [State.executeRestart, hr]
    refine ⟨_, exec_i2c hc s, ?_⟩
    rw [endTransaction_outside_args _ hp, hx]
    have hal : s.restartTraffic.al = { s.al with pendingRestart := none } := by simp only [State.restartTraffic]
    simp only [State.mapAl_sd, State.mapAl_hm, State.mapAl_ti, State.mapAl_pr, State.mapAl_sm, State.mapAl_pe, State.mapAl_au,
      State.mapAl_al, State.entry_mapAl, State.seg_mapAl, State.port_mapAl, State.object_mapAl, State.entry_restartTraffic,
      State.seg_restartTraffic, State.port_restartTraffic, State.object_restartTraffic, State.restartTraffic_blocks, hal,
      Entry.restarted, Directory.restarted, TrunkInterface.restarted, HealthMonitor.restarted, HealthMonitor.atReset,
      HealthSettingsKept, Spool.emptied, AlertUnit.restarted, Engine.strobeLine_restarted, true_and, and_true, implies_true]
    exact ⟨fun _ => ⟨rfl, rfl, rfl, rfl, rfl, rfl⟩,
      fun _ => ⟨rfl, rfl, ⟨rfl, rfl, rfl, rfl⟩, rfl, rfl, rfl, rfl, rfl, rfl, rfl⟩, rfl, fun _ => rfl⟩

/-! ### Bytes (O16) -/

/-- A byte's acknowledge bit once it was taken. -/
theorem sdaOfTakenByte_of_acknowledged {al : AdminLink} (h : al.acknowledged = true) :
    al.sdaOfTakenByte = [true, true, true, true, true, true, true, true, false] := by
  rw [AdminLink.sdaOfTakenByte, h]; rfl

theorem acknowledged_execute (cont : Bool) {c : Command} (hc : Answers c) (h : s.al.acknowledged = true) :
    (s.execute cont c).al.acknowledged = true := by
  obtain ⟨st, hst, e⟩ | ⟨bytes, t, e, hal⟩ := hc s
  · rw [State.execute_eq e]
    unfold AdminLink.goOn
    split <;> exact h
  · rw [State.execute_eq e]
    have ht : t.al.acknowledged = true := by rw [hal]; exact h
    unfold AdminLink.goOn
    split <;> exact ht

theorem acknowledged_takeLead (b : Byte) (s : State) : (s.takeLead b).al.acknowledged = true := by
  unfold State.takeLead
  dsimp only
  split
  · rfl
  · exact acknowledged_execute _ (answers_commandOf _ _) rfl
  · exact acknowledged_execute _ (answers_commandOf _ _) rfl

theorem acknowledged_takeArgument (b : Byte) (s : State) : (s.takeArgument b).al.acknowledged = true := by
  unfold State.takeArgument
  dsimp only
  split
  · exact acknowledged_execute _ (answers_commandOf _ _) rfl
  · rfl

theorem exec_leadByte (b : Byte) (h : s.al.phase = .lead) : exec (.leadByte b) s = .next (s.takeLead b) := by
  show Host.Outcome.next (if s.al.phase = .lead then s.takeLead b else s) = _
  rw [if_pos h]

theorem exec_argumentByte (b : Byte) (h : s.al.phase = .args) : exec (.argumentByte b) s = .next (s.takeArgument b) := by
  show Host.Outcome.next (if s.al.phase = .args then s.takeArgument b else s) = _
  rw [if_pos h]

theorem exec_discardByte (b : Byte) (h : s.al.phase = .discard) :
    exec (.discardByte b) s = .next (s.mapAl fun al => { al with acknowledged := true }) := by
  show Host.Outcome.next (if s.al.phase = .discard then s.mapAl fun al => { al with acknowledged := true } else s) = _
  rw [if_pos h]

theorem exec_addressByte (b : Byte) (h : s.al.phase = .idle) :
    exec (.addressByte b) s = .next (s.mapAl (·.takeIdleByte b)) := by
  show Host.Outcome.next (if s.al.phase = .idle then s.mapAl (·.takeIdleByte b) else s) = _
  rw [if_pos h]

theorem exec_readByte (ack : Bool) (h : s.al.phase = .reading) : exec (.readByte ack) s = .next (s.mapAl (·.clockOut ack)) := by
  show Host.Outcome.next (if s.al.phase = .reading then s.mapAl (·.clockOut ack) else s) = _
  rw [if_pos h]

/-- A command of each code of R185. -/
def spelledRows : List Instr :=
  [.readStatus false, .readEntry false 0, .writeEntry false 0 0 0 0, .clearEntry false 0, .setPrinterAddress false 0,
    .setQuota false 0 0, .setTrunkProfile false 0 0 0 0 0 0 0 0, .setPortProfile false 0 0 0 0 0 0, .portEnable false 0,
    .portStandby false 0, .readPort false 0, .setHealthLimits false 0 0 0 0 0 0, .setWeights false defaultWeights,
    .readHealth false 0, .forceIsolate false 0, .forceReadmit false 0, .setMayIsolate false 0 0,
    .setPrintProfile false 0 0 0 0 0 0 0, .printerEnable false, .printerDisable false, .readPrinter false, .listJobs false,
    .readJob false 0, .holdJob false 0, .releaseJob false 0, .cancelJob false 0, .promoteJob false 0, .resumePrinter false,
    .setAlerts false 0 0, .clearCauses false 0, .readReport false, .restart false 0]

theorem spelledRows_complete : ∀ code : BitVec 7, (argumentCount code.toNat).isSome = true →
    ∃ i ∈ spelledRows, (spelling i).map Spelling.code = some code := by decide +kernel

/-- A code that no row of the table is spelled with has no argument count. -/
theorem argumentCount_of_unspelled {code : BitVec 7} (h : ∀ i w, spelling i = some w → w.code ≠ code) :
    argumentCount code.toNat = none := by
  by_contra hs
  obtain ⟨i, -, hi⟩ := spelledRows_complete code (Option.isSome_iff_ne_none.mpr hs)
  obtain ⟨w, hw, hc⟩ := Option.map_eq_some_iff.mp hi
  exact h i w hw hc

/-- Such a code is refused. -/
theorem commandOf_of_unspelled {code : Nat} (h : argumentCount code = none) (s : State) :
    commandOf code [] s = refuse .unknownCommand s := by
  have hb : code ∉ [0x01, 0x19, 0x1A, 0x1B, 0x1C, 0x22, 0x2A] := fun hm => by
    rw [argumentCount, if_pos hm] at h
    cases h
  simp only [List.mem_cons, List.not_mem_nil, or_false, not_or] at hb
  simp only [commandOf, bareCommand, hb, if_false]

/-- A condition on the bus needs SCL high, and is the change of SDA. -/
theorem busCondition_iff (x y : BusLevels) :
    (busCondition x y = some .start ↔ x.scl = true ∧ y.scl = true ∧ x.sda = true ∧ y.sda = false) ∧
    (busCondition x y = some .stop ↔ x.scl = true ∧ y.scl = true ∧ x.sda = false ∧ y.sda = true) := by
  obtain ⟨c, d⟩ := x
  obtain ⟨c', d'⟩ := y
  revert c d c' d'
  decide

/-- Settles O16: the bus levels, the bytes by the phase, and the response buffer read out. -/
theorem bytesAreGatheredAndReturned : Obligations.BytesAreGatheredAndReturned := by
  refine ⟨rfl, ⟨busCondition_iff, fun b ninth al => ?bits, fun b c s h => ?taken, fun b s hp hi ht => ?foreign, fun ack s hp => ?read⟩,
    ⟨fun i w s h ha hp => ?opens, fun b s hp hr => ?joins, fun b s hp => exec_discardByte b hp, fun code cont s hp hn => ?unknown⟩,
    fun ack s hp => ?returns⟩
  case bits =>
    refine ⟨sdaBits_eq_ofFn b, ?_⟩
    cases hp : al.phase <;> simp only [AdminLink.commandOfBits, hp, sdaByte_sdaBits]
  case taken =>
    rcases h with ⟨hp, rfl⟩ | ⟨hp, rfl⟩ | ⟨hp, rfl⟩ | ⟨hp, hi, ht, rfl⟩
    · exact ⟨_, exec_leadByte b hp, sdaOfTakenByte_of_acknowledged (acknowledged_takeLead b s)⟩
    · exact ⟨_, exec_argumentByte b hp, sdaOfTakenByte_of_acknowledged (acknowledged_takeArgument b s)⟩
    · exact ⟨_, exec_discardByte b hp, rfl⟩
    · refine ⟨_, exec_addressByte b hp, sdaOfTakenByte_of_acknowledged ?_⟩
      rw [State.mapAl_al, AdminLink.takeIdleByte_started hi, AdminLink.takeAddress, if_pos ht]
      split <;> rfl
  case foreign =>
    refine ⟨_, exec_addressByte b hp, ?_⟩
    dsimp only
    rw [State.mapAl_al, AdminLink.takeIdleByte_started hi, AdminLink.takeAddress, if_neg ht]
    rfl
  case read =>
    refine ⟨_, exec_readByte ack hp, ?_⟩
    dsimp only
    rw [State.mapAl_al, AdminLink.clockOut]
    by_cases hr : s.al.released = true
    · rw [if_pos hr, if_pos hr]
      rfl
    · rw [if_neg hr, if_neg hr, AdminLink.sdaOfReadByte, ← sdaBits_eq_ofFn]
      rfl
  case opens => rw [exec_leadByte_lead h hp, if_neg ha]; rfl
  case joins =>
    rw [exec_argumentByte b hp, State.takeArgument, if_neg (by omega)]
    rfl
  case unknown =>
    have hcode : (BitVec.ofBool cont ++ code).setWidth 7 = code ∧ (BitVec.ofBool cont ++ code).getLsbD 7 = cont :=
      Spelling.lead_read ⟨cont, code, []⟩
    rw [exec_leadByte _ hp, State.takeLead, hcode.1, hcode.2, argumentCount_of_unspelled hn]
    dsimp only
    rw [State.execute_eq (commandOf_of_unspelled (argumentCount_of_unspelled hn) _)]
    rfl
  case returns =>
    refine ⟨fun hr => ?_, fun hr => ?_⟩
    · rw [exec_readByte ack hp, State.mapAl, AdminLink.clockOut, if_neg (by simp [hr])]
      rfl
    · rw [exec_readByte ack hp, State.mapAl, AdminLink.clockOut, if_pos hr]

end Sys2Proof.Machine
end

section
/-! PROOF. The commands that write settings, and the refusals of arguments out of range (R5, R39, R63, R106, R111, R145, R159,
R164, R178). -/

namespace Sys2Proof.Machine

variable {s t : State}

/-! ### The link is part of no block's record -/

theorem State.port_withAl (t : State) (al : AdminLink) (n : PortNo) : ({ t with al } : State).port n = t.port n := rfl

theorem State.entry_withAl (t : State) (al : AdminLink) (a : Address) : ({ t with al } : State).entry a = t.entry a := rfl

theorem State.object_withAl (t : State) (al : AdminLink) (o : ObjectId) : ({ t with al } : State).object o = t.object o := by
  cases o with
  | segment g => cases g <;> rfl
  | port n => rfl
  | station a => rfl

theorem State.seg_withAl (t : State) (al : AdminLink) (g : Seg) : ({ t with al } : State).seg g = t.seg g := by
  cases g <;> rfl

/-! ### Argument bytes in range and out of it -/

theorem inRange_eq_some {lo hi n m : Nat} : inRange lo hi n = some m ↔ (lo ≤ n ∧ n ≤ hi) ∧ n = m := by
  unfold inRange; split <;> simp_all

theorem inRange_of_mem {lo hi n : Nat} (h1 : lo ≤ n) (h2 : n ≤ hi) : inRange lo hi n = some n := if_pos ⟨h1, h2⟩

theorem byte_toNat_le (b : Byte) : b.toNat ≤ 255 := by have := b.isLt; omega

@[simp] theorem flagOf_boolCode (b : Bool) : flagOf (boolCode b) = some b := by cases b <;> rfl

theorem flagOf_of_le {x : Byte} (h : x.toNat ≤ 1) : flagOf x = some (x != 0) := by
  have : x = 0 ∨ x = 1 := by
    have h' : x.toNat = 0 ∨ x.toNat = 1 := by omega
    exact h'.imp (fun e => BitVec.eq_of_toNat_eq e) fun e => BitVec.eq_of_toNat_eq e
  rcases this with rfl | rfl <;> rfl

theorem flagOf_eq_some {x : Byte} {f : Bool} (h : flagOf x = some f) : x.toNat ≤ 1 := by
  unfold flagOf at h
  (repeat' split at h) <;> simp_all

theorem rateOf_eq_some {x : Byte} {r : TrunkRate} (h : rateOf x = some r) : x.toNat ≤ 2 := by
  unfold rateOf at h
  (repeat' split at h) <;> simp_all

theorem modeOf_eq_some {x : Byte} {m : ForwardMode} (h : modeOf x = some m) : x.toNat ≤ 1 := by
  unfold modeOf at h
  (repeat' split at h) <;> simp_all

theorem parityOf_eq_some {x : Byte} {p : Parity} (h : parityOf x = some p) : x.toNat ≤ 2 := by
  unfold parityOf at h
  (repeat' split at h) <;> simp_all

@[simp] theorem parityOf_code (p : Parity) : parityOf p.code = some p := by cases p <;> rfl

theorem portOf_of_ge {x : Byte} (h : 8 ≤ x.toNat) : portOf x = none := dif_neg (by omega)

theorem sourceOf_of_ge {x : Byte} (h : 63 ≤ x.toNat) (hp : x ≠ 0x40) : sourceOf x = none := by
  rw [sourceOf, if_neg hp, addressOf_of_ge h]; rfl

theorem causesOf_of_lt {m : BitVec 16} (h : m.toNat < 512) : causesOf m = some (m.setWidth 9) := if_pos h

theorem causesOf_of_ge {m : BitVec 16} (h : 512 ≤ m.toNat) : causesOf m = none := if_neg (by omega)

theorem restartOf_of_ne {x : Byte} (h1 : x ≠ 1) (h2 : x ≠ 2) : restartOf x = none := by
  rw [restartOf, if_neg h1, if_neg h2]

theorem selectorOf_eq_some : ∀ {x : Byte} {o : ObjectId}, selectorOf x = some o → x = o.code := by
  have h : ∀ x : Byte, (selectorOf x).all (fun o => x == o.code) = true := by decide +kernel
  intro x o e
  have := h x
  rw [e] at this
  simpa using this

theorem selectorOf_of_ne {x : Byte} (h : ∀ o : ObjectId, x ≠ o.code) : selectorOf x = none := by
  cases e : selectorOf x with
  | none => rfl
  | some o => exact absurd (selectorOf_eq_some e) (h o)

theorem trunkProfileOf_eq_some {rate sync count d f : Byte} {j : BitVec 16} {mode : Byte} {p : TrunkProfile} :
    trunkProfileOf rate sync count d f j mode = some p ↔
      rateOf rate = some p.rate ∧ modeOf mode = some p.mode ∧ p.sync = sync ∧ ((1 ≤ count.toNat ∧ count.toNat ≤ 2) ∧ count.toNat = p.syncCount) ∧
      ((4 ≤ d.toNat ∧ d.toNat ≤ 64) ∧ d.toNat = p.deadline) ∧ ((0 ≤ f.toNat ∧ f.toNat ≤ 63) ∧ f.toNat = p.fill) ∧
      ((200 ≤ j.toNat ∧ j.toNat ≤ 1023) ∧ j.toNat = p.jabber) := by
  simp only [trunkProfileOf, Option.bind_eq_bind, Option.bind_eq_some_iff, inRange_eq_some, Option.pure_def, Option.some_inj]
  constructor
  · rintro ⟨r, hr, c, hc, d', hd, f', hf, j', hj, m, hm, rfl⟩
    exact ⟨hr, hm, rfl, hc, hd, hf, hj⟩
  · rintro ⟨hr, hm, hs, hc, hd, hf, hj⟩
    exact ⟨_, hr, _, hc, _, hd, _, hf, _, hj, _, hm, by rw [← hs]⟩

theorem portProfileOf_eq_some {rate parity stop gap ready : Byte} {p : PortProfile}
    (h : portProfileOf rate parity stop gap ready = some p) :
    rate.toNat < 8 ∧ parity.toNat ≤ 2 ∧ (1 ≤ stop.toNat ∧ stop.toNat ≤ 2) ∧ 5 ≤ gap.toNat ∧ ready.toNat ≤ 1 := by
  simp only [portProfileOf, Option.bind_eq_bind, Option.bind_eq_some_iff, inRange_eq_some, Option.pure_def, Option.some_inj] at h
  obtain ⟨r, hr, q, hq, st, hs, g, hg, i, hi, -⟩ := h
  refine ⟨?_, parityOf_eq_some hq, hs.1, hg.1.1, flagOf_eq_some hi⟩
  by_contra hge
  rw [portOf_of_ge (by omega)] at hr
  cases hr

theorem portProfileOf_of_range (rate : Fin 8) (parity : Parity) {stop gap ready : Byte} (h1 : 1 ≤ stop.toNat) (h2 : stop.toNat ≤ 2)
    (h3 : 5 ≤ gap.toNat) (h4 : ready.toNat ≤ 1) : portProfileOf (byteOf rate.val) parity.code stop gap ready =
      some { rate, parity, stopBits := stop.toNat, gap := gap.toNat, peerUsed := ready == 0 } := by
  have hr : portOf (byteOf rate.val) = some rate := portOf_byteOf rate
  simp only [portProfileOf, hr, parityOf_code, inRange_of_mem h1 h2, inRange_of_mem h3 (byte_toNat_le gap), flagOf_of_le h4,
    Option.bind_eq_bind, Option.bind_some, Option.pure_def]
  simp [bne]

theorem printProfileOf_eq_some {cable resume ff timeout gap : Byte} {p : PrintProfile}
    (h : printProfileOf cable resume ff timeout gap = some p) :
    cable.toNat ≤ 1 ∧ resume.toNat ≤ 1 ∧ ff.toNat ≤ 1 ∧ (1 ≤ timeout.toNat ∧ timeout.toNat ≤ 60) ∧
      (1 ≤ gap.toNat ∧ gap.toNat ≤ 100) := by
  simp only [printProfileOf, Option.bind_eq_bind, Option.bind_eq_some_iff, inRange_eq_some, Option.pure_def, Option.some_inj] at h
  obtain ⟨c, hc, r, hr, f, hf, t, ht, g, hg, -⟩ := h
  exact ⟨flagOf_eq_some hc, flagOf_eq_some hr, flagOf_eq_some hf, ht.1, hg.1⟩

theorem printProfileOf_of_range (shared resume formFeed : Bool) {timeout gap : Byte} (h1 : 1 ≤ timeout.toNat) (h2 : timeout.toNat ≤ 60)
    (h3 : 1 ≤ gap.toNat) (h4 : gap.toNat ≤ 100) :
    printProfileOf (boolCode shared) (boolCode resume) (boolCode formFeed) timeout gap = some
      { shared, resumeChar := resume, formFeedAtEnd := formFeed, ackTimeout := timeout.toNat, releaseGap := gap.toNat } := by
  simp only [printProfileOf, flagOf_boolCode, inRange_of_mem h1 h2, inRange_of_mem h3 h4, Option.bind_eq_bind, Option.bind_some,
    Option.pure_def]

/-! ### The commands that write settings -/

/-- SET_QUOTA of a desk (R5). -/
theorem setQuota_desk_accepts (cont : Bool) (a : Address) {q : BitVec 16} (hq : q.toNat ≤ 512) :
    Accepts (.setQuota cont (byteOf a.val) q) s cont fun t =>
      t.entry a = { s.entry a with quota := q.toNat } ∧ EntriesKeptBut s t [a] ∧ t = { s with sd := t.sd, al := t.al } := by
  refine accepts_of (s1 := s.setQuota (.desk a) q.toNat) rfl
    (by simp only [setQuotaCommand, sourceOf_byteOf, if_neg (Nat.not_lt.mpr hq)]) rfl fun al => ⟨?_, ⟨fun b hb => ?_, rfl⟩, rfl⟩
  · exact s.entry_setEntry a _
  · exact s.entry_setEntry_of_ne _ (by simpa using hb)

/-- SET_PORT_PROFILE of a STANDBY port (R63). -/
theorem setPortProfile_accepts (cont : Bool) (n : PortNo) (rate : Fin 8) (parity : Parity) {stop gap ready : Byte}
    (hstandby : (s.port n).state = .standby) (h1 : 1 ≤ stop.toNat) (h2 : stop.toNat ≤ 2) (h3 : 5 ≤ gap.toNat)
    (h4 : ready.toNat ≤ 1) :
    Accepts (.setPortProfile cont (byteOf n.val) (byteOf rate.val) parity.code stop gap ready) s cont fun t =>
      t.port n = { s.port n with
        profile := { rate, parity, stopBits := stop.toNat, gap := gap.toNat, peerUsed := ready == 0 } } ∧
      PortsKeptBut s t [n] ∧ t = { s with ports := t.ports, al := t.al } := by
  refine accepts_of (s1 := s.mapPort n fun q => { q with
      profile := { rate, parity, stopBits := stop.toNat, gap := gap.toNat, peerUsed := ready == 0 } }) rfl
    (by simp only [setPortProfileCommand, portOf_byteOf, portProfileOf_of_range rate parity h1 h2 h3 h4, hstandby,
      ne_eq, not_true_eq_false, if_false]) rfl fun al => ⟨?_, fun m hm => ?_, rfl⟩
  · rw [State.port_withAl, State.port_mapPort]
  · rw [State.port_withAl, s.port_mapPort_of_ne _ (by simpa using hm)]

/-- RESTART is accepted for the end of its transaction, whatever its continuation flag (R178). -/
theorem exec_restart {kind : Byte} {k : RestartKind} (h : restartOf kind = some k) (cont : Bool) :
    exec (.restart cont kind) s = .next { s with al := { s.al with
      pendingRestart := some k, phase := .discard, remaining := 0, args := []
      response := { status := .ok, index := s.al.index, result := [] } } } := by
  have hc : restartCommand kind s = accept (s.mapAl fun al => { al with pendingRestart := some k }) := by
    simp only [restartCommand, h]
  show Host.Outcome.next (s.execute cont (restartCommand kind)) = _
  rw [State.execute_eq hc]
  simp [AdminLink.goOn, AdminLink.respond, State.mapAl]

/-- Settles O21: each command passes its range tests, and its block writes the settings and nothing else. -/
theorem settingsAreWritten : Obligations.SettingsAreWritten := by
  intro cont s
  refine ⟨fun a q hq => setQuota_desk_accepts cont a hq, fun q hq => ?primaryQuota, fun w => ?weights,
    fun alerts reports ha hr => ?alerts, fun causes hc => ?causes,
    fun n rate parity stop gap ready hs h1 h2 h3 h4 => setPortProfile_accepts cont n rate parity hs h1 h2 h3 h4,
    fun shared resume formFeed timeout gap idle low h1 h2 h3 h4 h5 h6 => ?print, fun kind k hk => exec_restart ?_ cont⟩
  case primaryQuota =>
    exact accepts_of (s1 := s.setQuota .primary q.toNat) rfl
      (by simp only [setQuotaCommand, sourceOf, if_true, if_neg (Nat.not_lt.mpr hq)]) rfl fun _ => rfl
  case weights => exact accepts_of rfl rfl rfl fun _ => rfl
  case alerts =>
    exact accepts_of (s1 := { s with au := { s.au with alerts := alerts.setWidth 9, reports := reports.setWidth 9 } }) rfl
      (by simp only [setAlertsCommand, causesOf_of_lt ha, causesOf_of_lt hr]) rfl fun _ => rfl
  case causes =>
    exact accepts_of (s1 := { s with au := { s.au with flags := s.au.flags &&& ~~~(causes.setWidth 9) } }) rfl
      (by simp only [clearCausesCommand, causesOf_of_lt hc]) rfl fun _ => rfl
  case print =>
    exact accepts_of (s1 := { s with
        pe := { s.pe with profile :=
          { shared, resumeChar := resume, formFeedAtEnd := formFeed, ackTimeout := timeout.toNat, releaseGap := gap.toNat } }
        sm := { s.sm with idleTimeout := idle.toNat, lowMark := low.toNat } }) rfl
      (by simp only [setPrintProfileCommand, printProfileOf_of_range shared resume formFeed h1 h2 h3 h4,
        inRange_of_mem h5 (byte_toNat_le idle), inRange_of_mem (Nat.zero_le _) h6]) rfl fun _ => rfl
  · obtain ⟨rfl, rfl⟩ | ⟨rfl, rfl⟩ := hk <;> rfl

/-! ### The refusals -/

theorem trunkProfileOf_of_out {rate sync count d f : Byte} {j : BitVec 16} {mode : Byte}
    (h : 3 ≤ rate.toNat ∨ count.toNat = 0 ∨ 3 ≤ count.toNat ∨ d.toNat < 4 ∨ 64 < d.toNat ∨ 63 < f.toNat ∨
      j.toNat < 200 ∨ 1023 < j.toNat ∨ 2 ≤ mode.toNat) : trunkProfileOf rate sync count d f j mode = none := by
  cases hp : trunkProfileOf rate sync count d f j mode with
  | none => rfl
  | some p =>
    obtain ⟨hr, hm, -, hc, hd, hf, hj⟩ := trunkProfileOf_eq_some.mp hp
    have := rateOf_eq_some hr
    have := modeOf_eq_some hm
    omega

/-- SET_PORT_PROFILE with an argument out of range (R63). -/
theorem setPortProfile_refuses (cont : Bool) {port rate parity stop gap ready : Byte}
    (h : 8 ≤ port.toNat ∨ 8 ≤ rate.toNat ∨ 3 ≤ parity.toNat ∨ stop.toNat = 0 ∨ 3 ≤ stop.toNat ∨ gap.toNat < 5 ∨
      2 ≤ ready.toNat) : Refuses (.setPortProfile cont port rate parity stop gap ready) s .badValue := by
  refine refuses_of rfl ?_ (by decide)
  unfold setPortProfileCommand
  obtain hport | hrest := h
  · rw [portOf_of_ge hport]
  · cases hp : portProfileOf rate parity stop gap ready with
    | none => cases portOf port <;> rfl
    | some p =>
      have := portProfileOf_eq_some hp
      omega

/-- SET_PRINT_PROFILE with an argument out of range (R106, R111). -/
theorem setPrintProfile_refuses (cont : Bool) {cable resume ff timeout gap idle : Byte} {low : BitVec 16}
    (h : 2 ≤ cable.toNat ∨ 2 ≤ resume.toNat ∨ 2 ≤ ff.toNat ∨ timeout.toNat = 0 ∨ 60 < timeout.toNat ∨ gap.toNat = 0 ∨
      100 < gap.toNat ∨ idle.toNat = 0 ∨ 512 < low.toNat) :
    Refuses (.setPrintProfile cont cable resume ff timeout gap idle low) s .badValue := by
  refine refuses_of rfl ?_ (by decide)
  unfold setPrintProfileCommand
  split
  next p t m hp ht hm =>
    have := printProfileOf_eq_some hp
    have := inRange_eq_some.mp ht
    have := inRange_eq_some.mp hm
    omega
  next => rfl

/-- SET_HEALTH_LIMITS with an argument out of range, or with thresholds out of their order (R145). -/
theorem setHealthLimits_refuses (cont : Bool) {ts ti tr : BitVec 16} {k decay probe : Byte}
    (h : ¬ (tr.toNat < ts.toNat ∧ ts.toNat < ti.toNat ∧ ti.toNat ≤ 1023) ∨ k.toNat = 0 ∨ 7 < k.toNat ∨ decay.toNat = 0 ∨
      probe.toNat = 0 ∨ 60 < probe.toNat) : Refuses (.setHealthLimits cont ts ti tr k decay probe) s .badValue := by
  refine refuses_of rfl ?_ (by decide)
  unfold setHealthLimitsCommand
  split
  next => rfl
  next l hl =>
    have := healthLimitsOf_spec hl
    omega

/-- A selector that is no object's code (R142 to R146). -/
theorem selector_refuses (cont : Bool) {x : Byte} (h : ∀ o : ObjectId, x ≠ o.code) :
    Refuses (.forceIsolate cont x) s .badValue ∧ Refuses (.forceReadmit cont x) s .badValue ∧
      (∀ f, Refuses (.setMayIsolate cont x f) s .badValue) ∧ (x ≠ 0xFF → Refuses (.readHealth cont x) s .badValue) := by
  have hs := selectorOf_of_ne h
  refine ⟨refuses_of rfl (by simp only [forceIsolateCommand, hs]) (by decide),
    refuses_of rfl (by simp only [forceReadmitCommand, hs]) (by decide),
    fun f => refuses_of rfl (by simp only [setMayIsolateCommand, hs]) (by decide), fun hx => ?_⟩
  exact refuses_of rfl (by simp only [readHealthCommand, if_neg hx, hs]) (by decide)

/-- A port number above 7 (R65, R67, R82). -/
theorem portOf_refuses (cont : Bool) {x : Byte} (h : 8 ≤ x.toNat) :
    Refuses (.portEnable cont x) s .badValue ∧ Refuses (.portStandby cont x) s .badValue ∧
      Refuses (.readPort cont x) s .badValue := by
  have hp := portOf_of_ge h
  exact ⟨refuses_of rfl (by simp only [portEnableCommand, hp]) (by decide),
    refuses_of rfl (by simp only [portStandbyCommand, hp]) (by decide),
    refuses_of rfl (by simp only [readPortCommand, hp]) (by decide)⟩

theorem flagOf_of_ge {x : Byte} (h : 2 ≤ x.toNat) : flagOf x = none := by
  cases e : flagOf x with
  | none => rfl
  | some f => have := flagOf_eq_some e; omega

/-- Settles O22: in each refusal an argument fails its range test, the port is in use, or no record holds the id. -/
theorem argumentsOutOfRangeAreRefused : Obligations.ArgumentsOutOfRangeAreRefused := by
  intro cont s
  refine ⟨fun x q h => ?quota, fun x hx => ⟨(refuses_of_address_ge s cont hx).1, (refuses_of_address_ge s cont hx).2, fun hne => ?readEntry⟩,
    fun x hx => portOf_refuses cont hx, fun rate sync count d f j mode age h => ?trunk,
    fun port rate parity stop gap ready h => setPortProfile_refuses cont h,
    fun n rate parity stop gap ready hs h1 h2 h3 h4 => ?inUse,
    fun cable resume ff timeout gap idle low h => setPrintProfile_refuses cont h,
    fun ts ti tr k decay probe h => setHealthLimits_refuses cont h, fun alerts reports h => ?alerts, fun causes h => ?causes,
    fun kind h1 h2 => ?restart, fun x h => selector_refuses cont h, fun x flag h => ?flag, (refuses_onJob rfl).1 rfl,
    fun id => (refuses_onJob rfl).2⟩
  case quota =>
    refine refuses_of rfl ?_ (by decide)
    unfold setQuotaCommand
    obtain ⟨hx, hp⟩ | hq := h
    · rw [sourceOf_of_ge hx hp]
    · split
      · rfl
      · rw [if_pos hq]
  case readEntry => exact refuses_of rfl (by simp only [readEntryCommand, sourceOf_of_ge hx hne]) (by decide)
  case trunk => exact refuses_of rfl (by simp only [setTrunkProfileCommand, trunkProfileOf_of_out h]) (by decide)
  case inUse =>
    exact refuses_of rfl
      (by simp only [setPortProfileCommand, portOf_byteOf, portProfileOf_of_range rate parity h1 h2 h3 h4, if_pos hs]) (by decide)
  case alerts =>
    refine refuses_of rfl ?_ (by decide)
    obtain ha | hr := h
    · simp only [setAlertsCommand, causesOf_of_ge ha]
    · simp only [setAlertsCommand, causesOf_of_ge hr]
      cases causesOf alerts <;> rfl
  case causes => exact refuses_of rfl (by simp only [clearCausesCommand, causesOf_of_ge h]) (by decide)
  case restart => exact refuses_of rfl (by simp only [restartCommand, restartOf_of_ne h1 h2]) (by decide)
  case flag =>
    refine refuses_of rfl ?_ (by decide)
    simp only [setMayIsolateCommand, flagOf_of_ge h]
    cases selectorOf x <;> rfl

end Sys2Proof.Machine
end

section
/-! PROOF. What the fixed order of addresses and of health objects leaves of each of them: aging (R15, R16), decay (R132) and
new thresholds (R145). -/

namespace Sys2Proof.Machine

variable {s t : State}

/-! ### A fold that acts on each item once -/

/-- A step that acts on its own item alone, by that item and a context that no step changes, acts once on each item of a list
without repetition. -/
theorem foldl_each {α β γ : Type} [DecidableEq α] {f : State → α → State} {view : State → α → β} {context : State → γ}
    {g : State → α → β} (hf : ∀ t a b, view (f t a) b = if b = a then g t a else view t b)
    (hg : ∀ t t' a, view t' a = view t a → context t' = context t → g t' a = g t a)
    (hc : ∀ t a, context (f t a) = context t) (l : List α) (hl : l.Nodup) (s : State) (b : α) :
    view (l.foldl f s) b = if b ∈ l then g s b else view s b := by
  induction l generalizing s with
  | nil => simp
  | cons a l ih =>
    obtain ⟨ha, hl⟩ := List.nodup_cons.mp hl
    rw [List.foldl_cons, ih hl]
    by_cases hb : b ∈ l
    · have hne : b ≠ a := fun e => ha (e ▸ hb)
      rw [if_pos hb, if_pos (List.mem_cons_of_mem a hb)]
      exact hg _ _ _ (by rw [hf, if_neg hne]) (hc s a)
    · rw [if_neg hb, hf]
      by_cases hba : b = a
      · subst hba; simp
      · simp [hb, hba]

/-! ### Aging -/

/-- An entry and its station object after an expiry of the minute timer (R15). -/
def State.aged (s : State) (a : Address) : Entry × HealthObject :=
  if (s.entry a).location.isSegment = false then (s.entry a, s.object (.station a))
  else if (s.entry a).origin = .learned ∧ s.sd.ageLimit ≠ 0 ∧ s.sd.ageLimit ≤ min 255 ((s.entry a).age + 1) ∧
      (s.object (.station a)).state ≠ .isolated then
    ((s.entry a).vacated, .clean (s.object (.station a)).mayIsolate)
  else ({ s.entry a with age := min 255 ((s.entry a).age + 1) }, s.object (.station a))

theorem State.view_ageEntry (s : State) (a b : Address) :
    ((s.ageEntry a).entry b, (s.ageEntry a).object (.station b)) =
      if b = a then s.aged a else (s.entry b, s.object (.station b)) := by
  unfold State.ageEntry State.aged
  dsimp only
  by_cases hseg : (s.entry a).location.isSegment = true
  · rw [if_pos hseg]
    by_cases hb : b = a
    · rw [if_pos hb, if_neg (c := (s.entry a).location.isSegment = false) (by simp [hseg])]
      split <;> simp [hb, State.object_clearKeeping]
    · rw [if_neg hb]
      split <;> simp [hb, State.object_clearKeeping]
  · rw [if_neg hseg]
    by_cases hb : b = a
    · rw [if_pos hb, if_pos (by simpa using hseg), hb]
    · rw [if_neg hb]

theorem State.object_ageEntry_of_ne (a : Address) {o : ObjectId} (ho : ∀ b, o ≠ .station b) : (s.ageEntry a).object o = s.object o := by
  unfold State.ageEntry
  dsimp only
  (repeat' split) <;> simp [State.object_clearKeeping, ho]

theorem State.clearKeeping_station_ti (s : State) (a : Address) : (s.clearKeeping (.station a)).ti = s.ti := s.clearObject_station_ti a _

theorem State.clearKeeping_station_ports (s : State) (a : Address) : (s.clearKeeping (.station a)).ports = s.ports :=
  s.clearObject_station_ports a _

theorem State.ageEntry_ti (a : Address) : (s.ageEntry a).ti = s.ti := by
  unfold State.ageEntry
  dsimp only
  (repeat' split) <;> simp [State.clearKeeping_station_ti]

theorem State.ageEntry_ports (a : Address) : (s.ageEntry a).ports = s.ports := by
  unfold State.ageEntry
  dsimp only
  (repeat' split) <;> simp [State.clearKeeping_station_ports]

theorem State.ageEntry_sd (s : State) (a : Address) : (s.ageEntry a).sd = { s.sd with entries := (s.ageEntry a).sd.entries } := by
  unfold State.ageEntry
  dsimp only
  (repeat' split) <;> simp [State.setEntry]

theorem State.ageAll_sd (s : State) : s.ageAll.sd = { s.sd with entries := s.ageAll.sd.entries } := by
  unfold State.ageAll
  generalize List.finRange 63 = as
  induction as generalizing s with
  | nil => rfl
  | cons b bs ih => rw [List.foldl_cons, ih, State.ageEntry_sd]

/-- Settles O25: each address is aged once, by its own entry and object and the age limit. -/
theorem minuteTimerAgesTheEntries : Obligations.MinuteTimerAgesTheEntries := by
  intro s
  let s1 : State := { s with sd := { s.sd with minuteTimer := 60000 } }
  have hsd : s1.ageAll.sd = { s1.sd with entries := s1.ageAll.sd.entries } := s1.ageAll_sd
  have hview (a : Address) : (s1.ageAll.entry a, s1.ageAll.object (.station a)) = s1.aged a := by
    have h := foldl_each (view := fun t a => (t.entry a, t.object (.station a))) (context := fun t => t.sd.ageLimit)
      (g := State.aged) State.view_ageEntry
      (fun t t' a hv hc => by
        obtain ⟨he, ho⟩ := Prod.mk.inj hv
        simp only [State.aged, he, ho, show t'.sd.ageLimit = t.sd.ageLimit from hc])
      (fun t a => by rw [State.ageEntry_sd]) (List.finRange 63) (List.nodup_finRange 63) s1 a
    rw [if_pos (List.mem_finRange a)] at h
    exact h
  refine ⟨s1.ageAll, rfl, hsd, ?_, fun o ho => ?_, fun a => ?_⟩
  · have hti : s1.ageAll.ti = s.ti := foldl_kept State.ti (fun t a => t.ageEntry_ti a) _ s1
    have hports : s1.ageAll.ports = s.ports := foldl_kept State.ports (fun t a => t.ageEntry_ports a) _ s1
    rw [State.eq_of_kept hti s1.ageAll_pr hports s1.ageAll_sm s1.ageAll_pe s1.ageAll_draws s1.ageAll_pending, s1.ageAll_al]
  · exact (foldl_kept (fun t => t.object o) (fun t a => t.object_ageEntry_of_ne a ho) _ s1).trans (State.object_congr rfl o)
  · obtain ⟨he, ho⟩ := Prod.ext_iff.mp (hview a)
    have hs : s1.aged a = s.aged a := rfl
    rw [hs] at he ho
    unfold State.aged at he ho
    dsimp only at he ho ⊢
    split at he
    next h => rw [if_pos h] at ho ⊢; exact ⟨he, ho⟩
    next h =>
      rw [if_neg h] at ho ⊢
      split at he
      next h' => rw [if_pos h'] at ho ⊢; exact ⟨he, ho⟩
      next h' => rw [if_neg h'] at ho ⊢; exact ⟨he, ho⟩

/-! ### Decay and new thresholds -/

/-- What a judgement reads beside its object: the thresholds, the decay shift and the locations. -/
def State.judgingView (s : State) : (Nat × Nat × Nat × Nat) × (Address → Location) :=
  ((s.hm.suspect, s.hm.isolate, s.hm.readmit, s.hm.shift), fun a => (s.entry a).location)

theorem State.judgingView_eq (hs : t.hm.suspect = s.hm.suspect) (hi : t.hm.isolate = s.hm.isolate)
    (hr : t.hm.readmit = s.hm.readmit) (hk : t.hm.shift = s.hm.shift) (he : ∀ a, (t.entry a).location = (s.entry a).location) :
    t.judgingView = s.judgingView := by
  simp [State.judgingView, hs, hi, hr, hk, he]

theorem State.judged_of_view {o : ObjectId} (n : Nat) (ho : t.object o = s.object o) (hv : t.judgingView = s.judgingView) :
    t.judged o n = s.judged o n := by
  simp only [State.judgingView, Prod.mk.injEq] at hv
  obtain ⟨⟨hs, hi, hr, -⟩, he⟩ := hv
  exact State.judged_congr n (by rw [ho]) (by rw [ho]) hr hi hs fun a _ => congrFun he a

theorem State.judgingView_evaluate (s : State) (o : ObjectId) : (s.evaluate o).judgingView = s.judgingView :=
  State.judgingView_eq (by simp) (by simp) (by simp) (by simp) (by simp)

theorem nodup_allObjects : allObjects.Nodup := by
  have hp : ((List.finRange 8).map ObjectId.port).Nodup := (List.nodup_finRange 8).map fun _ _ e => ObjectId.port.inj e
  have hs : ((List.finRange 63).map ObjectId.station).Nodup := (List.nodup_finRange 63).map fun _ _ e => ObjectId.station.inj e
  unfold allObjects
  rw [List.nodup_append, List.nodup_append]
  refine ⟨⟨by decide, hp, ?_⟩, hs, ?_⟩ <;> simp +contextual

/-- A pass over every object that judges each by itself and what a judgement reads. -/
theorem object_foldl_allObjects {f : State → ObjectId → State} {g : State → ObjectId → HealthObject}
    (hf : ∀ t o p, (f t o).object p = if p = o then g t o else t.object p)
    (hg : ∀ t t' o, t'.object o = t.object o → t'.judgingView = t.judgingView → g t' o = g t o)
    (hc : ∀ t o, (f t o).judgingView = t.judgingView) (s : State) (o : ObjectId) :
    (allObjects.foldl f s).object o = g s o := by
  rw [foldl_each (view := State.object) (context := State.judgingView) hf hg hc allObjects nodup_allObjects s o,
    if_pos (mem_allObjects o)]

/-- One object after a decay (R132). -/
def State.decayedObject (s : State) (o : ObjectId) : HealthObject :=
  if (s.object o).state ≠ .isolated ∧ 0 < (s.object o).score then s.judged o (decayed s.hm.shift (s.object o).score)
  else s.object o

theorem State.object_decay (s : State) (o p : ObjectId) :
    (s.decay o).object p = if p = o then s.decayedObject o else s.object p := by
  unfold State.decay State.decayedObject
  dsimp only
  split
  · exact s.object_evaluate_score o p _
  · by_cases hp : p = o <;> simp [hp]

theorem State.judgingView_decay (s : State) (o : ObjectId) : (s.decay o).judgingView = s.judgingView := by
  unfold State.decay
  dsimp only
  split
  · exact (State.judgingView_evaluate _ o).trans (State.judgingView_eq (by simp) (by simp) (by simp) (by simp) (by simp))
  · rfl

theorem State.decayedObject_of_view {o : ObjectId} (ho : t.object o = s.object o) (hv : t.judgingView = s.judgingView) :
    t.decayedObject o = s.decayedObject o := by
  have hk : t.hm.shift = s.hm.shift := congrArg (fun v => v.1.2.2.2) hv
  unfold State.decayedObject
  rw [ho, hk, State.judged_of_view _ ho hv]

/-- The intervals, the weights and the timers of the Health Monitor. -/
def State.intervalView (s : State) : (Nat × Nat) × Weights × (Nat × Nat) :=
  ((s.hm.decayInterval, s.hm.probeInterval), s.hm.weights, (s.hm.decayTimer, s.hm.probeTimer))

theorem State.intervalView_evaluate (s : State) (o : ObjectId) : (s.evaluate o).intervalView = s.intervalView := by
  simp [State.intervalView]

theorem State.intervalView_decay (s : State) (o : ObjectId) : (s.decay o).intervalView = s.intervalView := by
  unfold State.decay
  dsimp only
  split <;> simp [State.intervalView]

/-- Settles O50: every object decays once, by its own score. -/
theorem decayLowersTheScores : Obligations.DecayLowersTheScores := by
  intro s
  let s1 : State := { s with hm := { s.hm with decayTimer := 10 * s.hm.decayInterval } }
  let u := allObjects.foldl State.decay s1
  have hview : u.judgingView = s.judgingView := foldl_kept State.judgingView State.judgingView_decay allObjects s1
  have hrest : u.intervalView = s1.intervalView := foldl_kept State.intervalView State.intervalView_decay allObjects s1
  simp only [State.judgingView, State.intervalView, Prod.mk.injEq] at hview hrest
  obtain ⟨⟨hs, hi, hr, hk⟩, -⟩ := hview
  obtain ⟨⟨hdi, hpi⟩, hw, hdt, hpt⟩ := hrest
  refine ⟨u, rfl, fun o => ?_, ⟨hs, hi, hr, hk, hdi, hpi, hw⟩, hdt, hpt, foldl_kept State.pe (fun t o => t.decay_pe o) allObjects s1⟩
  have ho : s1.object o = s.object o := by rcases o with (_ | _) | _ | _ <;> rfl
  calc u.object o = s1.decayedObject o := object_foldl_allObjects State.object_decay (fun t t' o => State.decayedObject_of_view)
        State.judgingView_decay s1 o
    _ = s.decayedObject o := State.decayedObject_of_view ho rfl

end Sys2Proof.Machine
end

section
/-! PROOF. The notices that a port hears, and the settings, flags and forced states of the health objects (R80, R143 to R145). -/

namespace Sys2Proof.Machine

variable {s t : State}

/-! ### Which port takes a notice (R77, R80) -/

theorem State.notify_of_not_online {n : PortNo} (h : (s.port n).state ≠ .online) (x : Notice) : s.notify n x = s := if_neg h

theorem State.port_notify (s : State) (n m : PortNo) (x : Notice) : (s.notify n x).port m =
    if m = n ∧ (s.port n).state = .online then (s.port n).queueNotice x else s.port m := by
  unfold State.notify
  split
  next h => by_cases e : m = n <;> simp [e, h]
  next h => rw [if_neg (fun e => h e.2)]

theorem State.notifyJob_of_deskOf {src : Source} {n : PortNo} (h : s.deskOf src = some n) (id : Nat) (st : NoticeState) (k : Nat) :
    s.notifyJob src id st k = s.notify n (.printState id st k) := by
  unfold State.deskOf at h
  unfold State.notifyJob
  (repeat' split at h) <;> simp_all

theorem State.notifyJob_of_deskOf_none {src : Source} (h : s.deskOf src = none) (id : Nat) (st : NoticeState) (k : Nat) :
    s.notifyJob src id st k = s := by
  unfold State.deskOf at h
  unfold State.notifyJob
  (repeat' split at h) <;> simp_all

theorem State.port_notifyJob (s : State) (src : Source) (id : Nat) (st : NoticeState) (k : Nat) (m : PortNo) :
    (s.notifyJob src id st k).port m =
      if s.deskOf src = some m ∧ (s.port m).state = .online then (s.port m).queueNotice (.printState id st k) else s.port m := by
  cases h : s.deskOf src with
  | none => rw [State.notifyJob_of_deskOf_none h, if_neg (fun e => nomatch e.1)]
  | some n =>
    rw [State.notifyJob_of_deskOf h, State.port_notify]
    by_cases e : m = n
    · subst e; simp
    · rw [if_neg (fun x => e x.1), if_neg (fun x => e (Option.some.inj x.1).symm)]

theorem State.notified_notifyJob (s : State) (src : Source) (id : Nat) (st : NoticeState) (k : Nat) :
    Notified s (s.notifyJob src id st k) src (.printState id st k) := s.port_notifyJob src id st k

theorem State.deskOf_congr (he : ∀ a, (t.entry a).location = (s.entry a).location) (src : Source) : t.deskOf src = s.deskOf src := by
  cases src with
  | primary => rfl
  | desk a => simp only [State.deskOf, he]

theorem State.port_removeJob (s : State) (j : Job) (e : Ending) (m : PortNo) : (s.removeJob j e).port m =
    if s.deskOf j.source = some m ∧ (s.port m).state = .online then
      (s.port m).queueNotice (.printState j.id e.notice 0) else s.port m := by
  unfold State.removeJob
  dsimp only
  rw [State.port_notifyJob, State.deskOf_congr (s := s) fun a => ?_]
  · rw [State.port_congr (s := s) (by simp)]
  · simp only [State.entry_raise, State.entry_setHeld_location]
    rfl

/-- A port out of service hears no more of the job that is discarded with it (R101, R77). -/
theorem State.port_discardOpen {n : PortNo} (h : (s.port n).state ≠ .online) (m : PortNo) : (s.discardOpen n).port m = s.port m := by
  unfold State.discardOpen
  split
  next => rfl
  next a ha =>
    split
    next => rfl
    next j hj =>
      have hsrc : j.source = .desk a := (openJob?_spec hj).2.2
      rw [State.port_removeJob, if_neg]
      rintro ⟨hd, hon⟩
      simp only [hsrc, State.deskOf, mappedAddress_spec ha, Option.some_inj] at hd
      exact h (hd ▸ hon)

theorem State.port_isolatePort (s : State) (n m : PortNo) : (s.isolatePort n).port m =
    if m = n ∧ (s.port n).state.mayBegin = true then (s.port n).isolate else s.port m := by
  unfold State.isolatePort
  split
  next h =>
    rw [State.port_discardOpen (by simp [Port.isolate]), State.port_congr (State.fillOffline_ports _ n)]
    by_cases e : m = n <;> simp [e, h]
  next h => rw [if_neg fun e => h e.2]

theorem State.port_readmitPort (s : State) (n m : PortNo) (hm : m ≠ n) : (s.readmitPort n).port m = s.port m := by
  unfold State.readmitPort
  split
  · rw [State.notifyLink, State.port_notify, if_neg (fun e => hm e.1)]
    simp [hm]
  · rfl

theorem State.port_isolateObject (s : State) (o : ObjectId) (m : PortNo) : (s.isolateObject o).port m =
    if o = .port m ∧ (s.port m).state.mayBegin = true then (s.port m).isolate else s.port m := by
  unfold State.isolateObject
  dsimp only
  rcases o with (_ | _) | n | a
  · simp
  · simp
  · rw [State.port_isolatePort]
    by_cases e : m = n
    · subst e; simp
    · simp [e, Ne.symm e]
  · simp

theorem State.port_readmitObject_of_ne (s : State) {o : ObjectId} (x : Health) {m : PortNo} (hm : o ≠ .port m) :
    (s.readmitObject o x).port m = s.port m := by
  unfold State.readmitObject State.readmissionOrder
  rcases o with (_ | _) | n | a
  · simp
  · simp
  · exact (State.port_readmitPort _ n m fun e => hm (e ▸ rfl)).trans (by simp)
  · simp

/-! ### SET_HEALTH_LIMITS (R145, R148) -/

theorem healthLimitsOf_of_range {ts ti tr : BitVec 16} {k decay probe : Byte} (h1 : tr.toNat < ts.toNat) (h2 : ts.toNat < ti.toNat)
    (h3 : ti.toNat ≤ 1023) (h4 : 1 ≤ k.toNat) (h5 : k.toNat ≤ 7) (h6 : 1 ≤ decay.toNat) (h7 : 1 ≤ probe.toNat)
    (h8 : probe.toNat ≤ 60) : healthLimitsOf ts ti tr k decay probe = some
      { suspect := ts.toNat, isolate := ti.toNat, readmit := tr.toNat, shift := k.toNat, decay := decay.toNat
        probe := probe.toNat } := by
  simp only [healthLimitsOf, inRange_of_mem (Nat.zero_le _) (show ts.toNat ≤ 1023 by omega), inRange_of_mem (Nat.zero_le _) h3,
    inRange_of_mem (Nat.zero_le _) (show tr.toNat ≤ 1023 by omega), inRange_of_mem h4 h5, inRange_of_mem h6 (byte_toNat_le decay),
    inRange_of_mem h7 h8, Option.bind_eq_bind, Option.bind_some, if_pos (And.intro h1 h2), Option.pure_def]

/-- The target pointers and the jabber mark of segment B. -/
def State.scheduleView (s : State) : Address × Address × Bool :=
  (s.hm.segmentPointer, s.hm.stationPointer, s.hm.jabberMark)

theorem State.scheduleView_evaluate (s : State) (o : ObjectId) : (s.evaluate o).scheduleView = s.scheduleView := by
  simp [State.scheduleView]

/-- An evaluation of every object leaves the settings, the timers, the pointers and the jabber mark. -/
theorem State.evaluateAll_hm (s : State) (l : List ObjectId) : (s.evaluateAll l).hm = { s.hm with
    segA := (s.evaluateAll l).hm.segA, segB := (s.evaluateAll l).hm.segB, ports := (s.evaluateAll l).hm.ports
    stations := (s.evaluateAll l).hm.stations, probe := (s.evaluateAll l).hm.probe } := by
  have h1 : (s.evaluateAll l).judgingView = s.judgingView := foldl_kept _ State.judgingView_evaluate l s
  have h2 : (s.evaluateAll l).intervalView = s.intervalView := foldl_kept _ State.intervalView_evaluate l s
  have h3 : (s.evaluateAll l).scheduleView = s.scheduleView := foldl_kept _ State.scheduleView_evaluate l s
  simp only [State.judgingView, State.intervalView, State.scheduleView, Prod.mk.injEq] at h1 h2 h3
  obtain ⟨⟨a1, a2, a3, a4⟩, -⟩ := h1
  obtain ⟨⟨b1, b2⟩, b3, b4, b5⟩ := h2
  obtain ⟨c1, c2, c3⟩ := h3
  dsimp only
  rw [← a1, ← a2, ← a3, ← a4, ← b1, ← b2, ← b3, ← b4, ← b5, ← c1, ← c2, ← c3]

theorem State.object_evaluateAll (s : State) (o : ObjectId) :
    (s.evaluateAll allObjects).object o = s.judged o (s.object o).score :=
  object_foldl_allObjects (g := fun t o => t.judged o (t.object o).score) State.object_evaluate
    (fun t t' o ho hv => by rw [ho, State.judged_of_view _ ho hv]) State.judgingView_evaluate s o

/-- SET_HEALTH_LIMITS within its ranges (R145, R148). -/
theorem setHealthLimits_accepts (cont : Bool) {ts ti tr : BitVec 16} {k decay probe : Byte} (h1 : tr.toNat < ts.toNat)
    (h2 : ts.toNat < ti.toNat) (h3 : ti.toNat ≤ 1023) (h4 : 1 ≤ k.toNat) (h5 : k.toNat ≤ 7) (h6 : 1 ≤ decay.toNat)
    (h7 : 1 ≤ probe.toNat) (h8 : probe.toNat ≤ 60) :
    let limits : HealthMonitor := { s.hm with
      suspect := ts.toNat, isolate := ti.toNat, readmit := tr.toNat, shift := k.toNat, decayInterval := decay.toNat
      probeInterval := probe.toNat, decayTimer := 10 * decay.toNat, probeTimer := 1000 * probe.toNat }
    Accepts (.setHealthLimits cont ts ti tr k decay probe) s cont fun t =>
      (∀ o, t.object o = { s with hm := limits }.judged o (s.object o).score) ∧
      t.hm = { limits with
        segA := t.hm.segA, segB := t.hm.segB, ports := t.hm.ports, stations := t.hm.stations, probe := t.hm.probe } ∧
      t.pe = s.pe := by
  intro limits
  have ho (o : ObjectId) : ({ s with hm := limits } : State).object o = s.object o := by rcases o with (_ | _) | _ | _ <;> rfl
  have hobjects (o : ObjectId) : (({ s with hm := limits } : State).evaluateAll allObjects).object o =
      ({ s with hm := limits } : State).judged o (s.object o).score := by rw [State.object_evaluateAll, ho]
  have hhm := State.evaluateAll_hm { s with hm := limits } allObjects
  have hpe := State.evaluateAll_pe { s with hm := limits } allObjects
  have hal := State.evaluateAll_al { s with hm := limits } allObjects
  generalize hu : ({ s with hm := limits } : State).evaluateAll allObjects = u at hobjects hhm hpe hal
  refine accepts_of (s1 := u) rfl ?_ hal fun al => ⟨fun o => (State.object_withAl u al o).trans (hobjects o), hhm, hpe⟩
  simp only [setHealthLimitsCommand, healthLimitsOf_of_range h1 h2 h3 h4 h5 h6 h7 h8]
  exact congrArg accept hu

/-! ### SET_MAY_ISOLATE (R144) -/

theorem State.object_setMayIsolate (s : State) {o : ObjectId} (hne : o ≠ .segment .a) (flag : Bool) (p : ObjectId) :
    (s.setMayIsolate o flag).object p = if p ≠ o then s.object p
      else if (s.object o).state = .isolated ∧ flag = false then
        { score := (s.object o).score, mayIsolate := false
          state := if s.hm.suspect ≤ (s.object o).score then .suspect else .active
          limitMark := decide (s.hm.isolate ≤ (s.object o).score) }
      else (s.setObject o { s.object o with mayIsolate := flag }).judged o (s.object o).score := by
  unfold State.setMayIsolate
  dsimp only
  by_cases hp : p = o
  · subst hp
    rw [if_neg (not_not.mpr rfl)]
    split
    · rw [State.object_evaluateMark, if_pos rfl, State.object_readmitObject, State.object_setObject]
      have heff : (((s.setObject p { s.object p with
          mayIsolate := false, state := s.bandOf (s.object p).score, limitMark := false }).readmitObject p
          (s.bandOf (s.object p).score)).effectiveMayIsolate p) = false := by
        unfold State.effectiveMayIsolate
        rcases p with (_ | _) | n | a
        · exact absurd rfl hne
        all_goals simp
      rw [heff]
      simp [State.bandOf]
    · rw [State.object_evaluate, if_pos rfl]
      simp
  · rw [if_pos hp]
    split
    · rw [State.object_evaluateMark, if_neg hp]
      simp [hp]
    · rw [State.object_evaluate, if_neg hp]
      simp [hp]

theorem State.setMayIsolate_settings (s : State) (o : ObjectId) (flag : Bool) : HealthSettingsKept s (s.setMayIsolate o flag) := by
  unfold State.setMayIsolate HealthSettingsKept
  dsimp only
  split <;> simp

theorem State.setMayIsolate_pe_al (s : State) (o : ObjectId) (flag : Bool) :
    (s.setMayIsolate o flag).pe = s.pe ∧ (s.setMayIsolate o flag).al = s.al := by
  unfold State.setMayIsolate
  dsimp only
  split <;> simp

/-- Settles O48: every object is judged once by the new thresholds, and the object whose flag is written by its new flag. -/
theorem limitsAndFlagsAreWrittenAndJudged : Obligations.LimitsAndFlagsAreWrittenAndJudged := by
  refine ⟨fun cont ts ti tr k decay probe s h1 h2 h3 h4 h5 h6 h7 h8 => setHealthLimits_accepts cont h1 h2 h3 h4 h5 h6 h7 h8,
    fun cont flag o s => ⟨fun ho hf => ?_, fun ho hf => ?_, fun ho => ?_⟩⟩
  · subst ho hf
    exact refuses_of rfl rfl (by decide)
  · subst ho hf
    exact accepts_of (s1 := s) rfl rfl rfl fun _ => rfl
  · obtain ⟨hpe, hal⟩ := s.setMayIsolate_pe_al o flag
    refine accepts_of (s1 := s.setMayIsolate o flag) rfl
      (by simp only [setMayIsolateCommand, (selectorOf_code o).1, flagOf_boolCode, if_neg ho]) hal
      fun al => ⟨fun p hp => ?_, s.setMayIsolate_settings o flag, hpe, ?_⟩
    · rw [State.object_withAl, s.object_setMayIsolate ho, if_pos (by simpa using hp)]
    · rw [State.object_withAl, s.object_setMayIsolate ho, if_neg (not_not.mpr rfl)]

end Sys2Proof.Machine
end

section
/-! PROOF. The states that are forced on a health object (R143, R144). -/

namespace Sys2Proof.Machine

variable {s t : State}

/-! ### Segment B cut off (R34, R138) -/

theorem State.abandonStationProbe_stationProbe (s : State) : s.abandonStationProbe.stationProbe = false := by
  unfold State.abandonStationProbe
  split
  · rfl
  · rfl
  · next h1 h2 =>
    unfold State.stationProbe
    cases hp : s.hm.probe with
    | none => rfl
    | some p =>
      obtain ⟨ph, k, t⟩ := p
      cases k with
      | segment => rfl
      | station => exact absurd hp (h2 _ _)

theorem State.abandonStationProbe_lines (s : State) : s.abandonStationProbe.ti = { s.ti with
    segB := { s.ti.segB with tx := s.abandonStationProbe.ti.segB.tx } } ∧
    (s.abandonStationProbe.ti.segB.tx = s.ti.segB.tx ∨ s.abandonStationProbe.ti.segB.tx = .idle) := by
  unfold State.abandonStationProbe
  split
  · exact ⟨rfl, .inr rfl⟩
  · exact ⟨rfl, .inl rfl⟩
  · exact ⟨rfl, .inl rfl⟩

/-- With no station probe, only a segment probe poll can be in SENDING. -/
theorem State.probeSending_of_no_station (h : s.stationProbe = false) : s.probeSending = s.segmentProbeSending := by
  unfold State.segmentProbeSending State.probeSending
  simp only [State.stationProbe] at h
  cases hp : s.hm.probe with
  | none => rfl
  | some p =>
    rw [hp] at h
    cases hk : p.kind <;> simp_all

/-- What the isolation order for segment B leaves of the segments, the probe and the gate, in any state (R34, R138). -/
theorem State.cutSegmentB_spec (s : State) : s.cutSegmentB.ti.segA.copy = none ∧ s.cutSegmentB.ti.segB.copy = none ∧
    s.cutSegmentB.ti.segB.watch = none ∧ s.cutSegmentB.ti.segB.tx ≠ .copy ∧ s.cutSegmentB.stationProbe = false ∧
    s.cutSegmentB.ti.gateB = !s.cutSegmentB.probeSending := by
  obtain ⟨hti, htx⟩ := ((s.stopCopy .a).stopCopy .b).abandonStationProbe_lines
  have hstation := ((s.stopCopy .a).stopCopy .b).abandonStationProbe_stationProbe
  have hstopped : ((s.stopCopy .a).stopCopy .b).ti.segB.tx ≠ .copy := by
    rw [State.stopCopies]
    dsimp only
    split
    exacts [nofun, ‹_›]
  have hne : ((s.stopCopy .a).stopCopy .b).abandonStationProbe.ti.segB.tx ≠ .copy := by
    rcases htx with e | e <;> rw [e]
    exacts [hstopped, nofun]
  unfold State.cutSegmentB
  dsimp only
  rw [State.takeUpBoth_eq]
  refine ⟨?_, ?_, rfl, hne, hstation, ?_⟩
  · exact (congrArg (·.segA.copy) hti).trans rfl
  · exact (congrArg (·.segB.copy) hti).trans rfl
  · exact congrArg (!·) (State.probeSending_of_no_station hstation).symm

/-! ### FORCE_ISOLATE (R143) -/

theorem State.mayForceIsolate_eq_false {o : ObjectId} (h : o = .segment .a ∨
    (∃ a, o = .station a ∧ (s.entry a).location ≠ .segB) ∨ s.effectiveMayIsolate o = false) : s.mayForceIsolate o = false := by
  unfold State.mayForceIsolate
  obtain rfl | ⟨a, rfl, ha⟩ | h := h
  · simp
  · simp [ha]
  · simp [h]

theorem State.mayForceIsolate_eq_true {o : ObjectId} (h1 : o ≠ .segment .a) (h2 : ∀ a, o = .station a → (s.entry a).location = .segB)
    (h3 : s.effectiveMayIsolate o = true) : s.mayForceIsolate o = true := by
  unfold State.mayForceIsolate
  rcases o with (_ | _) | n | a
  · exact absurd rfl h1
  · simpa using h3
  · simpa using h3
  · simp [h3, h2 a rfl]

/-- The record of an object that is forced out (R143). -/
def HealthObject.forced (h : HealthObject) : HealthObject := { h with score := 1023, state := .isolated, limitMark := false }

theorem State.forceIsolate_of_isolated {o : ObjectId} (h : (s.object o).state = .isolated) :
    s.forceIsolate o = s.setObject o (s.object o).forced := if_pos h

theorem State.forceIsolate_of_not_isolated {o : ObjectId} (h : (s.object o).state ≠ .isolated) :
    s.forceIsolate o = (s.setObject o (s.object o).forced).isolateObject o := if_neg h

theorem State.object_forceIsolate (s : State) (o p : ObjectId) :
    (s.forceIsolate o).object p = if p = o then (s.object o).forced else s.object p := by
  by_cases h : (s.object o).state = .isolated
  · rw [State.forceIsolate_of_isolated h]
    by_cases hp : p = o <;> simp [hp]
  · rw [State.forceIsolate_of_not_isolated h, State.object_isolateObject]
    by_cases hp : p = o <;> simp [hp]

theorem State.forceIsolate_kept (s : State) (o : ObjectId) :
    HealthSettingsKept s (s.forceIsolate o) ∧ (s.forceIsolate o).pe = s.pe ∧ (s.forceIsolate o).al = s.al := by
  unfold HealthSettingsKept
  by_cases h : (s.object o).state = .isolated
  · rw [State.forceIsolate_of_isolated h]; simp
  · rw [State.forceIsolate_of_not_isolated h]; simp

theorem State.port_forceIsolate {n : PortNo} (h : (s.object (.port n)).state ≠ .isolated)
    (hp : (s.port n).state = .online ∨ (s.port n).state = .detached) (m : PortNo) :
    (s.forceIsolate (.port n)).port m = if m = n then (s.port n).isolate else s.port m := by
  rw [State.forceIsolate_of_not_isolated h, State.port_isolateObject]
  have hb : (s.port n).state.mayBegin = true := PortState.mayBegin_iff.mpr hp
  by_cases e : m = n
  · subst e; simp [hb]
  · simp [e, Ne.symm e]

/-- FORCE_ISOLATE of an object that may be isolated (R143, R138, R139). -/
theorem forceIsolate_accepts (cont : Bool) {o : ObjectId} (h1 : o ≠ .segment .a)
    (h2 : ∀ a, o = .station a → (s.entry a).location = .segB) (h3 : s.effectiveMayIsolate o = true) :
    Accepts (.forceIsolate cont o.code) s cont fun t =>
      t.object o = { score := 1023, state := .isolated, mayIsolate := (s.object o).mayIsolate, limitMark := false } ∧
      ObjectsKeptBut s t [o] ∧ HealthSettingsKept s t ∧ t.pe = s.pe ∧
      ((s.object o).state = .isolated → t.ti = s.ti ∧ t.ports = s.ports ∧ t.au = s.au) ∧
      (∀ n, o = .port n → (s.object o).state ≠ .isolated →
        (s.port n).state = .online ∨ (s.port n).state = .detached →
        (t.port n).state = .isolated ∧ (t.port n).listsEmpty ∧ (t.port n).tx = .idle ∧ PortsKeptBut s t [n]) ∧
      (o = .segment .b → (s.object o).state ≠ .isolated →
        t.ti.segA.copy = none ∧ t.ti.segB.copy = none ∧ t.ti.segB.watch = none ∧ t.ti.segB.tx ≠ .copy ∧
        t.stationProbe = false ∧ t.ti.gateB = !t.probeSending) := by
  obtain ⟨hsettings, hpe, hal⟩ := s.forceIsolate_kept o
  refine accepts_of (s1 := s.forceIsolate o) rfl
    (by simp only [forceIsolateCommand, (selectorOf_code o).1, State.mayForceIsolate_eq_true h1 h2 h3, if_true]) hal
    fun al => ⟨?_, fun p hp => ?_, hsettings, hpe, fun hi => ?_, fun n hn hi hport => ?_, fun hb hi => ?_⟩
  · rw [State.object_withAl, State.object_forceIsolate, if_pos rfl]; rfl
  · rw [State.object_withAl, State.object_forceIsolate, if_neg (by simpa using hp)]
  · rw [State.forceIsolate_of_isolated hi]; simp
  · subst hn
    rw [State.port_withAl, State.port_forceIsolate hi hport, if_pos rfl]
    refine ⟨rfl, ⟨rfl, rfl, rfl, rfl⟩, rfl, fun m hm => ?_⟩
    rw [State.port_withAl, State.port_forceIsolate hi hport, if_neg (by simpa using hm)]
  · subst hb
    obtain ⟨u, hcut⟩ : ∃ u, s.forceIsolate (.segment .b) = State.cutSegmentB u := ⟨_, State.forceIsolate_of_not_isolated hi⟩
    have h := u.cutSegmentB_spec
    rw [← hcut] at h
    exact h

/-! ### FORCE_READMIT (R144, R141) -/

theorem State.clearKeeping_kept (s : State) (o : ObjectId) : HealthSettingsKept s (s.clearKeeping o) ∧
    s.clearKeeping o = { s with ti := (s.clearKeeping o).ti, ports := (s.clearKeeping o).ports, hm := (s.clearKeeping o).hm
                                au := (s.clearKeeping o).au } := by
  refine ⟨by simp [HealthSettingsKept], ?_⟩
  have h1 := s.clearKeeping_sd o
  have h2 := s.clearKeeping_pr o
  have h3 := s.clearKeeping_sm o
  have h4 := s.clearKeeping_pe o
  have h5 := s.clearKeeping_al o
  have h6 := s.clearKeeping_draws o
  have h7 := s.clearKeeping_pending o
  generalize s.clearKeeping o = t at *
  rw [← h1, ← h2, ← h3, ← h4, ← h5, ← h6, ← h7]

theorem State.clearKeeping_of_not_isolated {o : ObjectId} (h : (s.object o).state ≠ .isolated) :
    (s.clearKeeping o).ti = s.ti ∧ (s.clearKeeping o).ports = s.ports := by
  unfold State.clearKeeping State.clearObject
  dsimp only
  rw [if_neg h]
  split <;> simp

theorem State.clearKeeping_of_isolated {o : ObjectId} (h : (s.object o).state = .isolated) :
    s.clearKeeping o = (s.setObject o (.clean (s.object o).mayIsolate)).readmitObject o .active := by
  unfold State.clearKeeping State.clearObject
  dsimp only
  rw [if_neg (by simp [h]), if_pos h]

theorem State.restoreSegmentB_gateB (s : State) : s.restoreSegmentB.ti.gateB = false := by
  unfold State.restoreSegmentB
  dsimp only
  split <;> rfl

/-- FORCE_READMIT of any object (R144, R141). -/
theorem forceReadmit_accepts (cont : Bool) (o : ObjectId) : Accepts (.forceReadmit cont o.code) s cont fun t =>
    t.object o = { score := 0, state := .active, mayIsolate := (s.object o).mayIsolate, limitMark := false } ∧
    ObjectsKeptBut s t [o] ∧ HealthSettingsKept s t ∧
    t = { s with ti := t.ti, ports := t.ports, hm := t.hm, au := t.au, al := t.al } ∧
    ((s.object o).state ≠ .isolated → t.ti = s.ti ∧ t.ports = s.ports) ∧
    ((s.object o).state = .isolated → o = .segment .b → t.ti.gateB = false) ∧
    (∀ n, (s.object o).state = .isolated → o = .port n → (s.port n).state = .isolated →
      (t.port n).state =
        (if (s.port n).profile.peerUsed = true ∧ (s.port n).srdy = false then .detached else .online) ∧
      PortsKeptBut s t [n]) := by
  obtain ⟨hsettings, hframe⟩ := s.clearKeeping_kept o
  refine accepts_of (s1 := s.clearKeeping o) rfl (by simp only [forceReadmitCommand, (selectorOf_code o).1]) (by simp)
    fun al => ⟨?_, fun p hp => ?_, hsettings, ?_, fun hi => State.clearKeeping_of_not_isolated hi, fun hi ho => ?_,
      fun n hi ho hport => ⟨?_, fun m hm => ?_⟩⟩
  · rw [State.object_withAl, State.object_clearKeeping, if_pos rfl]; rfl
  · rw [State.object_withAl, State.object_clearKeeping, if_neg (by simpa using hp)]
  · exact congrArg (fun u : State => { u with al }) hframe
  · subst ho
    exact (congrArg (·.ti.gateB) (State.clearKeeping_of_isolated hi)).trans (State.restoreSegmentB_gateB _)
  · subst ho
    rw [State.port_withAl, State.clearKeeping_of_isolated hi, State.readmitObject_port_state, if_pos rfl]
    simp only [State.port_setObject, Port.afterReadmission, if_pos hport, Port.serviceState, Port.mustHold]
    cases (s.port n).profile.peerUsed <;> cases (s.port n).srdy <;> rfl
  · subst ho
    have hne : (ObjectId.port n) ≠ .port m := fun e => hm (by simp [ObjectId.port.inj e])
    rw [State.port_withAl, State.clearKeeping_of_isolated hi, State.port_readmitObject_of_ne _ _ hne, State.port_setObject]

/-- Settles O49: the forced record, and the order that goes with it, for each kind of object. -/
theorem objectsAreForcedOutAndIn : Obligations.ObjectsAreForcedOutAndIn := by
  intro cont o s
  refine ⟨fun h => ?_, fun h1 h2 h3 => forceIsolate_accepts cont h1 h2 h3, forceReadmit_accepts cont o⟩
  exact refuses_of rfl
    (by simp only [forceIsolateCommand, (selectorOf_code o).1, State.mayForceIsolate_eq_false h, Bool.false_eq_true, if_false])
    (by decide)

end Sys2Proof.Machine
end

section
/-! PROOF. WRITE_ENTRY and SET_TRUNK_PROFILE (R8, R9, R39, R40). -/

namespace Sys2Proof.Machine

variable {s t : State}

/-! ### The arguments of WRITE_ENTRY -/

@[simp] theorem standInOf_code (x : StandIn) : standInOf x.code = some x := by cases x <;> rfl

theorem standInOf_of_ge {x : Byte} (h : 2 ≤ x.toNat) : standInOf x = none := by
  unfold standInOf
  rw [if_neg (by rintro rfl; simp at h), if_neg (by rintro rfl; simp at h)]

@[simp] theorem locationOf_port (n : PortNo) : locationOf 3 (byteOf n.val) = some (.port n) := by
  simp [locationOf]

theorem locationOf_of_out {location port : Byte} (h : 4 ≤ location.toNat ∨ location = 3 ∧ 8 ≤ port.toNat) :
    locationOf location port = none := by
  unfold locationOf
  obtain h | ⟨rfl, hp⟩ := h
  · rw [if_neg (by rintro rfl; simp at h), if_neg (by rintro rfl; simp at h), if_neg (by rintro rfl; simp at h),
      if_neg (by rintro rfl; simp at h)]
  · rw [portOf_of_ge hp]; rfl

theorem writeEntry_refuses_out (cont : Bool) {address location port standIn : Byte}
    (h : 63 ≤ address.toNat ∨ 4 ≤ location.toNat ∨ location = 3 ∧ 8 ≤ port.toNat ∨ 2 ≤ standIn.toNat) :
    Refuses (.writeEntry cont address location port standIn) s .badValue := by
  refine refuses_of rfl ?_ (by decide)
  unfold writeEntryCommand
  split
  next a l st ha hl hs =>
    obtain h | h | h | h := h
    · rw [addressOf_of_ge h] at ha; cases ha
    · rw [locationOf_of_out (.inl h)] at hl; cases hl
    · rw [locationOf_of_out (.inr h)] at hl; cases hl
    · rw [standInOf_of_ge h] at hs; cases hs
  next => rfl

/-! ### The tests of R9 -/

theorem State.takenByOther_eq_true {a : Address} {l : Location} (h : l.isPort = true) :
    s.takenByOther a l = true ↔ ∃ b, b ≠ a ∧ (s.entry b).location = l := by
  cases l <;> simp_all [State.takenByOther, Location.isPort]

theorem State.takenByOther_eq_false {a : Address} {l : Location} (h : ∀ b, b ≠ a → l.isPort = true → (s.entry b).location ≠ l) :
    s.takenByOther a l = false := by
  cases l <;> simp_all [State.takenByOther, Location.isPort]

theorem writeEntryCommand_of_decoded {a : Address} {location port : Byte} {l : Location} (st : StandIn)
    (hl : locationOf location port = some l) : writeEntryCommand (byteOf a.val) location port st.code s =
      if s.takenByOther a l then refuse .inUse s
      else if l ≠ (s.entry a).location ∧ s.onBusyPort a = true then refuse .inUse s
      else accept (s.writeEntry a l st) := by
  simp only [writeEntryCommand, addressOf_byteOf, hl, standInOf_code]

/-! ### What the write does (R8, R3, R80) -/

theorem mappedAddress_of_unique {n : PortNo} {a : Address} (h : ∀ b, (s.entry b).location = .port n ↔ b = a) :
    s.mappedAddress n = some a := by
  cases hm : s.mappedAddress n with
  | none =>
    have := List.find?_eq_none.mp hm a (List.mem_finRange a)
    simp [(h a).mpr rfl] at this
  | some b => rw [(h b).mp (mappedAddress_spec hm)]

/-- The entry as written (R8). -/
def Entry.written (e : Entry) (l : Location) (st : StandIn) : Entry :=
  { e with location := l, origin := .static, standIn := st, age := 0 }

theorem State.writeEntry_of_same {a : Address} {l : Location} (st : StandIn) (h : l = (s.entry a).location) :
    s.writeEntry a l st = s.setEntry a ((s.entry a).written l st) := if_pos h

/-- The routing as written, and the station object cleared, before any notice. -/
def State.rerouted (s : State) (a : Address) (l : Location) (st : StandIn) : State :=
  (s.setEntry a ((s.entry a).written l st)).clearKeeping (.station a)

theorem State.writeEntry_of_other {a : Address} {l : Location} (st : StandIn) (h : l ≠ (s.entry a).location) :
    s.writeEntry a l st = match l with
      | .port n => (s.rerouted a l st).notifyLink n
      | _ => s.rerouted a l st := by
  unfold State.writeEntry
  dsimp only
  rw [if_neg h]
  cases l <;> rfl

theorem State.entry_writeEntry (s : State) (a b : Address) (l : Location) (st : StandIn) : (s.writeEntry a l st).entry b =
    if b = a then (s.entry a).written l st else s.entry b := by
  by_cases h : l = (s.entry a).location
  · rw [State.writeEntry_of_same st h, State.entry_setEntry_eq]
  · rw [State.writeEntry_of_other st h]
    cases l <;> simp [State.rerouted, State.entry_setEntry_eq]

theorem State.writeEntry_sd (s : State) (a : Address) (l : Location) (st : StandIn) :
    (s.writeEntry a l st).sd = { s.sd with entries := (s.writeEntry a l st).sd.entries } := by
  by_cases h : l = (s.entry a).location
  · rw [State.writeEntry_of_same st h]; rfl
  · rw [State.writeEntry_of_other st h]
    cases l <;> simp [State.rerouted, State.setEntry]

theorem State.writeEntry_ti (s : State) (a : Address) (l : Location) (st : StandIn) : (s.writeEntry a l st).ti = s.ti := by
  by_cases h : l = (s.entry a).location
  · rw [State.writeEntry_of_same st h]; rfl
  · rw [State.writeEntry_of_other st h]
    cases l <;> simp [State.rerouted, State.clearKeeping_station_ti]

theorem State.object_writeEntry (s : State) (a : Address) (l : Location) (st : StandIn) (o : ObjectId) :
    (s.writeEntry a l st).object o =
      if o = .station a ∧ l ≠ (s.entry a).location then .clean (s.object (.station a)).mayIsolate else s.object o := by
  by_cases h : l = (s.entry a).location
  · rw [State.writeEntry_of_same st h]; simp [h]
  · rw [State.writeEntry_of_other st h]
    cases l <;> simp [State.rerouted, State.object_clearKeeping, h]

theorem State.writeEntry_settings (s : State) (a : Address) (l : Location) (st : StandIn) :
    HealthSettingsKept s (s.writeEntry a l st) := by
  unfold HealthSettingsKept
  by_cases h : l = (s.entry a).location
  · rw [State.writeEntry_of_same st h]; simp
  · rw [State.writeEntry_of_other st h]
    cases l <;> simp [State.rerouted]

theorem State.port_rerouted (s : State) (a : Address) (l : Location) (st : StandIn) (m : PortNo) :
    (s.rerouted a l st).port m = s.port m := by
  rw [State.rerouted, State.port_congr (State.clearKeeping_station_ports _ a) m]; simp

theorem State.entry_rerouted (s : State) (a : Address) (l : Location) (st : StandIn) (b : Address) :
    (s.rerouted a l st).entry b = if b = a then (s.entry a).written l st else s.entry b := by
  simp [State.rerouted, State.entry_setEntry_eq]

/-- The port that gains the address is told of its link (R80). -/
theorem State.port_writeEntry {a : Address} {l : Location} (st : StandIn) (hl : l ≠ (s.entry a).location)
    (hfree : ∀ b, b ≠ a → l.isPort = true → (s.entry b).location ≠ l) (n : PortNo) : (s.writeEntry a l st).port n =
      if l = .port n ∧ (s.port n).state = .online then
        (s.port n).queueNotice (.linkState .online (some a) s.pe.state s.sm.free.length (min 255 (s.entry a).held))
      else s.port n := by
  rw [State.writeEntry_of_other st hl]
  cases l with
  | port m =>
    have hmap : (s.rerouted a (.port m) st).mappedAddress m = some a := mappedAddress_of_unique fun b => by
      rw [State.entry_rerouted]
      by_cases e : b = a
      · simp [e, Entry.written]
      · simp [e, hfree b e rfl]
    have hlink : (s.rerouted a (.port m) st).linkState m =
        .linkState (s.port m).state (some a) s.pe.state s.sm.free.length (min 255 (s.entry a).held) := by
      simp only [State.linkState, hmap, State.port_rerouted, State.entry_rerouted, if_pos]
      simp [State.rerouted, Entry.written]
    dsimp only
    rw [State.notifyLink, State.port_notify, hlink, State.port_rerouted, State.port_rerouted]
    by_cases e : n = m
    · subst e
      by_cases ho : (s.port n).state = .online <;> simp [ho]
    · rw [if_neg (fun h => e h.1), if_neg (fun h => e (Location.port.inj h.1).symm)]
  | none | segA | segB | printer =>
    rw [if_neg (fun h => nomatch h.1)]
    exact State.port_rerouted s a _ st n

/-- WRITE_ENTRY that no case of R9 refuses (R8, R3, R80). -/
theorem writeEntry_accepts (cont : Bool) {a : Address} {location port : Byte} {l : Location} (st : StandIn)
    (hl : locationOf location port = some l) (hfree : ∀ b, b ≠ a → l.isPort = true → (s.entry b).location ≠ l)
    (hidle : l ≠ (s.entry a).location → ∀ m, (s.entry a).location = .port m → (s.port m).state = .standby) :
    Accepts (.writeEntry cont (byteOf a.val) location port st.code) s cont fun t =>
      t.entry a = { s.entry a with location := l, origin := .static, standIn := st, age := 0 } ∧
      EntriesKeptBut s t [a] ∧ t = { s with sd := t.sd, ports := t.ports, hm := t.hm, au := t.au, al := t.al } ∧
      HealthSettingsKept s t ∧ ObjectsKeptBut s t [.station a] ∧
      (l = (s.entry a).location → t.hm = s.hm ∧ t.au = s.au ∧ t.ports = s.ports) ∧
      (l ≠ (s.entry a).location →
        t.object (.station a) =
          { score := 0, state := .active, mayIsolate := (s.object (.station a)).mayIsolate, limitMark := false } ∧
        ∀ n, t.port n =
          if l = .port n ∧ (s.port n).state = .online then
            (s.port n).queueNotice (.linkState .online (some a) s.pe.state s.sm.free.length (min 255 (s.entry a).held))
          else s.port n) := by
  have hbusy : ¬ (l ≠ (s.entry a).location ∧ s.onBusyPort a = true) := by
    rintro ⟨hne, hb⟩
    obtain ⟨m, hm, hs⟩ := (s.onBusyPort_iff a).mp hb
    exact hs (hidle hne m hm)
  refine accepts_of (s1 := s.writeEntry a l st) rfl
    (by rw [writeEntryCommand_of_decoded st hl, State.takenByOther_eq_false hfree, if_neg Bool.false_ne_true, if_neg hbusy]) (by simp)
    fun al => ⟨?_, ⟨fun b hb => ?_, s.writeEntry_sd a l st⟩, ?_, s.writeEntry_settings a l st, fun o ho => ?_, fun h => ?_, fun h => ⟨?_, fun n => ?_⟩⟩
  · rw [State.entry_withAl, State.entry_writeEntry, if_pos rfl]; rfl
  · rw [State.entry_withAl, State.entry_writeEntry, if_neg (by simpa using hb)]
  · have h1 := s.writeEntry_ti a l st
    have h2 := s.writeEntry_pr a l st
    have h3 := s.writeEntry_sm a l st
    have h4 := s.writeEntry_pe a l st
    have h5 := s.writeEntry_draws a l st
    have h6 := s.writeEntry_pending a l st
    generalize s.writeEntry a l st = u at *
    rw [← h1, ← h2, ← h3, ← h4, ← h5, ← h6]
  · rw [State.object_withAl, State.object_writeEntry, if_neg (fun h => (show o ≠ .station a by simpa using ho) h.1)]
  · rw [State.writeEntry_of_same st h]; simp
  · rw [State.object_withAl, State.object_writeEntry, if_pos ⟨rfl, h⟩]; rfl
  · rw [State.port_withAl, State.port_writeEntry st h hfree]

/-- Settles O23: the cases of R9 in their order, and R8's write when none of them applies. -/
theorem writeEntryJudgesAndWrites : Obligations.WriteEntryJudgesAndWrites := by
  refine ⟨fun cont address location port standIn s => ⟨fun h => writeEntry_refuses_out cont h, fun a n st => ⟨fun h => ?taken,
    fun hfree hsame => ?kept⟩, fun a m l st hl hne hloc hs => ?busy⟩,
    fun cont a location port l st s hl hfree hidle => writeEntry_accepts cont st hl hfree hidle⟩
  case taken =>
    refine refuses_of rfl ?_ (by decide)
    rw [writeEntryCommand_of_decoded st (locationOf_port n), if_pos ((State.takenByOther_eq_true rfl).mpr h)]
  case kept =>
    refine accepts_of (s1 := s.setEntry a ((s.entry a).written (.port n) st)) rfl ?_ (by simp)
      fun al => ⟨?_, ⟨fun b hb => ?_, rfl⟩, rfl⟩
    · rw [writeEntryCommand_of_decoded st (locationOf_port n), State.takenByOther_eq_false (fun b hb _ => hfree b hb),
        if_neg Bool.false_ne_true, if_neg (fun h => h.1 hsame.symm), State.writeEntry_of_same st hsame.symm]
    · rw [State.entry_withAl, State.entry_setEntry, Entry.written, ← hsame]
    · rw [State.entry_withAl, State.entry_setEntry_of_ne _ _ (by simpa using hb)]
  case busy =>
    refine refuses_of rfl ?_ (by decide)
    rw [writeEntryCommand_of_decoded st hl]
    have hb : s.onBusyPort a = true := (s.onBusyPort_iff a).mpr ⟨m, hloc, hs⟩
    split
    · rfl
    · rw [if_pos ⟨hloc ▸ hne, hb⟩]

/-! ### SET_TRUNK_PROFILE (R39, R40, R16) -/

/-- Settles O26: the profile decoded is written, and each segment at a burst boundary takes it up. -/
theorem trunkProfileIsTakenUpAtABoundary : Obligations.TrunkProfileIsTakenUpAtABoundary := by
  intro cont rate sync count d f j mode age p s hp
  obtain ⟨hr, hm, hs, ⟨-, hc⟩, ⟨-, hd⟩, ⟨-, hf⟩, ⟨-, hj⟩⟩ := trunkProfileOf_eq_some.mp hp
  refine ⟨hr, hm, hs, hc.symm, hd.symm, hf.symm, hj.symm, ?_⟩
  let s1 : State := { s with sd := { s.sd with ageLimit := age.toNat } }
  refine accepts_of (s1 := s1.writeTrunkProfile p) rfl (by simp only [setTrunkProfileCommand, hp]; rfl) (by simp [s1]) fun al => ?_
  rw [State.writeTrunkProfile_eq]
  rfl

end Sys2Proof.Machine
end

section
/-! PROOF. A judgement of a health object changes scores and reports, and beyond them only what its order changes (R134 to R141); and
what the orders, the reports and a stop leave of a port (R64, R67, R68, R81). -/

namespace Sys2Proof.Machine

variable {s t u : State}

/-! ### Scores and reports alone -/

/-- Two states differ in the records of the health objects and in the Alert Unit alone. -/
def ScoresAlone (s u : State) : Prop :=
  u = { s with
    hm := { s.hm with segA := u.hm.segA, segB := u.hm.segB, ports := u.hm.ports, stations := u.hm.stations }, au := u.au }

namespace ScoresAlone

theorem refl (s : State) : ScoresAlone s s := rfl

theorem setObject (s : State) (o : ObjectId) (x : HealthObject) : ScoresAlone s (s.setObject o x) := by
  rcases o with (_ | _) | n | a <;> rfl

theorem raise (s : State) (c : Cause) (k : Nat) (d : Detail) : ScoresAlone s (s.raise c k d) := rfl

theorem reportObject (s : State) (o : ObjectId) (d : HealthDetail) (x : PortState) : ScoresAlone s (s.reportObject o d x) := by
  rcases o with g | n | a <;> rfl

theorem trans (h1 : ScoresAlone s t) (h2 : ScoresAlone t u) : ScoresAlone s u := by
  unfold ScoresAlone at *
  rw [h1] at h2
  exact h2

variable (h : ScoresAlone s u)
include h

theorem sd : u.sd = s.sd := by rw [h]
theorem ti : u.ti = s.ti := by rw [h]
theorem pr : u.pr = s.pr := by rw [h]
theorem ports : u.ports = s.ports := by rw [h]
theorem sm : u.sm = s.sm := by rw [h]
theorem pe : u.pe = s.pe := by rw [h]
theorem draws : u.draws = s.draws := by rw [h]
theorem probe : u.hm.probe = s.hm.probe := by rw [h]
theorem port (n : PortNo) : u.port n = s.port n := State.port_congr h.ports n
theorem fillingFor (n : PortNo) : u.fillingFor n = s.fillingFor n := by rw [h]; rfl

end ScoresAlone

/-- The isolation order of an object (R138 to R140). -/
def State.isolationOrder (s : State) (o : ObjectId) : State :=
  match o with
  | .segment .a => s
  | .segment .b => s.cutSegmentB
  | .port n => s.isolatePort n
  | .station a => s.cutStation a

theorem State.isolateObject_eq (s : State) (o : ObjectId) : s.isolateObject o =
    (s.reportObject o (.state .isolated) (s.portStateOf o).afterIsolation).isolationOrder o := by
  rcases o with (_ | _) | n | a <;> rfl

/-- Scores and reports change, and then the order of the object may be carried out: the isolation order when it becomes ISOLATED, the
readmission order when it ceases to be. -/
def Ordered (s t : State) (o : ObjectId) : Prop :=
  ∃ u, ScoresAlone s u ∧ ((t = u ∧ ((t.object o).state = .isolated ↔ (s.object o).state = .isolated)) ∨
    ((s.object o).state ≠ .isolated ∧ (t.object o).state = .isolated ∧ t = u.isolationOrder o) ∨
    ((s.object o).state = .isolated ∧ (t.object o).state ≠ .isolated ∧ t = u.readmissionOrder o))

theorem State.evaluateMark_scores (s : State) (o : ObjectId) : ScoresAlone s (s.evaluateMark o) := by
  unfold State.evaluateMark
  dsimp only
  (repeat' split)
  · exact .refl s
  · exact (ScoresAlone.setObject s o _).trans (.reportObject _ o _ _)
  · exact .setObject s o _

/-- An evaluation changes scores and reports, and carries out at most the object's order (R134, R135). -/
theorem State.evaluate_ordered (s : State) (o : ObjectId) : Ordered s (s.evaluate o) o := by
  have hband : s.bandOf (s.object o).score ≠ .isolated := by unfold State.bandOf; split <;> decide
  have hmark (t : State) : ((t.evaluateMark o).object o).state = (t.object o).state := by
    rw [State.object_evaluateMark, if_pos rfl]
  unfold State.evaluate
  dsimp only
  by_cases hi : (s.object o).state = .isolated
  · rw [if_pos hi]
    split
    · exact ⟨_, (ScoresAlone.setObject s o _).trans (.reportObject _ o _ _), .inr (.inr ⟨hi, by simp, rfl⟩)⟩
    · exact ⟨_, .setObject s o _, .inl ⟨rfl, by simp⟩⟩
  · rw [if_neg hi]
    split
    · exact ⟨_, (ScoresAlone.setObject s o _).trans (.reportObject _ o _ _),
        .inr (.inl ⟨hi, by simp, State.isolateObject_eq _ o⟩)⟩
    · split
      · exact ⟨_, State.evaluateMark_scores s o, .inl ⟨rfl, by rw [hmark]⟩⟩
      · refine ⟨_, ((ScoresAlone.setObject s o _).trans (.reportObject _ o _ _)).trans (State.evaluateMark_scores _ o), .inl ⟨rfl, ?_⟩⟩
        rw [hmark]
        simp [hi, hband]

/-- An object that is ISOLATED after its judgement exactly if it was before has its score and its reports alone changed. -/
theorem Ordered.scores {o : ObjectId} (h : Ordered s t o) (hi : (t.object o).state = .isolated ↔ (s.object o).state = .isolated) :
    ScoresAlone s t := by
  obtain ⟨u, hu, ⟨rfl, -⟩ | ⟨h1, h2, -⟩ | ⟨h1, h2, -⟩⟩ := h
  · exact hu
  · exact absurd (hi.mp h2) h1
  · exact absurd (hi.mpr h1) h2

theorem State.addScore_ordered (s : State) (o : ObjectId) (w : Nat) : Ordered s (s.addScore o w) o := by
  unfold State.addScore
  obtain ⟨u, hu, h⟩ := State.evaluate_ordered (s.setObject o { s.object o with score := min 1023 ((s.object o).score + w) }) o
  refine ⟨u, (ScoresAlone.setObject s o _).trans hu, ?_⟩
  simpa using h

/-! ### What no order changes of a port -/

/-- The receiver, the levels and the profile of a port. -/
def Port.lineView (p : Port) : (PortRx × Option Nat × Bool) × (Bool × Bool × PortProfile) :=
  ((p.rx, p.gapTimer, p.gapHeld), (p.inBreak, p.srdy, p.profile))

theorem Port.lineView_chooseFrame (p : Port) : p.chooseFrame.lineView = p.lineView := by
  unfold Port.chooseFrame
  (repeat' split) <;> rfl

theorem Port.lineView_queueNotice (p : Port) (x : Notice) : (p.queueNotice x).lineView = p.lineView :=
  Port.lineView_chooseFrame _

theorem State.lineView_notify (s : State) (n m : PortNo) (x : Notice) : ((s.notify n x).port m).lineView = (s.port m).lineView := by
  rw [State.port_notify]
  split
  next h => rw [Port.lineView_queueNotice, h.1]
  next => rfl

theorem State.lineView_readmitPort (s : State) (n m : PortNo) : ((s.readmitPort n).port m).lineView = (s.port m).lineView := by
  unfold State.readmitPort
  split
  · rw [State.notifyLink, State.lineView_notify]
    by_cases e : m = n
    · subst e; simp [Port.lineView, Port.flush]
    · simp [e]
  · rfl

theorem State.fillOffline_of_none {n : PortNo} (h : s.fillingFor n = none) : s.fillOffline n = s := by
  simp only [State.fillOffline, h]

theorem State.fillNil_of_none {n : PortNo} (h : s.fillingFor n = none) : s.fillNil n = s := by
  simp only [State.fillNil, h]

theorem State.isolatePort_fill {n : PortNo} (h : s.fillingFor n = none) :
    (s.isolatePort n).pr = s.pr ∧ (s.isolatePort n).ti = s.ti ∧ (s.isolatePort n).draws = s.draws := by
  unfold State.isolatePort
  split
  · rw [State.fillOffline_of_none (s := s.mapPort n Port.isolate) h]
    simp
  · exact ⟨rfl, rfl, rfl⟩

namespace Ordered

variable {n : PortNo} (h : Ordered s t (.port n))
include h

theorem port_of_ne {m : PortNo} (hm : m ≠ n) : t.port m = s.port m := by
  obtain ⟨u, hu, ⟨rfl, -⟩ | ⟨-, -, rfl⟩ | ⟨-, hn, rfl⟩⟩ := h
  · exact hu.port m
  · exact (State.port_isolatePort u n m).trans (by rw [if_neg (fun e => hm e.1), hu.port])
  · exact (State.port_readmitPort u n m hm).trans (hu.port m)

/-- Beside its receiver and its levels, a port is left as it was, isolated, or returned to service. -/
theorem port_self : (t.port n).lineView = (s.port n).lineView ∧ (t.port n = s.port n ∨
    ((s.port n).state.mayBegin = true ∧ t.port n = (s.port n).isolate) ∨
    ((s.port n).state = .isolated ∧ (t.object (.port n)).state ≠ .isolated ∧ (t.port n).state.mayBegin = true)) := by
  obtain ⟨u, hu, ⟨rfl, -⟩ | ⟨-, -, rfl⟩ | ⟨-, hn, rfl⟩⟩ := h
  · rw [hu.port]; exact ⟨rfl, .inl rfl⟩
  · have hp : (u.isolationOrder (.port n)).port n = if (s.port n).state.mayBegin = true then (s.port n).isolate else s.port n :=
      (State.port_isolatePort u n n).trans (by simp only [hu.port, true_and])
    rw [hp]
    split
    next hb => exact ⟨rfl, .inr (.inl ⟨hb, rfl⟩)⟩
    next => exact ⟨rfl, .inl rfl⟩
  · refine ⟨(State.lineView_readmitPort u n n).trans (by rw [hu.port]), ?_⟩
    by_cases hi : (s.port n).state = .isolated
    · refine .inr (.inr ⟨hi, ?_⟩)
      rw [show (u.readmissionOrder (.port n)).port n = (u.readmitPort n).port n from rfl, State.readmitPort_port_state, if_pos rfl,
        Port.afterReadmission, hu.port, if_pos hi]
      exact ⟨hn, Port.serviceState_mayBegin _⟩
    · have hr : u.readmissionOrder (.port n) = u := if_neg (by rwa [hu.port])
      rw [hr]
      exact .inl (hu.port n)

/-- With no reply being filled for the port, its order leaves the reply context and the trunk. -/
theorem fill_kept (hf : s.fillingFor n = none) : t.pr = s.pr ∧ t.ti = s.ti ∧ t.draws = s.draws := by
  obtain ⟨u, hu, ⟨rfl, -⟩ | ⟨-, -, rfl⟩ | ⟨-, hn, rfl⟩⟩ := h
  · exact ⟨hu.pr, hu.ti, hu.draws⟩
  · obtain ⟨h1, h2, h3⟩ := State.isolatePort_fill (s := u) (n := n) (by rw [hu.fillingFor, hf])
    exact ⟨h1.trans hu.pr, h2.trans hu.ti, h3.trans hu.draws⟩
  · exact ⟨(State.readmitPort_pr u n).trans hu.pr, (State.readmitPort_ti u n).trans hu.ti,
      (State.readmitPort_draws u n).trans hu.draws⟩

end Ordered

theorem State.chargePort_ordered (s : State) (n : PortNo) (w : Byte) : Ordered s (s.chargePort n w) (.port n) :=
  State.addScore_ordered s (.port n) w.toNat

/-! ### A fill that commits to NIL -/

@[simp] theorem State.fillingFor_fillNil (s : State) (n : PortNo) : (s.fillNil n).fillingFor n = none := by
  cases h : s.fillingFor n with
  | none => rw [State.fillNil_of_none h, h]
  | some k =>
    simp only [State.fillNil, h]
    rfl

@[simp] theorem State.fillingFor_mapPort (s : State) (n m : PortNo) (f : Port → Port) :
    (s.mapPort n f).fillingFor m = s.fillingFor m := rfl

/-- A fill under way when a frame is given up commits to NIL, also when the port is charged then. -/
theorem FillCommits.charged (s : State) (n : PortNo) (f : Port → Port) (w : Byte) :
    FillCommits s (((s.mapPort n f).fillNil n).chargePort n w) n .nil [] := by
  have h : FillCommits s ((s.mapPort n f).fillNil n) n .nil [] := State.fillCommits_fillNil (s := s.mapPort n f)
  obtain ⟨h1, h2, h3⟩ := (State.chargePort_ordered ((s.mapPort n f).fillNil n) n w).fill_kept (by simp)
  exact h.congr h1 h2 h3

/-! ### The end of STOPPING (R67, R81) -/

/-- The port's own object, cleared, and the OPEN job of its address removed: nothing else of any port changes (R81). -/
theorem State.port_enterStandby (s : State) (n m : PortNo) :
    (s.enterStandby n).port m = if m = n then (s.port n).toStandby else s.port m := by
  unfold State.enterStandby
  rw [clearKeeping_port n (by simp [Port.toStandby]), State.port_discardOpen (by simp [State.port, State.mapPort, State.setPort, Port.toStandby])]
  rw [State.port_congr (s := s.mapPort n Port.toStandby) (by simp)]
  by_cases e : m = n <;> simp [e]

theorem State.object_enterStandby (s : State) (n : PortNo) (o : ObjectId) : (s.enterStandby n).object o =
    if o = .port n then .clean (s.object (.port n)).mayIsolate else s.object o := by
  unfold State.enterStandby
  rw [State.object_discardOpen, State.object_clearKeeping]
  simp

theorem State.finishStopping_of (h : (s.port n).state = .stopping) (hr : (s.port n).rx.phase = .leadHunt)
    (ht : (s.port n).tx.busy = false) : s.finishStopping n = s.enterStandby n :=
  if_pos ⟨h, by simp [Port.receiving, hr], ht⟩

end Sys2Proof.Machine
end

section
/-! PROOF. The lines of a port: start bits, gaps and breaks (R64, R71), and peer-ready (R66). -/

namespace Sys2Proof.Machine

variable {s t u : State}

theorem State.charged_congr (hhm : t.hm = s.hm) (hsd : t.sd = s.sd) (o : ObjectId) (w : Byte) : t.charged o w = s.charged o w := by
  have ho := State.object_congr hhm o
  unfold State.charged
  rw [ho]
  exact State.judged_congr _ (by rw [ho]) (by rw [ho]) (by rw [hhm]) (by rw [hhm]) (by rw [hhm]) fun a _ => by rw [State.entry_congr hsd]

theorem State.mapPort_eq (s : State) (n : PortNo) (f : Port → Port) : s.mapPort n f = s.setPort n (f (s.port n)) := rfl

theorem Port.receiving_iff {p : Port} : p.receiving = true ↔ p.rx.phase ≠ .leadHunt := by simp [Port.receiving]

theorem State.fillNil_frame (s : State) (n : PortNo) :
    s.fillNil n = { s with pr := (s.fillNil n).pr, ti := (s.fillNil n).ti, draws := (s.fillNil n).draws } := by
  unfold State.fillNil
  split <;> rfl

theorem State.enterStandby_fill (s : State) (n : PortNo) :
    (s.enterStandby n).pr = s.pr ∧ (s.enterStandby n).ti = s.ti ∧ (s.enterStandby n).draws = s.draws := by
  refine ⟨State.enterStandby_pr s n, ?_, State.enterStandby_draws s n⟩
  unfold State.enterStandby
  rw [clearKeeping_port n (by simp [Port.toStandby])]
  simp

theorem State.finishStopping_fill (s : State) (n : PortNo) :
    (s.finishStopping n).pr = s.pr ∧ (s.finishStopping n).ti = s.ti ∧ (s.finishStopping n).draws = s.draws := by
  unfold State.finishStopping
  split
  exacts [State.enterStandby_fill s n, ⟨rfl, rfl, rfl⟩]

theorem FillCommits.finishStopping {n : PortNo} {c : ReplyCode} {m : List Byte} (h : FillCommits s t n c m) :
    FillCommits s (t.finishStopping n) n c m := by
  obtain ⟨h1, h2, h3⟩ := State.finishStopping_fill t n
  exact h.congr h1 h2 h3

/-- A port that is charged: its object alone, and what the charge leaves of the ports. -/
theorem State.chargePort_spec (s : State) (n : PortNo) (w : Byte) :
    (s.chargePort n w).object (.port n) = s.charged (.port n) w ∧ ObjectsKeptBut s (s.chargePort n w) [.port n] ∧
      PortsKeptBut s (s.chargePort n w) [n] ∧ ((s.chargePort n w).port n).lineView = (s.port n).lineView := by
  refine ⟨?_, fun o ho => ?_, fun m hm => ?_, (State.chargePort_ordered s n w).port_self.1⟩
  · rw [State.object_chargePort, if_pos rfl]
  · rw [State.object_chargePort, if_neg (by simpa using ho)]
  · exact (State.chargePort_ordered s n w).port_of_ne (by simpa using hm)

/-! ### Gaps (R71) -/

theorem State.port_fillNil_mapPort (s : State) (n m : PortNo) (f : Port → Port) :
    ((s.mapPort n f).fillNil n).port m = if m = n then f (s.port n) else s.port m := by
  rw [State.port_congr (State.fillNil_ports _ n)]
  by_cases e : m = n <;> simp [e]

/-- The gap limit in a state that raises events (R71, R75). -/
theorem frameGapExpiry_raises {n : PortNo} (hr : (s.port n).rx.phase ≠ .leadHunt) (hg : (s.port n).gapHeld = false)
    (hs : (s.port n).state = .online ∨ (s.port n).state = .detached ∨ (s.port n).state = .isolated) :
    Leads (.frameGapExpiry n) s fun t =>
      (t.port n).rx.phase = .leadHunt ∧ (t.port n).gapTimer = none ∧
      t.object (.port n) = s.charged (.port n) s.hm.weights.frameTruncated ∧ ObjectsKeptBut s t [.port n] ∧
      PortsKeptBut s t [n] ∧ t.pe = s.pe ∧ FillCommits s t n .nil [] := by
  let s1 := (s.mapPort n Port.endFrame).fillNil n
  have hexec : exec (.frameGapExpiry n) s = .next (s1.chargePort n s.hm.weights.frameTruncated) := by
    show Host.Outcome.next (s.gapExpires n) = _
    have hw : s1.hm.weights = s.hm.weights := by simp [s1]
    unfold State.gapExpires
    dsimp only
    rw [if_pos ⟨Port.receiving_iff.mpr hr, hg⟩]
    rcases hs with e | e | e <;> simp only [e, PortState.raisesEvents, reduceCtorEq, if_false, if_true] <;> rw [← hw]
  obtain ⟨hobj, hobjs, hports, hline⟩ := s1.chargePort_spec n s.hm.weights.frameTruncated
  rw [show s1.port n = (s.port n).endFrame by simp [s1]] at hline
  simp only [Port.lineView, Port.endFrame, Prod.mk.injEq] at hline
  obtain ⟨⟨hrx, hgap, -⟩, -⟩ := hline
  refine ⟨_, hexec, by rw [hrx]; rfl, hgap, ?_, fun o ho => ?_, fun m hm => ?_, by simp [s1], .charged s n _ _⟩
  · rw [hobj, State.charged_congr (s := s) (by simp [s1]) (by simp [s1])]
  · rw [hobjs o ho]; simp [s1]
  · rw [hports m hm, State.port_fillNil_mapPort, if_neg (by simpa using hm)]

/-- A STOPPING port whose frame is given up: it follows a frame that is being sent, or enters STANDBY (R67). -/
theorem State.stopped_spec (s : State) (n : PortNo) (f : Port → Port) (hst : (s.port n).state = .stopping)
    (hf : (f (s.port n)).state = (s.port n).state ∧ (f (s.port n)).rx.phase = .leadHunt ∧ (f (s.port n)).tx = (s.port n).tx) :
    let t := ((s.mapPort n f).fillNil n).finishStopping n
    FillCommits s t n .nil [] ∧
    ((s.port n).tx.busy = true → t = { s.setPort n (f (s.port n)) with pr := t.pr, ti := t.ti, draws := t.draws }) ∧
    ((s.port n).tx.busy = false → (t.port n).state = .standby ∧ (t.port n).listsEmpty) ∧
    ObjectsKeptBut s t [.port n] ∧ PortsKeptBut s t [n] := by
  intro t
  obtain ⟨h1, h2, h3⟩ := hf
  have hport := s.port_fillNil_mapPort n n f
  rw [if_pos rfl] at hport
  have hfill : FillCommits s ((s.mapPort n f).fillNil n) n .nil [] := State.fillCommits_fillNil (s := s.mapPort n f)
  have hbusy (hb : (s.port n).tx.busy = true) : t = (s.mapPort n f).fillNil n := if_neg fun h => by
    rw [hport, h3, hb] at h
    exact absurd h.2.2 (by decide)
  have hidle (hb : (s.port n).tx.busy = false) : t = ((s.mapPort n f).fillNil n).enterStandby n :=
    State.finishStopping_of (by rw [hport, h1, hst]) (by rw [hport, h2]) (by rw [hport, h3, hb])
  refine ⟨hfill.finishStopping, fun hb => ?_, fun hb => ?_, fun o ho => ?_, fun m hm => ?_⟩
  · rw [hbusy hb]
    exact State.fillNil_frame (s.mapPort n f) n
  · rw [hidle hb, State.port_enterStandby, if_pos rfl]
    exact ⟨rfl, rfl, rfl, rfl, rfl⟩
  · have hne : o ≠ .port n := by simpa using ho
    cases hb : (s.port n).tx.busy
    · rw [hidle hb, State.object_enterStandby, if_neg hne]; simp
    · rw [hbusy hb]; simp
  · have hne : m ≠ n := by simpa using hm
    cases hb : (s.port n).tx.busy
    · rw [hidle hb, State.port_enterStandby, if_neg hne, State.port_fillNil_mapPort, if_neg hne]
    · rw [hbusy hb, State.port_fillNil_mapPort, if_neg hne]

/-! ### Breaks (R64) -/

/-- A port on whose line a break is recognized (R64, R157). -/
def Port.broken (p : Port) : Port := { p.endFrame with inBreak := true, breakMark := p.breakMark || p.state == .isolated }

theorem State.breakBegins_of_stopping {n : PortNo} (hb : (s.port n).inBreak = false) (hst : (s.port n).state = .stopping)
    (hr : (s.port n).rx.phase ≠ .leadHunt) :
    s.breakBegins n = ((s.mapPort n Port.broken).fillNil n).finishStopping n := by
  unfold State.breakBegins
  dsimp only
  rw [hb, if_neg Bool.false_ne_true, if_pos (Port.receiving_iff.mpr hr), if_pos hst]
  rfl

/-- The state in which a break charges its port. -/
def State.broken (s : State) (n : PortNo) : State :=
  if (s.port n).receiving then (s.mapPort n Port.broken).fillNil n else s.mapPort n Port.broken

theorem State.broken_spec (s : State) (n : PortNo) : (s.broken n).hm = s.hm ∧ (s.broken n).sd = s.sd ∧ (s.broken n).pe = s.pe ∧
    ∀ m, (s.broken n).port m = if m = n then (s.port n).broken else s.port m := by
  unfold State.broken
  split
  · exact ⟨by simp, by simp, by simp, fun m => s.port_fillNil_mapPort n m _⟩
  · exact ⟨by simp, by simp, by simp, fun m => by by_cases e : m = n <;> simp [e]⟩

/-- A break in a state that raises events (R64, R75, R157). -/
theorem breakRecognized_raises {n : PortNo} (hb : (s.port n).inBreak = false)
    (hs : (s.port n).state = .online ∨ (s.port n).state = .detached ∨ (s.port n).state = .isolated) :
    Leads (.breakRecognized n) s fun t =>
      (t.port n).inBreak = true ∧ (t.port n).rx.phase = .leadHunt ∧ (t.port n).gapTimer = none ∧
      ((s.port n).state = .isolated → (t.port n).state = .isolated → (t.port n).breakMark = true) ∧
      t.object (.port n) = s.charged (.port n) s.hm.weights.breakWeight ∧ ObjectsKeptBut s t [.port n] ∧
      PortsKeptBut s t [n] ∧ t.pe = s.pe ∧ ((s.port n).rx.phase ≠ .leadHunt → FillCommits s t n .nil []) := by
  obtain ⟨hhm, hsd, hpe, hport⟩ := s.broken_spec n
  have hexec : exec (.breakRecognized n) s = .next ((s.broken n).chargePort n s.hm.weights.breakWeight) := by
    show Host.Outcome.next (s.breakBegins n) = _
    unfold State.breakBegins
    dsimp only
    rw [hb, if_neg Bool.false_ne_true]
    rcases hs with e | e | e <;> simp only [e, PortState.raisesEvents, reduceCtorEq, if_false, if_true] <;> rw [← hhm] <;> rfl
  obtain ⟨hobj, hobjs, hports, hline⟩ := (s.broken n).chargePort_spec n s.hm.weights.breakWeight
  have hself := (State.chargePort_ordered (s.broken n) n s.hm.weights.breakWeight).port_self.2
  rw [hport n, if_pos rfl] at hline hself
  simp only [Port.lineView, Prod.mk.injEq] at hline
  obtain ⟨⟨hrx, hgap, -⟩, hin, -⟩ := hline
  refine ⟨_, hexec, hin, by rw [hrx]; rfl, hgap, fun hi hi' => ?_, ?_, fun o ho => ?_, fun m hm => ?_, by simp [hpe], fun hr => ?_⟩
  · rcases hself with e | ⟨e, -⟩ | ⟨-, -, e⟩
    · rw [e]; simp [Port.broken, hi]
    · simp [Port.broken, Port.endFrame, hi, PortState.mayBegin] at e
    · rw [hi'] at e; cases e
  · rw [hobj, State.charged_congr hhm hsd]
  · rw [hobjs o ho, State.object_congr hhm]
  · rw [hports m hm, hport m, if_neg (by simpa using hm)]
  · rw [State.broken, if_pos (Port.receiving_iff.mpr hr)]
    exact .charged s n Port.broken _

/-- Settles O45: each clause by the state of the port. -/
theorem gapsAndBreaksEndFrames : Obligations.GapsAndBreaksEndFrames := by
  intro n s
  refine ⟨fun hr hb hs => ?start, fun hr hg hs => frameGapExpiry_raises hr hg hs, fun hr hg hs => ?stopGap,
    fun hb hs => breakRecognized_raises hb hs, fun hb hs hr ht => ?stopBreak, fun hb => ?again, rfl⟩
  case start =>
    have hl : ((s.port n).receiving && (s.port n).listens) = true := by
      have := Port.receiving_iff.mpr hr
      unfold Port.listens
      cases hst : (s.port n).state <;> simp_all
    show Host.Outcome.next (if ((s.port n).receiving && (s.port n).listens) = true then _ else s) = _
    rw [if_pos hl]
    rfl
  case stopGap =>
    have hexec : exec (.frameGapExpiry n) s = .next (((s.mapPort n Port.endFrame).fillNil n).finishStopping n) := by
      show Host.Outcome.next (s.gapExpires n) = _
      unfold State.gapExpires
      dsimp only
      rw [if_pos ⟨Port.receiving_iff.mpr hr, hg⟩, if_pos hs]
    exact ⟨_, hexec, s.stopped_spec n Port.endFrame hs ⟨rfl, rfl, rfl⟩⟩
  case stopBreak =>
    have hexec : exec (.breakRecognized n) s = .next (((s.mapPort n Port.broken).fillNil n).finishStopping n) :=
      congrArg Host.Outcome.next (State.breakBegins_of_stopping hb hs hr)
    obtain ⟨hfill, hbusy, -⟩ := s.stopped_spec n Port.broken hs ⟨rfl, rfl, rfl⟩
    have hmark : (s.port n).broken = { (s.port n).endFrame with inBreak := true } := by
      simp [Port.broken, Port.endFrame, hs]
    rw [hmark] at hbusy
    exact ⟨_, hexec, hfill, hbusy ht⟩
  case again =>
    show Host.Outcome.next (s.breakBegins n) = _
    rw [State.breakBegins, if_pos hb]

end Sys2Proof.Machine
end

section
/-! PROOF. Ports put into service and taken out of it (R65, R67, R81), and peer-ready (R66). -/

namespace Sys2Proof.Machine

variable {s t u : State}

/-! ### The LINK_STATE notice of a port (R80) -/

/-- The notice of an ONLINE port of a state, by its address. -/
def State.linkNotice (s : State) (n : PortNo) : Notice :=
  .linkState .online (s.mappedAddress n) s.pe.state s.sm.free.length
    (match s.mappedAddress n with | some a => min 255 (s.entry a).held | none => 0)

theorem State.linkState_of_online {n : PortNo} (h : (t.port n).state = .online) (hsd : t.sd = s.sd) (hpe : t.pe = s.pe) (hsm : t.sm = s.sm) :
    t.linkState n = s.linkNotice n := by
  have hm : t.mappedAddress n = s.mappedAddress n := by simp only [State.mappedAddress, State.entry_congr hsd]
  simp only [State.linkState, State.linkNotice, h, hm, hpe, hsm, State.entry_congr hsd] <;> rfl

theorem State.notifyLink_ports {n : PortNo} : s.notifyLink n = { s with ports := (s.notifyLink n).ports } := by
  unfold State.notifyLink State.notify
  split <;> rfl

/-! ### PORT_ENABLE (R65) -/

/-- A STANDBY port in its new state, before it hears of its link. -/
def State.inService (s : State) (n : PortNo) : State :=
  (s.mapPort n fun p => p.enabled ((s.object (.port n)).state == .isolated)).reportPort n

theorem State.port_inService (s : State) (n m : PortNo) : (s.inService n).port m =
    if m = n then (s.port n).enabled ((s.object (.port n)).state == .isolated) else s.port m := by
  unfold State.inService
  rw [State.port_reportPort]
  by_cases e : m = n <;> simp [e]

theorem State.port_enablePort (s : State) (n m : PortNo) : (s.enablePort n).port m =
    if m = n then
      if ((s.inService n).port n).state = .online then ((s.inService n).port n).queueNotice (s.linkNotice n)
      else (s.inService n).port n
    else s.port m := by
  show ((s.inService n).notifyLink n).port m = _
  rw [State.notifyLink, State.port_notify]
  by_cases e : m = n
  · subst e
    rw [if_pos rfl]
    by_cases ho : ((s.inService m).port m).state = .online
    · rw [if_pos ⟨rfl, ho⟩, if_pos ho,
        State.linkState_of_online (s := s) ho (by simp [State.inService]) (by simp [State.inService]) (by simp [State.inService])]
    · rw [if_neg (fun h => ho h.2), if_neg ho]
  · rw [if_neg (fun h => e h.1), if_neg e, State.port_inService, if_neg e]

theorem Port.mustHold_iff (p : Port) : p.mustHold = true ↔ p.profile.peerUsed = true ∧ p.srdy = false := by
  simp [Port.mustHold]

theorem Port.enabled_isolated (p : Port) : p.enabled true =
    { p with state := .isolated, rx := .hunting, tx := .idle, creditMark := false, breakMark := p.inBreak } := rfl

theorem Port.enabled_held {p : Port} (h : p.profile.peerUsed = true ∧ p.srdy = false) : p.enabled false =
    { p with state := .detached, rx := .hunting, tx := .held } := by
  have := p.mustHold_iff.mpr h
  simp [Port.enabled, Port.serviceState, Port.restTx, this]

theorem Port.enabled_online {p : Port} (h : ¬ (p.profile.peerUsed = true ∧ p.srdy = false)) : p.enabled false =
    { p with state := .online, rx := .hunting, tx := .idle } := by
  have : p.mustHold = false := by simpa using mt p.mustHold_iff.mp h
  simp [Port.enabled, Port.serviceState, Port.restTx, this]

theorem State.enablePort_frame (s : State) (n : PortNo) : s.enablePort n =
    { s with ports := (s.enablePort n).ports, au := s.au.take .portState n.val (.port ((s.inService n).port n).state none) } := by
  have h : s.enablePort n = { s.inService n with ports := (s.enablePort n).ports } := State.notifyLink_ports (s := s.inService n)
  rw [h]
  unfold State.inService
  rw [State.port_reportPort]
  rfl

theorem State.port_enablePort_self (s : State) (n : PortNo) : (s.enablePort n).port n =
    if (s.object (.port n)).state = .isolated then
      { s.port n with state := .isolated, rx := .hunting, tx := .idle, creditMark := false
                      breakMark := (s.port n).inBreak }
    else if (s.port n).profile.peerUsed = true ∧ (s.port n).srdy = false then
      { s.port n with state := .detached, rx := .hunting, tx := .held }
    else { s.port n with state := .online, rx := .hunting, tx := .idle }.queueNotice (s.linkNotice n) := by
  rw [State.port_enablePort, if_pos rfl, State.port_inService, if_pos rfl]
  by_cases hi : (s.object (.port n)).state = .isolated
  · simp only [hi, beq_self_eq_true, Port.enabled_isolated, if_true, reduceCtorEq, if_false]
  · rw [if_neg hi, show ((s.object (.port n)).state == .isolated) = false by simpa using hi]
    by_cases hh : (s.port n).profile.peerUsed = true ∧ (s.port n).srdy = false
    · rw [if_pos hh, Port.enabled_held hh, if_neg (by simp)]
    · rw [if_neg hh, Port.enabled_online hh, if_pos rfl]

theorem Port.state_queueNotice (p : Port) (x : Notice) : (p.queueNotice x).state = p.state := Port.chooseFrame_state _

/-- The state that a port enters is the one that is reported. -/
theorem State.enablePort_state (s : State) (n : PortNo) : ((s.enablePort n).port n).state = ((s.inService n).port n).state := by
  rw [State.port_enablePort, if_pos rfl]
  split
  · rw [Port.state_queueNotice]
  · rfl

/-- Settles O39: the port by its object and its peer-ready, told of its link when it is ONLINE. -/
theorem portEnableChoosesTheState : Obligations.PortEnableChoosesTheState := by
  intro cont n s
  refine ⟨fun h => ?_, fun h => ?_⟩
  · exact refuses_of rfl (by simp only [portEnableCommand, portOf_byteOf, if_pos h]) (by decide)
  · have hframe := s.enablePort_frame n
    refine accepts_of (s1 := s.enablePort n) rfl
      (by simp only [portEnableCommand, portOf_byteOf, h, ne_eq, not_true_eq_false, if_false]) (by rw [hframe])
      fun al => ⟨fun m hm => ?_, ?_, ?_, ?_⟩
    · rw [State.port_withAl, State.port_enablePort, if_neg (by simpa using hm)]
    · rw [hframe]
    · rw [State.port_withAl, State.enablePort_state, hframe]
    · rw [State.port_withAl, State.port_enablePort_self]; rfl

/-! ### Peer-ready (R66) -/

theorem exec_peerReadyAsserted_level {n : PortNo} (h : (s.port n).profile.peerUsed = false ∨ (s.port n).state = .standby ∨
    (s.port n).state = .stopping ∨ (s.port n).state = .isolated) :
    exec (.peerReadyAsserted n) s = .next (s.setPort n { s.port n with srdy := true }) := by
  show execPeerReadyAsserted n s = _
  unfold execPeerReadyAsserted
  dsimp only
  split
  next => rfl
  next hc =>
    have hu : (s.port n).profile.peerUsed = true := by
      cases e : (s.port n).profile.peerUsed <;> simp_all
    split
    next e => simp [hu, e] at h
    next e => simp [hu, e] at h
    all_goals rfl

theorem exec_peerReadyDeasserted_level {n : PortNo}
    (h : ¬ ((s.port n).srdy = true ∧ (s.port n).profile.peerUsed = true ∧ (s.port n).state = .online)) :
    exec (.peerReadyDeasserted n) s = .next (s.setPort n { s.port n with srdy := false }) := by
  show execPeerReadyDeasserted n s = _
  simp only [execPeerReadyDeasserted, if_neg h]
  rfl

/-- A DETACHED port hears its peer again (R66, R78, R80). -/
theorem peerReadyAsserted_detached {n : PortNo} (hu : (s.port n).profile.peerUsed = true) (hr : (s.port n).srdy = false)
    (hd : (s.port n).state = .detached) : Leads (.peerReadyAsserted n) s fun t => PortsKeptBut s t [n] ∧
      t = { s with ports := t.ports, au := t.au } ∧ t.au = s.au.take .portState n.val (.port .online none) ∧
      t.port n = Port.release ({ s.port n with srdy := true, state := .online }.queueNotice (s.linkNotice n)) := by
  let q : Port := { s.port n with srdy := true, state := .online }
  let s1 := (s.setPort n q).reportPort n
  have hexec : exec (.peerReadyAsserted n) s = .next ((s1.notifyLink n).mapPort n Port.release) := by
    show execPeerReadyAsserted n s = _
    simp only [execPeerReadyAsserted, hu, hr, hd, Bool.or_false, Bool.not_true, Bool.false_eq_true, if_false]
    simp only [State.mapPort, State.port_setPort, State.setPort_setPort]
    rfl
  have hport (m : PortNo) : s1.port m = if m = n then q else s.port m := by
    rw [State.port_reportPort, State.port_setPort_eq]
  have hon : (s1.port n).state = .online := by rw [hport, if_pos rfl]
  have hlink : s1.linkState n = s.linkNotice n := State.linkState_of_online hon (by simp [s1]) (by simp [s1]) (by simp [s1])
  have hnotified (m : PortNo) : (s1.notifyLink n).port m = if m = n then q.queueNotice (s.linkNotice n) else s.port m := by
    rw [State.notifyLink, State.port_notify, hlink, hport, hport]
    by_cases e : m = n
    · subst e; simp [q]
    · rw [if_neg (fun h => e h.1), if_neg e, if_neg e]
  have hframe : s1.notifyLink n = { s1 with ports := (s1.notifyLink n).ports } := State.notifyLink_ports
  have hau : s1.au = s.au.take .portState n.val (.port .online none) := by
    simp only [s1, State.reportPort, State.port_setPort]
    rfl
  refine ⟨_, hexec, fun m hm => ?_, ?_, ?_, ?_⟩
  · rw [State.port_mapPort_of_ne _ _ (by simpa using hm), hnotified, if_neg (by simpa using hm)]
  · rw [hframe]; rfl
  · rw [State.mapPort_au, hframe]; exact hau
  · rw [State.port_mapPort, hnotified, if_pos rfl]

/-- The detach timer of an ONLINE port runs out (R66). -/
theorem detachTimerExpiry_online {n : PortNo} (ho : (s.port n).state = .online) (ht : (s.port n).detachTimer.isSome = true) :
    Leads (.detachTimerExpiry n) s fun t => PortsKeptBut s t [n] ∧ t.port n = (s.port n).detach ∧
      t.au = s.au.take .portState n.val (.port .detached none) ∧
      (∀ k, s.fillingFor n = some k → t.pr = .sending k .offline []) ∧
      (s.fillingFor n = none → t = { s with ports := t.ports, au := t.au }) := by
  let s1 := (s.mapPort n Port.detach).reportPort n
  have hexec : exec (.detachTimerExpiry n) s = .next (s1.fillOffline n) :=
    congrArg Host.Outcome.next (if_pos ⟨ht, ho⟩)
  have hport (m : PortNo) : s1.port m = if m = n then (s.port n).detach else s.port m := by
    rw [State.port_reportPort]
    by_cases e : m = n <;> simp [e]
  have hau : s1.au = s.au.take .portState n.val (.port .detached none) := by
    simp only [s1, State.reportPort, State.port_mapPort]
    rfl
  obtain ⟨hnone, hsome⟩ := State.fillCommits_fillOffline (s := s1) (n := n)
  refine ⟨_, hexec, fun m hm => ?_, ?_, ?_, fun k hk => (hsome k hk).1, fun hf => ?_⟩
  · rw [State.port_fillOffline, hport, if_neg (by simpa using hm)]
  · rw [State.port_fillOffline, hport, if_pos rfl]
  · rw [State.fillOffline_au]; exact hau
  · rw [State.fillOffline_of_none (s := s1) hf]; rfl

/-- Settles O46: peer-ready by the use of it, the level before and the state of the port. -/
theorem peerReadyDetachesAndReturnsAPort : Obligations.PeerReadyDetachesAndReturnsAPort := by
  intro n s
  refine ⟨fun h => ⟨exec_peerReadyAsserted_level h, exec_peerReadyDeasserted_level ?_⟩, fun hu hr ho => ?_,
    fun hu hr hd => exec_peerReadyDeasserted_level (by simp [hd]), fun hu hr ho => ?_,
    fun hu hr hd => peerReadyAsserted_detached hu hr hd, fun ho ht => detachTimerExpiry_online ho ht⟩
  · rintro ⟨-, hu, ho⟩
    simp [hu, ho] at h
  · show execPeerReadyDeasserted n s = _
    simp only [execPeerReadyDeasserted, if_pos (And.intro hr (And.intro hu ho))]
    rfl
  · show execPeerReadyAsserted n s = _
    unfold execPeerReadyAsserted
    dsimp only
    rw [if_neg (by simp [hu, hr])]
    split
    next e =>
      rw [State.mapPort_eq, State.mapPort_eq, State.port_setPort, State.setPort_setPort]
      rfl
    all_goals next e => simp [ho] at e

end Sys2Proof.Machine
end

section
/-! PROOF. A port taken out of service (R67, R81, R101). -/

namespace Sys2Proof.Machine

variable {s t u : State}

/-! ### The removal of a job (R99) -/

theorem State.setHeld_accounts (s : State) (src : Source) (k : Nat) : AccountsAlone s (s.setHeld src k) := by
  refine ⟨fun a => ?_, ?_⟩
  · rw [State.entry_setHeld]
  · cases src <;> rfl

theorem State.removeJob_accounts (s : State) (j : Job) (e : Ending) : AccountsAlone s (s.removeJob j e) := by
  have h := State.setHeld_accounts s j.source (s.heldOf j.source - j.blocks)
  have hsd : (s.removeJob j e).sd = (s.setHeld j.source (s.heldOf j.source - j.blocks)).sd := by
    unfold State.removeJob
    simp only [State.notifyJob_sd]
    cases j.source <;> rfl
  unfold AccountsAlone
  simp only [State.entry_congr hsd, hsd]
  exact h

theorem State.removeJob_frame (s : State) (j : Job) (e : Ending) : s.removeJob j e = { s with
    sd := (s.removeJob j e).sd, sm := (s.removeJob j e).sm, ports := (s.removeJob j e).ports
    au := s.au.take .jobEnd j.id (.ending e) } := by
  unfold State.removeJob State.notifyJob State.notify
  cases j.source with
  | primary => rfl
  | desk a =>
    dsimp only
    split
    · split <;> rfl
    · rfl

theorem State.removed_removeJob (s : State) (j : Job) (e : Ending) : Removed s (s.removeJob j e) j e := by
  refine ⟨s.removeJob_sm j e, fun src => ?_, ?_⟩
  · rw [State.heldOf_removeJob]
    by_cases h : src = j.source
    · subst h; simp [Job.blocks]
    · simp [h]
  · rw [State.removeJob_frame]

/-- What a removal reads of the state before. -/
theorem Removed.congr {j : Job} {e : Ending} (h : Removed s t j e) (hsm : u.sm = s.sm) (hh : ∀ src, u.heldOf src = s.heldOf src)
    (hau : u.au = s.au) : Removed u t j e := by
  obtain ⟨h1, h2, h3⟩ := h
  exact ⟨by rw [h1, hsm], fun src => by rw [h2, hh], by rw [h3, hau]⟩

/-- No source has two OPEN jobs (R88). -/
theorem SpoolLaw.open_unique (h : SpoolLaw s) {j k : Job} (hj : j ∈ s.sm.jobs) (hk : k ∈ s.sm.jobs) (hjo : j.state = .opened)
    (hko : k.state = .opened) (hs : k.source = j.source) : k = j := by
  have hlen := (h.limits.2 j.source).2
  have mj : j ∈ s.sm.jobs.filter fun i => i.state == .opened && i.source == j.source := by simp [hj, hjo]
  have mk : k ∈ s.sm.jobs.filter fun i => i.state == .opened && i.source == j.source := by simp [hk, hko, hs]
  generalize (s.sm.jobs.filter fun i => i.state == .opened && i.source == j.source) = l at hlen mj mk
  cases l with
  | nil => simp at mj
  | cons x r =>
    have hr : r = [] := by simpa using hlen
    simp_all

/-! ### The OPEN job of a port (R101) -/

/-- The OPEN job of a port's mapped address. -/
def State.ownJob (s : State) (n : PortNo) : Option Job := (s.mappedAddress n).bind fun a => s.openJob? (.desk a)

theorem State.ownJob_congr (hsd : t.sd = s.sd) (hsm : t.sm = s.sm) (n : PortNo) : t.ownJob n = s.ownJob n := by
  have hm : t.mappedAddress n = s.mappedAddress n := by simp only [State.mappedAddress, State.entry_congr hsd]
  simp only [State.ownJob, State.openJob?, hm, hsm]

theorem State.discardOpen_of_none {n : PortNo} (h : s.ownJob n = none) : s.discardOpen n = s := by
  unfold State.discardOpen
  unfold State.ownJob at h
  cases hm : s.mappedAddress n with
  | none => rfl
  | some a => simp_all

theorem State.discardOpen_of_some {n : PortNo} {j : Job} (h : s.ownJob n = some j) : s.discardOpen n = s.removeJob j .discarded := by
  unfold State.discardOpen
  unfold State.ownJob at h
  cases hm : s.mappedAddress n with
  | none => simp_all
  | some a => simp_all

/-- Once it is discarded, the address has no OPEN job (R81). -/
theorem SpoolLaw.discardOpen_none (h : SpoolLaw s) {n : PortNo} {a : Address} (ha : s.mappedAddress n = some a) {k : Job}
    (hk : k ∈ (s.discardOpen n).sm.jobs) (ho : k.state = .opened) : k.source ≠ .desk a := by
  intro hs
  have hown : s.ownJob n = s.openJob? (.desk a) := by rw [State.ownJob, ha]; rfl
  cases hj : s.ownJob n with
  | none =>
    rw [State.discardOpen_of_none hj] at hk
    rw [hown] at hj
    have := List.find?_eq_none.mp hj k hk
    simp [ho, hs] at this
  | some j =>
    rw [State.discardOpen_of_some hj, State.removeJob_sm] at hk
    obtain ⟨hmem, hne⟩ := List.mem_filter.mp hk
    obtain ⟨hjm, hjo, hjs⟩ := openJob?_spec (hown ▸ hj)
    have := h.open_unique hjm hmem hjo ho (hs.trans hjs.symm)
    simp [this] at hne

/-! ### The clearing of the object of a port out of service (R81, R137) -/

/-- The Alert Unit after a port's own object is cleared: it is told unless the object stood at 0 and ACTIVE. -/
def State.toldOfPort (s : State) (n : PortNo) : AlertUnit :=
  if (s.object (.port n)).score = 0 ∧ (s.object (.port n)).state = .active then s.au
  else s.au.take .portState n.val (.port (s.port n).state (some (.state .active)))

theorem State.clearKeeping_port_au {n : PortNo} (h : (s.port n).state ≠ .isolated) : (s.clearKeeping (.port n)).au = s.toldOfPort n := by
  unfold State.clearKeeping State.clearObject State.toldOfPort
  dsimp only
  split
  · rfl
  · split
    · have hr : (s.readmittedStateOf (.port n)) = (s.port n).state := if_neg h
      unfold State.readmitObject
      rw [show ∀ x : HealthObject, (s.setObject (.port n) x).readmittedStateOf (.port n) = (s.port n).state from fun _ => hr]
      exact State.readmitPort_au _ n
    · rfl

theorem State.clearKeeping_port_hm {n : PortNo} (h : (s.port n).state ≠ .isolated) :
    (s.clearKeeping (.port n)).hm = { s.hm with ports := (s.clearKeeping (.port n)).hm.ports } := by
  have hp (v : State) (hv : v.ports = s.ports) : v.readmitPort n = v := if_neg (by rwa [State.port_congr hv])
  unfold State.clearKeeping State.clearObject
  dsimp only
  split
  · rfl
  · split
    · have hr (x : HealthObject) : (s.setObject (.port n) x).readmitObject (.port n) .active =
          (s.setObject (.port n) x).reportObject (.port n) (.state .active) _ := hp _ (by simp)
      rw [hr]
      rfl
    · rfl

/-! ### Into STANDBY (R81) -/

/-- A port in STANDBY and its own report, before its object is cleared and its OPEN job removed. -/
def State.quieted (s : State) (n : PortNo) : State := (s.mapPort n Port.toStandby).reportPort n

theorem State.quieted_au (s : State) (n : PortNo) : (s.quieted n).au = s.au.take .portState n.val (.port .standby none) := by
  unfold State.quieted State.reportPort
  rw [State.port_mapPort]
  rfl

theorem State.quieted_port (s : State) (n : PortNo) : (s.quieted n).port n = (s.port n).toStandby := by
  unfold State.quieted
  rw [State.port_reportPort, State.port_mapPort]

theorem State.enterStandby_eq (s : State) (n : PortNo) : s.enterStandby n = ((s.quieted n).clearKeeping (.port n)).discardOpen n := rfl

/-- The object's report is of a port in STANDBY (R81, R137). -/
theorem State.quieted_told (s : State) (n : PortNo) : ((s.quieted n).clearKeeping (.port n)).au =
    if (s.object (.port n)).score = 0 ∧ (s.object (.port n)).state = .active then (s.quieted n).au
    else (s.quieted n).au.take .portState n.val (.port .standby (some (.state .active))) := by
  have hp := s.quieted_port n
  have ho : (s.quieted n).object (.port n) = s.object (.port n) := by simp [State.quieted]
  rw [State.clearKeeping_port_au (by rw [hp]; simp [Port.toStandby]), State.toldOfPort, hp, ho]
  rfl

/-- The job, the accounts and the reports of a port that enters STANDBY (R81, R101). -/
theorem State.enterStandby_job (s : State) (n : PortNo) (told : AlertUnit) (htold : told = ((s.quieted n).clearKeeping (.port n)).au) :
    (s.ownJob n = none → (s.enterStandby n).sm = s.sm ∧ (s.enterStandby n).sd = s.sd ∧ (s.enterStandby n).au = told) ∧
    (∀ j, s.ownJob n = some j → Removed { s with au := told } (s.enterStandby n) j .discarded ∧
      AccountsAlone s (s.enterStandby n)) ∧
    (SpoolLaw s → ∀ a, s.mappedAddress n = some a →
      ∀ j ∈ (s.enterStandby n).sm.jobs, j.state = .opened → j.source ≠ .desk a) := by
  subst htold
  have hsd : ((s.quieted n).clearKeeping (.port n)).sd = s.sd := by simp [State.quieted]
  have hsm : ((s.quieted n).clearKeeping (.port n)).sm = s.sm := by simp [State.quieted]
  have hown := State.ownJob_congr hsd hsm n
  rw [State.enterStandby_eq]
  generalize (s.quieted n).clearKeeping (.port n) = v at hsd hsm hown ⊢
  refine ⟨fun h => ?_, fun j hj => ?_, fun hlaw a ha j hj ho => ?_⟩
  · rw [State.discardOpen_of_none (hown.trans h)]
    exact ⟨hsm, hsd, rfl⟩
  · rw [State.discardOpen_of_some (hown.trans hj)]
    refine ⟨(v.removed_removeJob j .discarded).congr hsm.symm (fun src => ?_) rfl, ?_⟩
    · exact State.heldOf_congr (by exact hsd.symm) src
    · have h := v.removeJob_accounts j .discarded
      unfold AccountsAlone at h ⊢
      simpa only [State.entry_congr hsd, hsd] using h
  · have hv : v.mappedAddress n = some a := by
      rw [← ha]; simp only [State.mappedAddress, State.entry_congr hsd]
    exact (hlaw.congr hsm fun src => State.heldOf_congr hsd src).discardOpen_none hv hj ho

theorem State.enterStandby_hm (s : State) (n : PortNo) : (s.enterStandby n).hm = { s.hm with ports := (s.enterStandby n).hm.ports } := by
  have h : (s.enterStandby n).hm = ((s.quieted n).clearKeeping (.port n)).hm := State.discardOpen_hm _ n
  rw [h, State.clearKeeping_port_hm (by rw [State.quieted_port]; simp [Port.toStandby])]
  simp [State.quieted]

/-- A stop reaches the ports, the port's object, the spool's accounts and the Alert Unit, and nothing else. -/
theorem State.enterStandby_frame (s : State) (n : PortNo) : s.enterStandby n = { s with
    ports := (s.enterStandby n).ports, hm := (s.enterStandby n).hm, sm := (s.enterStandby n).sm, sd := (s.enterStandby n).sd
    au := (s.enterStandby n).au } := by
  obtain ⟨h1, h2, h3⟩ := s.enterStandby_fill n
  have h4 := s.enterStandby_pe n
  have h5 := s.enterStandby_al n
  have h6 := s.enterStandby_pending n
  generalize s.enterStandby n = v at *
  rw [← h1, ← h2, ← h3, ← h4, ← h5, ← h6]

/-! ### PORT_STANDBY (R67) -/

/-- A port in service becomes STOPPING, its own report with it, and a fill for it commits to OFFLINE (R67, R52). -/
def State.stopping (s : State) (n : PortNo) : State :=
  ((s.mapPort n fun p => { p with state := .stopping, detachTimer := none }).reportPort n).fillOffline n

theorem State.stopPort_of_service {n : PortNo} (h1 : (s.port n).state ≠ .standby) (h2 : (s.port n).state ≠ .stopping) :
    s.stopPort n = (s.stopping n).finishStopping n := by
  unfold State.stopPort
  cases e : (s.port n).state with
  | standby => exact absurd e h1
  | stopping => exact absurd e h2
  | _ => rfl

theorem State.fillOffline_frame (s : State) (n : PortNo) :
    s.fillOffline n = { s with pr := (s.fillOffline n).pr, ti := (s.fillOffline n).ti, draws := (s.fillOffline n).draws } := by
  unfold State.fillOffline
  split <;> rfl

theorem State.stopping_port (s : State) (n m : PortNo) : (s.stopping n).port m =
    if m = n then { s.port n with state := .stopping, detachTimer := none } else s.port m := by
  unfold State.stopping
  rw [State.port_fillOffline, State.port_reportPort]
  by_cases e : m = n <;> simp [e]

theorem State.stopping_frame (s : State) (n : PortNo) : s.stopping n = { s with
    ports := (s.stopping n).ports, au := s.au.take .portState n.val (.port .stopping none), pr := (s.stopping n).pr
    ti := (s.stopping n).ti, draws := (s.stopping n).draws } := by
  have h1 : (s.stopping n).sd = s.sd := by simp [State.stopping]
  have h2 : (s.stopping n).sm = s.sm := by simp [State.stopping]
  have h3 : (s.stopping n).pe = s.pe := by simp [State.stopping]
  have h4 : (s.stopping n).hm = s.hm := by simp [State.stopping]
  have h5 : (s.stopping n).al = s.al := by simp [State.stopping]
  have h6 : (s.stopping n).pending = s.pending := by simp [State.stopping]
  have h7 : (s.stopping n).au = s.au.take .portState n.val (.port .stopping none) := by
    simp only [State.stopping, State.fillOffline_au, State.reportPort, State.port_mapPort]
    rfl
  rw [← h7]
  generalize s.stopping n = v at *
  rw [← h1, ← h2, ← h3, ← h4, ← h5, ← h6]

theorem State.stopping_fill (s : State) (n : PortNo) : FillCommits s (s.stopping n) n .offline [] :=
  State.fillCommits_fillOffline (s := (s.mapPort n fun p => { p with state := .stopping, detachTimer := none }).reportPort n)

/-- PORT_STANDBY of a port in service (R67, R81, R52). -/
theorem portStandby_accepts (cont : Bool) {n : PortNo} (h1 : (s.port n).state ≠ .standby) (h2 : (s.port n).state ≠ .stopping) :
    Accepts (.portStandby cont (byteOf n.val)) s cont fun t =>
      PortsKeptBut s t [n] ∧ FillCommits s t n .offline [] ∧
      t = { s with
        ports := t.ports, hm := t.hm, sm := t.sm, sd := t.sd, au := t.au, al := t.al, pr := t.pr, ti := t.ti, draws := t.draws } ∧
      let stopping := s.au.take .portState n.val (.port .stopping none)
      if (s.port n).receiving = true ∨ (s.port n).tx.busy = true then
        t.port n = { s.port n with state := .stopping, detachTimer := none } ∧ t.hm = s.hm ∧ t.sm = s.sm ∧ t.sd = s.sd ∧
        t.au = stopping
      else
        let object := s.object (.port n)
        let standby := stopping.take .portState n.val (.port .standby none)
        let told := if object.score = 0 ∧ object.state = .active then standby
          else standby.take .portState n.val (.port .standby (some (.state .active)))
        let own := (s.mappedAddress n).bind fun a => s.openJob? (.desk a)
        (t.port n).state = .standby ∧ (t.port n).listsEmpty ∧ (t.port n).tx = .idle ∧
        (t.port n).rx.phase = .leadHunt ∧ (t.port n).profile = (s.port n).profile ∧ ObjectsKeptBut s t [.port n] ∧
        t.hm = { s.hm with ports := t.hm.ports } ∧
        t.object (.port n) = { score := 0, state := .active, mayIsolate := object.mayIsolate, limitMark := false } ∧
        (own = none → t.sm = s.sm ∧ t.sd = s.sd ∧ t.au = told) ∧
        (∀ j, own = some j → Removed { s with au := told } t j .discarded ∧ AccountsAlone s t) ∧
        (SpoolLaw s → ∀ a, s.mappedAddress n = some a →
          ∀ j ∈ t.sm.jobs, j.state = .opened → j.source ≠ .desk a) := by
  have hcommand : portStandbyCommand (byteOf n.val) s = accept ((s.stopping n).finishStopping n) := by
    simp only [portStandbyCommand, portOf_byteOf, State.stopPort_of_service h1 h2]
  have hport := s.stopping_port n
  have hself := hport n
  rw [if_pos rfl] at hself
  have hframe := s.stopping_frame n
  have hfill := s.stopping_fill n
  generalize s.stopping n = v at *
  by_cases hbusy : (s.port n).receiving = true ∨ (s.port n).tx.busy = true
  · have hstop : v.finishStopping n = v := if_neg fun h => by
      simp only [hself] at h
      rcases hbusy with hb | hb
      · have : (s.port n).receiving = false := h.2.1
        simp [hb] at this
      · simp [hb] at h
    rw [hstop] at hcommand
    refine accepts_of rfl hcommand (by rw [hframe]) fun al => ⟨fun m hm => ?_, hfill.congr rfl rfl rfl, by rw [hframe], ?_⟩
    · rw [State.port_withAl, hport, if_neg (by simpa using hm)]
    · rw [if_pos hbusy]
      exact ⟨hself, by rw [hframe], by rw [hframe], by rw [hframe], by rw [hframe]⟩
  · have hr : (s.port n).receiving = false := by
      by_contra e; exact hbusy (.inl (by simpa using e))
    have hb : (s.port n).tx.busy = false := by
      by_contra e; exact hbusy (.inr (by simpa using e))
    have hstop : v.finishStopping n = v.enterStandby n := if_pos (by rw [hself]; exact ⟨rfl, hr, hb⟩)
    rw [hstop] at hcommand
    have hsd : v.sd = s.sd := by rw [hframe]
    have hsm : v.sm = s.sm := by rw [hframe]
    have hhm : v.hm = s.hm := by rw [hframe]
    have hobject (o : ObjectId) : v.object o = s.object o := State.object_congr hhm o
    have hau : v.au = s.au.take .portState n.val (.port .stopping none) := by rw [hframe]
    have hmap : v.mappedAddress n = s.mappedAddress n := by simp only [State.mappedAddress, State.entry_congr hsd]
    obtain ⟨f1, f2, f3⟩ := v.enterStandby_fill n
    have hstand := v.enterStandby_frame n
    have hhm' := v.enterStandby_hm n
    obtain ⟨jnone, jsome, jlaw⟩ := v.enterStandby_job n _ rfl
    have htold := v.quieted_told n
    rw [v.quieted_au, hau, hobject] at htold
    rw [htold, State.ownJob_congr hsd hsm] at jnone
    rw [htold, State.ownJob_congr hsd hsm] at jsome
    have hsame : SpoolLaw s → SpoolLaw v := fun hl => hl.congr hsm fun src => State.heldOf_congr hsd src
    refine accepts_of rfl hcommand (by rw [hstand, hframe])
      fun al => ⟨fun m hm => ?_, hfill.congr f1 f2 f3, ?_, ?_⟩
    · rw [State.port_withAl, State.port_enterStandby, if_neg (by simpa using hm), hport, if_neg (by simpa using hm)]
    · rw [hstand, hframe]
    · rw [if_neg hbusy]
      have hp : (v.enterStandby n).port n = ({ s.port n with state := .stopping, detachTimer := none } : Port).toStandby := by
        rw [State.port_enterStandby, if_pos rfl, hself]
      refine ⟨by rw [State.port_withAl, hp]; rfl, ?_, by rw [State.port_withAl, hp]; rfl, by rw [State.port_withAl, hp]; rfl,
        by rw [State.port_withAl, hp]; rfl, fun o ho => ?_, ?_, ?_,
        fun h => ?_, fun j hj => ?_, fun hl a ha => jlaw (hsame hl) a (hmap.trans ha)⟩
      · rw [State.port_withAl, hp]; exact ⟨rfl, rfl, rfl, rfl⟩
      · rw [State.object_withAl, State.object_enterStandby, if_neg (by simpa using ho), hobject]
      · rw [← hhm]; exact hhm'
      · rw [State.object_withAl, State.object_enterStandby, if_pos rfl, hobject]; rfl
      · obtain ⟨j1, j2, j3⟩ := jnone h
        exact ⟨j1.trans hsm, j2.trans hsd, j3⟩
      · obtain ⟨j1, j2⟩ := jsome j hj
        refine ⟨j1.congr hsm.symm (fun src => (State.heldOf_congr hsd src).symm) rfl, ?_⟩
        unfold AccountsAlone at j2
        simp only [State.entry_congr hsd, hsd] at j2
        exact j2

/-- Settles O40: a port out of service hears nothing; one in service is stopped, and follows a frame under way. -/
theorem portStandbyTakesAPortOutOfService : Obligations.PortStandbyTakesAPortOutOfService := by
  intro cont n s
  refine ⟨fun h => ?_, fun h1 h2 => portStandby_accepts cont h1 h2⟩
  refine accepts_of (s1 := s) rfl ?_ rfl fun _ => rfl
  simp only [portStandbyCommand, portOf_byteOf, State.stopPort]
  rcases h with e | e <;> rw [e]

end Sys2Proof.Machine
end

section
/-! PROOF. The frames that a port sends, on its line and at their end (R62, R67, R78, R79, R184). -/

namespace Sys2Proof.Machine

variable {s t u : State}

/-! ### Frames as bytes -/

theorem byteSum_eq_foldr (l : List Byte) : byteSum l = l.foldr (· + ·) 0 := by
  induction l with
  | nil => rfl
  | cons b l ih => simp [byteSum, ih]

/-- LEAD, KIND, LEN, payload and the check that brings them to 0 (R184). -/
theorem deskFrame_eq (kind : Byte) (payload : List Byte) : deskFrame kind payload =
    0xA5 :: (kind :: BitVec.ofNat 8 payload.length :: payload) ++
      [-((kind :: BitVec.ofNat 8 payload.length :: payload).foldr (· + ·) 0)] := by
  rw [← byteSum_eq_foldr]
  simp [deskFrame, checkByte, frameLead, byteOf]

/-! ### Characters as bits -/

theorem count_valueBits (c : Byte) : (List.ofFn fun i : Fin 8 => c.getLsbD i.val).count true % 2 = (oddOnes c).toNat := by
  revert c
  decide +kernel

theorem count_parity (p : Parity) (c : Byte) :
    let sum := ((List.ofFn fun i : Fin 8 => c.getLsbD i.val) ++ p.bits c).count true
    (p = .odd → sum % 2 = 1) ∧ (p = .even → sum % 2 = 0) := by
  have h := count_valueBits c
  intro sum
  refine ⟨?_, ?_⟩
  all_goals
    rintro rfl
    simp only [sum, List.count_append, Parity.bits]
    cases e : oddOnes c <;> simp [e] at h ⊢ <;> omega

theorem characterError_own_parity (p : Parity) (c : Byte) : characterError p c ((p.bits c).headD true) true = false := by
  cases p <;> simp [characterError, parityError, Parity.bits]

/-! ### The end of a frame -/

theorem exec_portFrameSent {n : PortNo} {f : SentFrame} (h : (s.port n).tx = .sending f) :
    exec (.portFrameSent n) s = .next ((s.mapPort n fun p => p.frameSent f).finishStopping n) := by
  show execPortFrameSent n s = _
  simp only [execPortFrameSent, h]

theorem Port.chooseFrame_of_not_begin {p : Port} (h : p.state.mayBegin = false) : p.chooseFrame = p := by
  unfold Port.chooseFrame
  rw [if_neg (by simp [h])]

/-- A port whose transmitter rests after its frame, a DELIVER's message gone from the downstream queue (R78, R79). -/
def Port.rested (p : Port) (f : SentFrame) : Port :=
  { p with
    tx := if p.profile.peerUsed = true ∧ p.srdy = false then .held else .idle
    downstream := match f with | .deliver _ => p.downstream.drop 1 | _ => p.downstream }

theorem Port.frameSent_eq (p : Port) (f : SentFrame) : p.frameSent f = (p.rested f).chooseFrame := by
  unfold Port.frameSent Port.rested Port.restTx
  simp only [p.mustHold_iff]
  cases f <;> rfl

/-- Settles O47: the characters of every frame, their bits, and the port at the end of each frame. -/
theorem sentFramesMakeRoom : Obligations.SentFramesMakeRoom := by
  refine ⟨⟨fun kind => deskFrame_eq _ _, fun kind r => deskFrame_eq _ _, fun m => deskFrame_eq _ _, fun id st place => deskFrame_eq _ _,
    fun st a e free held => ?_, rfl, rfl, rfl, rfl, rfl⟩, fun p => ⟨fun h => ?_, fun f h => ?_, fun c => ⟨p.profile.parity.bits c, ?_⟩⟩,
    fun n f s h => ?_⟩
  · refine (deskFrame_eq _ _).trans ?_
    cases a <;> rfl
  · cases ht : p.tx <;> simp_all [Port.deskLine, PortTx.busy, mark]
  · simp only [Port.deskLine, h]; rfl
  · refine ⟨?_, ?_, fun h => by rw [h]; rfl, (count_parity _ c).1, (count_parity _ c).2, characterError_own_parity _ c⟩
    · simp only [PortProfile.charBits, valueBits_eq_ofFn]; rfl
    · simp [PortProfile.charBits]; omega
  · have hexec := exec_portFrameSent h
    have hstate : ((s.port n).frameSent f).state = (s.port n).state := by
      rw [Port.frameSent_eq, Port.chooseFrame_state]; rfl
    refine ⟨fun hs => ?_, fun hs hr => ?_, fun hs hr => ?_⟩
    · rw [hexec, State.finishStopping, if_neg]
      · rw [State.mapPort_eq, Port.frameSent_eq]; rfl
      · rw [State.port_mapPort, hstate]
        exact fun e => hs e.1
    · have hstop : (s.port n).frameSent f = (s.port n).rested f := by
        rw [Port.frameSent_eq, Port.chooseFrame_of_not_begin]
        simp [Port.rested, hs, PortState.mayBegin]
      rw [hexec, State.finishStopping, if_neg]
      · rw [State.mapPort_eq, hstop]; rfl
      · rw [State.port_mapPort, hstop]
        intro e
        exact hr (by simpa [Port.receiving, Port.rested] using e.2.1)
    · have hstop : (s.port n).frameSent f = (s.port n).rested f := by
        rw [Port.frameSent_eq, Port.chooseFrame_of_not_begin]
        simp [Port.rested, hs, PortState.mayBegin]
      have hfinish : (s.mapPort n fun p => p.frameSent f).finishStopping n = (s.mapPort n fun p => p.frameSent f).enterStandby n := by
        refine State.finishStopping_of ?_ ?_ ?_ <;> rw [State.port_mapPort, hstop]
        · exact hs
        · exact hr
        · simp only [Port.rested]
          split <;> rfl
      have hport := State.port_enterStandby (s.mapPort n fun p => p.frameSent f) n
      refine ⟨_, hexec, ?_⟩
      rw [hfinish]
      refine ⟨?_, ?_, ?_, fun m hm => ?_, by simp, fun o ho => ?_⟩
      · rw [hport, if_pos rfl]; rfl
      · rw [hport, if_pos rfl]; exact ⟨rfl, rfl, rfl, rfl⟩
      · rw [hport, if_pos rfl]; rfl
      · rw [hport, if_neg (by simpa using hm), State.port_mapPort_of_ne _ _ (by simpa using hm)]
      · rw [State.object_enterStandby, if_neg (by simpa using ho)]
        simp

end Sys2Proof.Machine
end

section
/-! PROOF. The receiver of a port: characters into frames, and the verdicts on them (R64, R69, R70, R72). -/

namespace Sys2Proof.Machine

variable {s t u : State}

/-! ### The character on the line (R62, R184) -/

theorem DeskChar.command_of_levels (n : PortNo) (v : Byte) (pb sb : Bool) (after : List Bool) (s : State) :
    let profile := (s.port n).profile
    let levels := false :: List.ofFn (fun i : Fin 8 => v.getLsbD i.val) ++ (if profile.parity = .none then [] else [pb]) ++ sb :: after
    exec ((profile.charOf levels).command n) s = exec (.portCharacterTaken n v pb sb) s := by
  intro profile levels
  have h : profile.charOf levels = ⟨v, profile.parity != .none && pb, sb⟩ := by
    rw [← PortProfile.charOf_levels profile v false sb pb after, valueBits_eq_ofFn]
  rw [h]
  show Host.Outcome.next (s.portCharacter n v (s.errorAt n v _ sb)) = .next (s.portCharacter n v (s.errorAt n v pb sb))
  have he : s.errorAt n v (profile.parity != .none && pb) sb = s.errorAt n v pb sb := by
    unfold State.errorAt characterError parityError
    cases hp : (s.port n).profile.parity <;> simp [profile] <;> rfl
  rw [he]

theorem charOf_charBits (p : PortProfile) (v : Byte) (h : 1 ≤ p.stopBits) :
    let c := p.charOf (p.charBits v)
    c.value = v ∧ c.stopBit = true ∧ characterError p.parity c.value c.parityBit c.stopBit = false := by
  obtain ⟨hv, he⟩ := PortProfile.charOf_charBits h v
  have hs : (p.charOf (p.charBits v)).stopBit = true := by
    simp only [characterError, Bool.or_eq_false_iff, Bool.not_eq_false'] at he
    exact he.2
  exact ⟨hv, hs, by rw [hv]; exact he⟩

/-! ### Characters within a frame (R69, R71, R75) -/

/-- A port that goes on with its frame: the receive context given, the gap timer restarted (R71). -/
def Port.goesOn (p : Port) (r : PortRx) : Port := { p with rx := r, gapTimer := some p.profile.gap, gapHeld := false }

theorem State.charError_false (s : State) (n : PortNo) : s.charError n false = s := if_neg (by simp)

theorem State.charError_of_quiet {n : PortNo} (h : (s.port n).state.raisesEvents = false) (e : Bool) : s.charError n e = s :=
  if_neg (by simp [h])

theorem State.charError_true {n : PortNo} (h : (s.port n).state.raisesEvents = true) :
    s.charError n true = s.chargePort n s.hm.weights.charError := if_pos ⟨rfl, h⟩

theorem State.frameGoesOn_eq (s : State) (n : PortNo) (r : PortRx) (e : Bool) :
    s.frameGoesOn n r e = (s.setPort n ((s.port n).goesOn r)).charError n e := rfl

theorem exec_portCharacterTaken (n : PortNo) (v : Byte) (pb sb : Bool) : exec (.portCharacterTaken n v pb sb) s =
    .next (s.portCharacter n v (characterError (s.port n).profile.parity v pb sb)) := rfl

theorem exec_frameComplete_of_completes {n : PortNo} {v : Byte} (h : (s.port n).completes v = true) (pb sb : Bool) :
    exec (.frameComplete n v pb sb) s = exec (.portCharacterTaken n v pb sb) s := congrArg Host.Outcome.next (if_pos h)

theorem exec_frameComplete_of_not {n : PortNo} {v : Byte} (h : (s.port n).completes v = false) (pb sb : Bool) :
    exec (.frameComplete n v pb sb) s = .next s := congrArg Host.Outcome.next (if_neg (by simp [h]))

theorem Port.completes_iff {p : Port} {v : Byte} : p.completes v = true ↔ p.rx.phase = .check ∨ p.rx.phase = .len ∧ 128 < v.toNat := by
  unfold Port.completes
  cases p.rx.phase <;> simp

theorem State.portCharacter_deaf {n : PortNo} (h : (s.port n).listens = false) (v : Byte) (e : Bool) : s.portCharacter n v e = s :=
  if_neg (by simp [h])

theorem State.portCharacter_heard {n : PortNo} (h : (s.port n).listens = true) (v : Byte) (e : Bool) : s.portCharacter n v e =
    let p := s.port n
    let r : PortRx := { p.rx with errorMark := p.rx.errorMark || e }
    match p.rx.phase with
    | .leadHunt =>
      if v = frameLead ∧ e = false then s.frameGoesOn n { PortRx.hunting with phase := .kind } false
      else s.charError n e
    | .kind => s.frameGoesOn n { r with kind := v, phase := .len } e
    | .len =>
      if v = 0 then s.frameGoesOn n { r with len := v, phase := .check } e
      else if v.toNat ≤ 128 then s.frameGoesOn n { r with len := v, phase := .payload } e
      else s.frameEnds n { r with len := v } true 0 e
    | .payload =>
      let payload := r.payload ++ [v]
      s.frameGoesOn n
        { r with payload, phase := if payload.length < r.len.toNat then .payload else .check } e
    | .check => s.frameEnds n r false v e := by
  unfold State.portCharacter
  exact if_pos h

theorem Port.listens_iff {p : Port} : p.listens = true ↔ p.inBreak = false ∧
    (p.state = .online ∨ p.state = .detached ∨ p.state = .isolated ∨ p.state = .stopping ∧ p.rx.phase ≠ .leadHunt) := by
  unfold Port.listens Port.receiving
  cases p.inBreak <;> cases p.state <;> simp

theorem Port.raisesEvents_of_listens {p : Port} (h : p.listens = true) (hs : p.state ≠ .stopping) : p.state.raisesEvents = true := by
  obtain ⟨-, e | e | e | e⟩ := Port.listens_iff.mp h
  · rw [e]; rfl
  · rw [e]; rfl
  · rw [e]; rfl
  · exact absurd e.1 hs

/-- What a character within a frame leaves, with and without an error (R69, R75). -/
def TakenInFrame (s : State) (n : PortNo) (r : PortRx) (e : Bool) (t : State) : Prop :=
  (e = false → t = s.setPort n ((s.port n).goesOn r)) ∧
  (e = true → (s.port n).state ≠ .stopping →
    t.object (.port n) = s.charged (.port n) s.hm.weights.charError ∧ ObjectsKeptBut s t [.port n] ∧
    (t.port n).rx = r ∧ (t.port n).gapTimer = some (s.port n).profile.gap) ∧
  (e = true → (s.port n).state = .stopping → t = s.setPort n ((s.port n).goesOn r))

theorem State.frameGoesOn_spec {n : PortNo} (hl : (s.port n).listens = true) (r : PortRx) (e : Bool) :
    TakenInFrame s n r e (s.frameGoesOn n r e) := by
  refine ⟨fun he => ?_, fun he hs => ?_, fun he hs => ?_⟩
  · subst he
    exact State.charError_false _ n
  · subst he
    have hr : ((s.setPort n ((s.port n).goesOn r)).port n).state.raisesEvents = true := by
      rw [State.port_setPort]; exact (Port.raisesEvents_of_listens hl hs : (s.port n).state.raisesEvents = true)
    have ht : s.frameGoesOn n r true = (s.setPort n ((s.port n).goesOn r)).chargePort n s.hm.weights.charError := State.charError_true hr
    obtain ⟨hobj, hobjs, -, hline⟩ := (s.setPort n ((s.port n).goesOn r)).chargePort_spec n s.hm.weights.charError
    rw [← ht] at hobj hobjs hline
    rw [State.port_setPort] at hline
    simp only [Port.lineView, Port.goesOn, Prod.mk.injEq] at hline
    refine ⟨hobj.trans (State.charged_congr (by simp) (by simp) _ _), fun o ho => (hobjs o ho).trans (by simp), hline.1.1, hline.1.2.1⟩
  · refine State.charError_of_quiet (s := s.setPort n ((s.port n).goesOn r)) ?_ e
    rw [State.port_setPort]
    simp [Port.goesOn, hs, PortState.raisesEvents]

/-! ### A charge that leaves its object as isolated as it was -/

/-- A charge that neither isolates nor readmits changes scores and reports alone. -/
theorem State.chargePort_scores {n : PortNo} {w : Byte}
    (h : (s.charged (.port n) w).state = .isolated ↔ (s.object (.port n)).state = .isolated) : ScoresAlone s (s.chargePort n w) :=
  (State.chargePort_ordered s n w).scores (by rwa [State.object_chargePort, if_pos rfl])

theorem ScoresAlone.eq (h : ScoresAlone s t) : t = { s with hm := t.hm, au := t.au } := by
  unfold ScoresAlone at h
  rw [h]

theorem State.chargePort_of_not_isolated {n : PortNo} {w : Byte} (h1 : (s.object (.port n)).state ≠ .isolated)
    (h2 : (s.charged (.port n) w).state ≠ .isolated) : ScoresAlone s (s.chargePort n w) :=
  State.chargePort_scores ⟨fun e => absurd e h2, fun e => absurd e h1⟩

/-! ### The end of a frame in a STOPPING port (R67) -/

theorem State.frameEnds_stopping {n : PortNo} (h : (s.port n).state = .stopping) (r : PortRx) (o : Bool) (c : Byte) (e : Bool) :
    s.frameEnds n r o c e = (s.mapPort n Port.endFrame).finishStopping n := by
  have hq (t : State) (ht : (t.port n).state = .stopping ∨ (t.port n).state = .standby) (v : FrameVerdict) :
      (t.charError n e).frameEvent n v = t := by
    have hr : (t.port n).state.raisesEvents = false := by rcases ht with x | x <;> rw [x] <;> rfl
    rw [State.charError_of_quiet hr]
    unfold State.frameEvent
    rw [hr]
    split <;> rfl
  have happly (v : FrameVerdict) : (s.mapPort n Port.endFrame).applyFrame n r v = (s.mapPort n Port.endFrame).finishStopping n := by
    have hs : ((s.mapPort n Port.endFrame).port n).state = .stopping := by rw [State.port_mapPort]; exact h
    unfold State.applyFrame
    rw [hs]
  unfold State.frameEnds
  dsimp only
  rw [happly, hq]
  unfold State.finishStopping
  split
  · rw [State.port_enterStandby, if_pos rfl]; exact .inr rfl
  · rw [State.port_mapPort]; exact .inl h

/-- A STOPPING port's frame ends: it follows a frame that is being sent, or enters STANDBY (R67, R81). -/
theorem State.frameEnds_stopping_spec {n : PortNo} (h : (s.port n).state = .stopping) (r : PortRx) (o : Bool) (c : Byte) (e : Bool) :
    let t := s.frameEnds n r o c e
    PortsKeptBut s t [n] ∧ ObjectsKeptBut s t [.port n] ∧ t.pe = s.pe ∧ t.ti = s.ti ∧ t.pr = s.pr ∧
    ((s.port n).tx.busy = true → t = s.setPort n { s.port n with rx := .hunting, gapTimer := none, gapHeld := false }) ∧
    ((s.port n).tx.busy = false → (t.port n).state = .standby ∧ (t.port n).listsEmpty ∧ (t.port n).rx = .hunting ∧
      t.object (.port n) =
        { score := 0, state := .active, mayIsolate := (s.object (.port n)).mayIsolate, limitMark := false }) := by
  intro t
  have ht : t = (s.mapPort n Port.endFrame).finishStopping n := State.frameEnds_stopping h r o c e
  obtain ⟨hpr, hti, -⟩ := State.finishStopping_fill (s.mapPort n Port.endFrame) n
  have hpe := State.finishStopping_pe (s.mapPort n Port.endFrame) n
  rw [← ht] at hpr hti hpe
  cases hb : (s.port n).tx.busy
  · have hs : t = (s.mapPort n Port.endFrame).enterStandby n :=
      ht.trans (State.finishStopping_of (by rw [State.port_mapPort]; exact h) (by rw [State.port_mapPort]; rfl)
        (by rw [State.port_mapPort]; exact hb))
    have hport := State.port_enterStandby (s.mapPort n Port.endFrame) n
    have hobject := State.object_enterStandby (s.mapPort n Port.endFrame) n
    rw [← hs] at hport hobject
    refine ⟨fun m hm => ?_, fun o ho => ?_, hpe, hti, hpr, nofun, fun _ => ⟨?_, ?_, ?_, ?_⟩⟩
    · rw [hport, if_neg (by simpa using hm), State.port_mapPort_of_ne _ _ (by simpa using hm)]
    · rw [hobject, if_neg (by simpa using ho)]; simp
    · rw [hport, if_pos rfl]; rfl
    · rw [hport, if_pos rfl]; exact ⟨rfl, rfl, rfl, rfl⟩
    · rw [hport, if_pos rfl]; rfl
    · rw [hobject, if_pos rfl]; simp [HealthObject.clean]
  · have hs : t = s.mapPort n Port.endFrame := ht.trans (if_neg fun x => by
      rw [State.port_mapPort] at x
      simp [Port.endFrame, hb] at x)
    refine ⟨fun m hm => ?_, fun o ho => ?_, hpe, hti, hpr, fun _ => hs, nofun⟩
    · rw [hs, State.port_mapPort_of_ne _ _ (by simpa using hm)]
    · rw [hs]; simp

/-! ### O41 -/

/-- A character that is no lead is charged for its error, and discarded (R64, R69). -/
theorem charError_leads {n : PortNo} {v : Byte} {pb sb : Bool} (hl : (s.port n).listens = true) (hp : (s.port n).rx.phase = .leadHunt)
    (he : characterError (s.port n).profile.parity v pb sb = true) : Leads (.portCharacterTaken n v pb sb) s fun t =>
      t.object (.port n) = s.charged (.port n) s.hm.weights.charError ∧ ObjectsKeptBut s t [.port n] ∧
      PortsKeptBut s t [n] ∧ (t.port n).rx = (s.port n).rx ∧ (t.port n).gapTimer = (s.port n).gapTimer ∧ t.pe = s.pe ∧
      ((s.object (.port n)).state ≠ .isolated → (s.charged (.port n) s.hm.weights.charError).state ≠ .isolated →
        t = { s with hm := t.hm, au := t.au }) := by
  have hne : (s.port n).state ≠ .stopping := by
    obtain ⟨-, e | e | e | e⟩ := Port.listens_iff.mp hl
    · simp [e]
    · simp [e]
    · simp [e]
    · exact absurd hp e.2
  have hexec : exec (.portCharacterTaken n v pb sb) s = .next (s.chargePort n s.hm.weights.charError) := by
    rw [exec_portCharacterTaken, State.portCharacter_heard hl, he]
    simp only [hp, Bool.true_eq_false, and_false, if_false]
    rw [State.charError_true (Port.raisesEvents_of_listens hl hne)]
  obtain ⟨hobj, hobjs, hports, hline⟩ := s.chargePort_spec n s.hm.weights.charError
  simp only [Port.lineView, Prod.mk.injEq] at hline
  exact ⟨_, hexec, hobj, hobjs, hports, hline.1.1, hline.1.2.1, by simp, fun h1 h2 => (State.chargePort_of_not_isolated h1 h2).eq⟩

/-- Settles O41: by whether the receiver listens, and by the phase of its frame. -/
theorem portReceiverAssemblesFrames : Obligations.PortReceiverAssemblesFrames := by
  refine ⟨DeskChar.command_of_levels, fun p v h => charOf_charBits p v h, fun n v pb sb s => ⟨fun h => ?deaf, fun hb hs => ?_⟩⟩
  case deaf =>
    have hl : (s.port n).listens = false := by
      by_contra hl
      obtain ⟨hb, hst⟩ := Port.listens_iff.mp (by simpa using hl)
      rcases h with h | h | ⟨h, h'⟩ <;> simp_all
    have hc : exec (.portCharacterTaken n v pb sb) s = .next s := by rw [exec_portCharacterTaken, State.portCharacter_deaf hl]
    refine ⟨hc, ?_⟩
    cases hco : (s.port n).completes v
    · exact exec_frameComplete_of_not hco pb sb
    · rw [exec_frameComplete_of_completes hco, hc]
  have hl : (s.port n).listens = true := Port.listens_iff.mpr ⟨hb, hs⟩
  have hheard := State.portCharacter_heard hl v (characterError (s.port n).profile.parity v pb sb)
  have taken (r : PortRx) (h : s.portCharacter n v (characterError (s.port n).profile.parity v pb sb) =
      s.frameGoesOn n r (characterError (s.port n).profile.parity v pb sb)) :
      Leads (.portCharacterTaken n v pb sb) s (TakenInFrame s n r (characterError (s.port n).profile.parity v pb sb)) := by
    have hspec := State.frameGoesOn_spec hl r (characterError (s.port n).profile.parity v pb sb)
    rw [← h] at hspec
    exact ⟨_, exec_portCharacterTaken n v pb sb, hspec⟩
  refine ⟨fun hp hv he => ?lead, fun hp hv he => ?other, fun hp he => charError_leads hl hp he, fun hst hend => ?stopping,
    fun hp => taken _ ?kind, fun hp hv => taken _ ?len0, fun hp h1 h2 => taken _ ?len, fun hp => taken _ ?payload,
    fun h1 h2 => exec_frameComplete_of_not ?_ pb sb, fun h => exec_frameComplete_of_completes (Port.completes_iff.mpr h) pb sb⟩
  case lead =>
    rw [exec_portCharacterTaken, hheard, he]
    simp only [hp, hv, frameLead, and_self, if_true]
    exact congrArg _ (State.charError_false _ n)
  case other =>
    rw [exec_portCharacterTaken, hheard, he]
    simp only [hp, frameLead, hv, false_and, if_false]
    exact congrArg _ (State.charError_false _ n)
  case stopping =>
    refine ⟨_, exec_portCharacterTaken n v pb sb, ?_⟩
    rw [hheard]
    rcases hend with hp | ⟨hp, hv⟩
    · simp only [hp]
      exact State.frameEnds_stopping_spec hst _ _ _ _
    · simp only [hp]
      rw [if_neg (by rintro rfl; simp at hv), if_neg (by omega)]
      exact State.frameEnds_stopping_spec hst _ _ _ _
  case kind => rw [hheard]; simp only [hp]
  case len0 => rw [hheard]; simp only [hp, if_pos hv]
  case len =>
    rw [hheard]
    simp only [hp]
    rw [if_neg (by rintro rfl; simp at h1), if_pos h2]
  case payload => rw [hheard]; simp only [hp, List.length_append, List.length_singleton]
  · rw [← Bool.not_eq_true, Port.completes_iff]
    rintro (e | ⟨e, e'⟩)
    · exact h1 e
    · have := h2 e; omega

end Sys2Proof.Machine
end

section
/-! PROOF. The verdicts on the frames of a desk (R70, R72, R75, R77). -/

namespace Sys2Proof.Machine

variable {s t u : State}

/-! ### A fault and its answer -/

/-- A frame is answered by a port, and a fill for it commits to NIL. -/
def State.answeredBy (s : State) (n : PortNo) (q : Port) : State := (s.setPort n q).fillNil n

theorem State.answeredBy_port (s : State) (n m : PortNo) (q : Port) : (s.answeredBy n q).port m = if m = n then q else s.port m := by
  unfold State.answeredBy
  rw [State.port_congr (State.fillNil_ports _ n), State.port_setPort_eq]

theorem State.answeredBy_frame (s : State) (n : PortNo) (q : Port) : s.answeredBy n q = { s with
    ports := (s.answeredBy n q).ports, pr := (s.answeredBy n q).pr, ti := (s.answeredBy n q).ti, draws := (s.answeredBy n q).draws } := by
  unfold State.answeredBy
  refine (State.fillNil_frame (s.setPort n q) n).trans ?_
  rw [State.fillNil_ports]
  rfl

theorem State.answeredBy_fill (s : State) (n : PortNo) (q : Port) :
    FillCommits s (s.answeredBy n q) n .nil [] ∧ (s.answeredBy n q).fillingFor n = none :=
  ⟨State.fillCommits_fillNil (s := s.setPort n q), State.fillingFor_fillNil _ n⟩

theorem State.answeredBy_kept (s : State) (n : PortNo) (q : Port) : (s.answeredBy n q).hm = s.hm ∧ (s.answeredBy n q).sd = s.sd ∧
    (s.answeredBy n q).sm = s.sm ∧ (s.answeredBy n q).pe = s.pe := by
  simp [State.answeredBy]

/-- A port with a response added to its list, which is sent or waits (R77, R78). -/
def Port.responds (p : Port) (x : Response) : Port := { p with responses := p.responses ++ [x] }.chooseFrame

theorem State.respond_eq (s : State) (n : PortNo) (x : Response) : s.respond n x = s.setPort n ((s.port n).responds x) := rfl

/-- The port that a fault leaves: unanswered at an overrun, and with a NAK otherwise (R70). -/
def Port.faulted (p : Port) (kind : Byte) (v : FrameVerdict) : Port :=
  match v.nak with
  | some reason => p.endFrame.responds (.nak kind reason)
  | none => p.endFrame

theorem State.applyFrame_of_fault {n : PortNo} (hs : (s.port n).state = .online ∨ (s.port n).state = .detached) (r : PortRx)
    {v : FrameVerdict} (hv : v ≠ .good) :
    (s.mapPort n Port.endFrame).applyFrame n r v = s.answeredBy n ((s.port n).faulted r.kind v) := by
  have hst : ((s.mapPort n Port.endFrame).port n).state = (s.port n).state := by rw [State.port_mapPort]; rfl
  have hset (q : Port) : (s.mapPort n Port.endFrame).setPort n q = s.setPort n q := State.setPort_setPort s n _ _
  unfold State.applyFrame Port.faulted State.answeredBy
  rw [hst]
  rcases hs with e | e <;> rw [e] <;> cases v with
    | good => exact absurd rfl hv
    | overrun => rfl
    | _ => simp only [FrameVerdict.nak, State.respond_eq, hset, State.port_mapPort]

/-! ### The events of a frame's end (R70, R75) -/

theorem State.frameEvent_some {n : PortNo} {v : FrameVerdict} {w : Byte} (hw : v.weight s.hm.weights = some w)
    (hr : (s.port n).state.raisesEvents = true) : s.frameEvent n v = s.chargePort n w := by
  simp only [State.frameEvent, hw, hr, if_true]

theorem State.frameEvent_none {n : PortNo} {v : FrameVerdict} (hw : v.weight s.hm.weights = none) : s.frameEvent n v = s := by
  simp only [State.frameEvent, hw]

theorem State.raisesEvents_chargePort {n : PortNo} (h : (s.port n).state.raisesEvents = true) (w : Byte) :
    ((s.chargePort n w).port n).state.raisesEvents = true := by
  rcases (State.chargePort_ordered s n w).port_self.2 with e | ⟨-, e⟩ | ⟨-, -, e⟩
  · rwa [e]
  · rw [e]; rfl
  · rcases PortState.mayBegin_iff.mp e with e | e <;> rw [e] <;> rfl

theorem Port.faulted_state (p : Port) (kind : Byte) (v : FrameVerdict) : (p.faulted kind v).state = p.state := by
  unfold Port.faulted
  split
  · exact Port.chooseFrame_state _
  · rfl

/-- A faulty frame of a port that is ONLINE or DETACHED: its effect, the character's event, and the verdict's. -/
theorem State.frameEnds_fault {n : PortNo} (hs : (s.port n).state = .online ∨ (s.port n).state = .detached) {r : PortRx} {o : Bool}
    {c : Byte} (e : Bool) {v : FrameVerdict} (hv : (s.port n).frameVerdict r o c = v) (hne : v ≠ .good) :
    s.frameEnds n r o c e = ((s.answeredBy n ((s.port n).faulted r.kind v)).charError n e).frameEvent n v := by
  unfold State.frameEnds
  dsimp only
  rw [hv, State.applyFrame_of_fault hs r hne]

/-- A faulty frame of an ISOLATED port has its events alone (R70, R68). -/
theorem State.frameEnds_isolated {n : PortNo} (hs : (s.port n).state = .isolated) {r : PortRx} {o : Bool}
    {c : Byte} (e : Bool) {v : FrameVerdict} (hv : (s.port n).frameVerdict r o c = v) (hne : v ≠ .good) :
    s.frameEnds n r o c e = ((s.setPort n (s.port n).endFrame).charError n e).frameEvent n v := by
  have hst : ((s.mapPort n Port.endFrame).port n).state = .isolated := by rw [State.port_mapPort]; exact hs
  unfold State.frameEnds State.applyFrame
  simp only [hv, hst, if_neg hne]
  rfl

/-- What a charged answer leaves. -/
def Answered (s : State) (n : PortNo) (q : Port) (w : Byte) (t : State) : Prop :=
  t.object (.port n) = s.charged (.port n) w ∧ ObjectsKeptBut s t [.port n] ∧ PortsKeptBut s t [n] ∧
  t.pe = s.pe ∧ FillCommits s t n .nil [] ∧
  ((s.charged (.port n) w).state ≠ .isolated → t.port n = q ∧ t.sm = s.sm ∧ t.sd = s.sd)

theorem State.answered_spec {n : PortNo} (hi : (s.object (.port n)).state ≠ .isolated) (q : Port) (w : Byte) :
    Answered s n q w ((s.answeredBy n q).chargePort n w) := by
  obtain ⟨hhm, hsd, hsm, hpe⟩ := s.answeredBy_kept n q
  obtain ⟨hfill, hnone⟩ := s.answeredBy_fill n q
  have hport := fun m => s.answeredBy_port n m q
  generalize s.answeredBy n q = u at *
  obtain ⟨hobj, hobjs, hports, -⟩ := u.chargePort_spec n w
  obtain ⟨f1, f2, f3⟩ := (State.chargePort_ordered u n w).fill_kept hnone
  have hcharged := State.charged_congr hhm hsd (.port n) w
  refine ⟨hobj.trans hcharged, fun o ho => (hobjs o ho).trans (State.object_congr hhm o), fun m hm => ?_,
    (State.chargePort_pe u n w).trans hpe, hfill.congr f1 f2 f3, fun h => ?_⟩
  · rw [hports m hm, hport, if_neg (by simpa using hm)]
  · have hsc : ScoresAlone u (u.chargePort n w) :=
      State.chargePort_of_not_isolated (by rwa [State.object_congr hhm]) (by rwa [hcharged])
    exact ⟨(hsc.port n).trans ((hport n).trans (if_pos rfl)), hsc.sm.trans hsm, hsc.sd.trans hsd⟩

/-- What the events of a faulty frame leave of an ISOLATED port. -/
def Scored (s : State) (n : PortNo) (w : Byte) (t : State) : Prop :=
  t.object (.port n) = s.charged (.port n) w ∧ ObjectsKeptBut s t [.port n] ∧ PortsKeptBut s t [n] ∧ t.pe = s.pe ∧
  ((s.charged (.port n) w).state = .isolated → t.port n = (s.port n).endFrame)

theorem State.scored_spec {n : PortNo} (hs : (s.port n).state = .isolated) (w : Byte) :
    Scored s n w ((s.setPort n (s.port n).endFrame).chargePort n w) := by
  have hhm : (s.setPort n (s.port n).endFrame).hm = s.hm := rfl
  have hport : ∀ m, (s.setPort n (s.port n).endFrame).port m = if m = n then (s.port n).endFrame else s.port m :=
    fun m => s.port_setPort_eq n m (s.port n).endFrame
  have hcharged := State.charged_congr (t := s.setPort n (s.port n).endFrame) (s := s) rfl rfl (.port n) w
  have hpe : (s.setPort n (s.port n).endFrame).pe = s.pe := rfl
  generalize s.setPort n (s.port n).endFrame = u at *
  obtain ⟨hobj, hobjs, hports, -⟩ := u.chargePort_spec n w
  refine ⟨hobj.trans hcharged, fun o ho => (hobjs o ho).trans (State.object_congr hhm o), fun m hm => ?_,
    (State.chargePort_pe u n w).trans hpe, fun h => ?_⟩
  · rw [hports m hm, hport, if_neg (by simpa using hm)]
  · rcases (State.chargePort_ordered u n w).port_self.2 with e | ⟨e, -⟩ | ⟨-, e, -⟩
    · rw [e, hport, if_pos rfl]
    · rw [hport, if_pos rfl] at e
      simp [Port.endFrame, hs, PortState.mayBegin] at e
    · exact absurd (hobj.trans hcharged ▸ h) e

/-- What a frame leaves whose last character was in error: an answer, and one charge or two. -/
def ErredAnswer (s : State) (n : PortNo) (q : Port) (after : HealthObject) (t : State) : Prop :=
  t.object (.port n) = after ∧ ObjectsKeptBut s t [.port n] ∧ PortsKeptBut s t [n] ∧ t.pe = s.pe ∧
  FillCommits s t n .nil [] ∧
  ((s.charged (.port n) s.hm.weights.charError).state ≠ .isolated → after.state ≠ .isolated → t.port n = q ∧
    t = { s with ports := t.ports, hm := t.hm, au := t.au, pr := t.pr, ti := t.ti, draws := t.draws })

theorem ScoresAlone.frame_after (h : ScoresAlone u t) (hu : u = { s with ports := u.ports, pr := u.pr, ti := u.ti, draws := u.draws }) :
    t = { s with ports := t.ports, hm := t.hm, au := t.au, pr := t.pr, ti := t.ti, draws := t.draws } := by
  rw [h, hu]

theorem State.erred_once {n : PortNo} (hi : (s.object (.port n)).state ≠ .isolated) (q : Port) :
    ErredAnswer s n q (s.charged (.port n) s.hm.weights.charError) ((s.answeredBy n q).chargePort n s.hm.weights.charError) := by
  obtain ⟨h1, h2, h3, h4, h5, h6⟩ := State.answered_spec hi q s.hm.weights.charError
  obtain ⟨hhm, hsd, -, -⟩ := s.answeredBy_kept n q
  refine ⟨h1, h2, h3, h4, h5, fun h _ => ⟨(h6 h).1, ?_⟩⟩
  have hsc : ScoresAlone (s.answeredBy n q) ((s.answeredBy n q).chargePort n s.hm.weights.charError) :=
    State.chargePort_of_not_isolated (by rwa [State.object_congr hhm]) (by rwa [State.charged_congr hhm hsd])
  exact hsc.frame_after (s.answeredBy_frame n q)

theorem State.charged_of_object {o : ObjectId} (ho : t.object o = u.object o) (hr : t.hm.readmit = u.hm.readmit)
    (hi : t.hm.isolate = u.hm.isolate) (hb : t.hm.suspect = u.hm.suspect)
    (he : ∀ a, o = .station a → (t.entry a).location = (u.entry a).location) (w : Byte) : t.charged o w = u.charged o w := by
  unfold State.charged
  rw [ho]
  exact State.judged_congr _ (by rw [ho]) (by rw [ho]) hr hi hb he

theorem State.erred_twice {n : PortNo} (hi : (s.object (.port n)).state ≠ .isolated) (q : Port) (w : Byte) :
    ErredAnswer s n q ((s.setObject (.port n) (s.charged (.port n) s.hm.weights.charError)).charged (.port n) w)
      (((s.answeredBy n q).chargePort n s.hm.weights.charError).chargePort n w) := by
  obtain ⟨hhm, hsd, -, -⟩ := s.answeredBy_kept n q
  obtain ⟨h1, h2, h3, h4, h5, h6⟩ := State.answered_spec hi q s.hm.weights.charError
  have hnone : ((s.answeredBy n q).chargePort n s.hm.weights.charError).fillingFor n = none := by
    have hf := (s.answeredBy_fill n q).2
    obtain ⟨f1, -, -⟩ := (State.chargePort_ordered (s.answeredBy n q) n s.hm.weights.charError).fill_kept hf
    unfold State.fillingFor at hf ⊢
    rwa [f1]
  have hsc (h : (s.charged (.port n) s.hm.weights.charError).state ≠ .isolated) :
      ScoresAlone (s.answeredBy n q) ((s.answeredBy n q).chargePort n s.hm.weights.charError) :=
    State.chargePort_of_not_isolated (by rwa [State.object_congr hhm]) (by rwa [State.charged_congr hhm hsd])
  have hcharged : ((s.answeredBy n q).chargePort n s.hm.weights.charError).charged (.port n) w =
      (s.setObject (.port n) (s.charged (.port n) s.hm.weights.charError)).charged (.port n) w :=
    State.charged_of_object (by rw [h1]; simp) (by simp [hhm]) (by simp [hhm]) (by simp [hhm]) (by simp) w
  generalize (s.answeredBy n q).chargePort n s.hm.weights.charError = v at *
  obtain ⟨hobj, hobjs, hports, -⟩ := v.chargePort_spec n w
  obtain ⟨f1, f2, f3⟩ := (State.chargePort_ordered v n w).fill_kept hnone
  refine ⟨hobj.trans hcharged, fun o ho => (hobjs o ho).trans (h2 o ho), fun m hm => (hports m hm).trans (h3 m hm),
    (State.chargePort_pe v n w).trans h4, h5.congr f1 f2 f3, fun g1 g2 => ?_⟩
  have hsc2 : ScoresAlone v (v.chargePort n w) := State.chargePort_of_not_isolated (by rwa [h1]) (by rwa [hcharged])
  refine ⟨(hsc2.port n).trans (h6 g1).1, ((hsc g1).trans hsc2).frame_after (s.answeredBy_frame n q)⟩

/-! ### The verdict by its tests (R70) -/

section
variable {p : Port} {r : PortRx} {o : Bool} {c : Byte}

theorem Port.frameVerdict_overrun (h : 4 ≤ p.responses.length) : p.frameVerdict r o c = .overrun := if_pos h

variable (h : p.responses.length < 4)
include h

theorem Port.frameVerdict_overlong : p.frameVerdict r true c = .lengthFault := by
  rw [Port.frameVerdict, if_neg (by omega), if_pos rfl]

theorem Port.frameVerdict_marked (he : r.errorMark = true) : p.frameVerdict r false c = .characterFault := by
  rw [Port.frameVerdict, if_neg (by omega), if_neg (by decide), if_pos he]

theorem Port.frameVerdict_unmarked (he : r.errorMark = false) : p.frameVerdict r false c =
    if byteSum (r.kind :: r.len :: r.payload) + c ≠ 0 then .checkFault
    else if !deskKind r.kind then .kindFault
    else if !lenSuits r.kind r.len.toNat then .lengthFault
    else .good := by
  rw [Port.frameVerdict, if_neg (by omega), if_neg (by decide), if_neg (by simp [he])]

end

/-! ### The character that completes a frame -/

section
variable {n : PortNo} {v : Byte} {pb sb e : Bool} (hl : (s.port n).listens = true)
  (he : characterError (s.port n).profile.parity v pb sb = e)
include hl he

theorem exec_frameComplete_check (hp : (s.port n).rx.phase = .check) : exec (.frameComplete n v pb sb) s =
    .next (s.frameEnds n { (s.port n).rx with errorMark := (s.port n).rx.errorMark || e } false v e) := by
  rw [exec_frameComplete_of_completes (Port.completes_iff.mpr (.inl hp)), exec_portCharacterTaken, State.portCharacter_heard hl, he]
  simp only [hp]

theorem exec_frameComplete_len (hp : (s.port n).rx.phase = .len) (hv : 128 < v.toNat) : exec (.frameComplete n v pb sb) s =
    .next (s.frameEnds n { (s.port n).rx with errorMark := (s.port n).rx.errorMark || e, len := v } true 0 e) := by
  rw [exec_frameComplete_of_completes (Port.completes_iff.mpr (.inr ⟨hp, hv⟩)), exec_portCharacterTaken, State.portCharacter_heard hl, he]
  simp only [hp]
  rw [if_neg (by rintro rfl; simp at hv), if_neg (by omega)]

end

theorem Port.listens_of_service {p : Port} (hb : p.inBreak = false) (hs : p.state = .online ∨ p.state = .detached) : p.listens = true :=
  Port.listens_iff.mpr ⟨hb, hs.elim .inl fun e => .inr (.inl e)⟩

theorem Port.raisesEvents_of_service {p : Port} (hs : p.state = .online ∨ p.state = .detached) : p.state.raisesEvents = true := by
  rcases hs with e | e <;> rw [e] <;> rfl

/-- A fault without an error in its last character: an answer and the verdict's charge. -/
theorem State.frameEnds_answers {n : PortNo} (hs : (s.port n).state = .online ∨ (s.port n).state = .detached)
    (hi : (s.object (.port n)).state ≠ .isolated) {r : PortRx} {o : Bool} {c : Byte} {v : FrameVerdict} {w : Byte}
    (hv : (s.port n).frameVerdict r o c = v) (hw : v.weight s.hm.weights = some w) :
    Answered s n ((s.port n).faulted r.kind v) w (s.frameEnds n r o c false) := by
  have hne : v ≠ .good := by rintro rfl; cases hw
  rw [State.frameEnds_fault hs false hv hne, State.charError_false, State.frameEvent_some (w := w)]
  · exact State.answered_spec hi _ w
  · rw [(s.answeredBy_kept n _).1]; exact hw
  · rw [State.answeredBy_port, if_pos rfl, Port.faulted_state]; exact Port.raisesEvents_of_service hs

/-- A fault with an error in its last character whose verdict raises an event of its own. -/
theorem State.frameEnds_errs_twice {n : PortNo} (hs : (s.port n).state = .online ∨ (s.port n).state = .detached)
    (hi : (s.object (.port n)).state ≠ .isolated) {r : PortRx} {o : Bool} {c : Byte} {v : FrameVerdict} {w : Byte}
    (hv : (s.port n).frameVerdict r o c = v) (hw : v.weight s.hm.weights = some w) :
    ErredAnswer s n ((s.port n).faulted r.kind v)
      ((s.setObject (.port n) (s.charged (.port n) s.hm.weights.charError)).charged (.port n) w) (s.frameEnds n r o c true) := by
  have hne : v ≠ .good := by rintro rfl; cases hw
  have hraises : ((s.answeredBy n ((s.port n).faulted r.kind v)).port n).state.raisesEvents = true := by
    rw [State.answeredBy_port, if_pos rfl, Port.faulted_state]; exact Port.raisesEvents_of_service hs
  have hhm := (s.answeredBy_kept n ((s.port n).faulted r.kind v)).1
  rw [State.frameEnds_fault hs true hv hne, State.charError_true hraises, State.frameEvent_some (w := w) (by simpa [hhm] using hw)
    (State.raisesEvents_chargePort hraises _), hhm]
  exact State.erred_twice hi _ w

/-- A character fault: CHAR_ERROR has been charged with its character, and the verdict raises nothing (R70). -/
theorem State.frameEnds_errs_once {n : PortNo} (hs : (s.port n).state = .online ∨ (s.port n).state = .detached)
    (hi : (s.object (.port n)).state ≠ .isolated) {r : PortRx} {o : Bool} {c : Byte}
    (hv : (s.port n).frameVerdict r o c = .characterFault) :
    ErredAnswer s n ((s.port n).faulted r.kind .characterFault) (s.charged (.port n) s.hm.weights.charError)
      (s.frameEnds n r o c true) := by
  have hraises : ((s.answeredBy n ((s.port n).faulted r.kind .characterFault)).port n).state.raisesEvents = true := by
    rw [State.answeredBy_port, if_pos rfl, Port.faulted_state]; exact Port.raisesEvents_of_service hs
  have hhm := (s.answeredBy_kept n ((s.port n).faulted r.kind .characterFault)).1
  rw [State.frameEnds_fault hs true hv (by decide), State.charError_true hraises, State.frameEvent_none rfl, hhm]
  exact State.erred_once hi _

/-- A fault at an ISOLATED port whose verdict raises an event. -/
theorem State.frameEnds_scores {n : PortNo} (hs : (s.port n).state = .isolated) {r : PortRx} {o : Bool} {c : Byte} {v : FrameVerdict}
    {w : Byte} (hv : (s.port n).frameVerdict r o c = v) (hw : v.weight s.hm.weights = some w) :
    Scored s n w (s.frameEnds n r o c false) := by
  have hne : v ≠ .good := by rintro rfl; cases hw
  rw [State.frameEnds_isolated hs false hv hne, State.charError_false, State.frameEvent_some (w := w) (by simpa using hw)]
  · exact State.scored_spec hs w
  · rw [State.port_setPort]; simp [Port.endFrame, hs, PortState.raisesEvents]

/-- Settles O42: each fault by the test of R70 that finds it, with the events that go with it. -/
theorem faultyFramesAreAnswered : Obligations.FaultyFramesAreAnswered := by
  intro n v pb sb s
  refine ⟨fun he hb => ⟨fun hs hi => ?erred, fun hs hr hp => ?erredIsolated⟩,
    fun he hb => ⟨fun hp hv => ⟨fun hs hi => ?overlong, fun hs hr => ?overlongIsolated⟩, fun hp hs hr => ?checkIsolated,
      fun hp hs hi => ?check⟩⟩
  case erred =>
    have hl := Port.listens_of_service hb hs
    refine ⟨fun hp hr => ?_, fun hp hr => ?_, fun hp hv hr => ?_⟩
    · rcases hp with hp | ⟨hp, hv⟩
      · exact ⟨_, exec_frameComplete_check hl he hp, State.frameEnds_errs_twice hs hi (Port.frameVerdict_overrun hr) rfl⟩
      · exact ⟨_, exec_frameComplete_len hl he hp hv, State.frameEnds_errs_twice hs hi (Port.frameVerdict_overrun hr) rfl⟩
    · exact ⟨_, exec_frameComplete_check hl he hp, State.frameEnds_errs_once hs hi (Port.frameVerdict_marked hr (by simp))⟩
    · exact ⟨_, exec_frameComplete_len hl he hp hv, State.frameEnds_errs_twice hs hi (Port.frameVerdict_overlong hr) rfl⟩
  case erredIsolated =>
    have hl : (s.port n).listens = true := Port.listens_iff.mpr ⟨hb, .inr (.inr (.inl hs))⟩
    refine ⟨_, exec_frameComplete_check hl he hp, ?_⟩
    rw [State.frameEnds_isolated hs true (Port.frameVerdict_marked hr (by simp)) (by decide), State.frameEvent_none rfl,
      State.charError_true]
    · exact State.scored_spec hs _
    · rw [State.port_setPort]; simp [Port.endFrame, hs, PortState.raisesEvents]
  case overlong =>
    have hl := Port.listens_of_service hb hs
    exact ⟨fun hr => ⟨_, exec_frameComplete_len hl he hp hv, State.frameEnds_answers hs hi (Port.frameVerdict_overrun hr) rfl⟩,
      fun hr => ⟨_, exec_frameComplete_len hl he hp hv, State.frameEnds_answers hs hi (Port.frameVerdict_overlong hr) rfl⟩⟩
  case overlongIsolated =>
    have hl : (s.port n).listens = true := Port.listens_iff.mpr ⟨hb, .inr (.inr (.inl hs))⟩
    exact ⟨_, exec_frameComplete_len hl he hp hv, State.frameEnds_scores hs (Port.frameVerdict_overlong hr) rfl⟩
  case checkIsolated =>
    have hl : (s.port n).listens = true := Port.listens_iff.mpr ⟨hb, .inr (.inr (.inl hs))⟩
    have hexec := exec_frameComplete_check hl he hp
    simp only [Bool.or_false] at hexec
    refine ⟨fun hm => ?_, fun hm hsum => ?_, fun hm hsum hk => ?_⟩
    · rw [hexec, State.frameEnds_isolated hs false (Port.frameVerdict_marked hr hm) (by decide), State.frameEvent_none rfl,
        State.charError_false]
    · exact ⟨_, hexec, State.frameEnds_scores hs ((Port.frameVerdict_unmarked hr hm).trans (if_pos hsum)) rfl⟩
    · have hverdict := (Port.frameVerdict_unmarked (c := v) hr hm).trans (if_neg (not_not.mpr hsum))
      cases hkind : deskKind (s.port n).rx.kind
      · rw [hkind] at hverdict
        exact ⟨_, hexec, State.frameEnds_scores hs hverdict rfl⟩
      · have hlen : lenSuits (s.port n).rx.kind (s.port n).rx.len.toNat = false := hk.resolve_left (by simp [hkind])
        rw [hkind, hlen] at hverdict
        exact ⟨_, hexec, State.frameEnds_scores hs hverdict rfl⟩
  case check =>
    have hl := Port.listens_of_service hb hs
    have hexec := exec_frameComplete_check hl he hp
    simp only [Bool.or_false] at hexec
    refine ⟨fun hr => ⟨_, hexec, State.frameEnds_answers hs hi (Port.frameVerdict_overrun hr) rfl⟩, fun hr hm => ?_,
      fun hr hm hsum => ⟨_, hexec, State.frameEnds_answers hs hi ((Port.frameVerdict_unmarked hr hm).trans (if_pos hsum)) rfl⟩,
      fun hr hm hsum hk => ?_, fun hr hm hsum hk hlen => ?_⟩
    · refine ⟨_, hexec, ?_⟩
      rw [State.frameEnds_fault hs false (Port.frameVerdict_marked hr hm) (by decide), State.frameEvent_none rfl, State.charError_false]
      refine ⟨(s.answeredBy_fill n _).1, ?_, fun m hm => ?_, s.answeredBy_frame n _⟩
      · rw [State.answeredBy_port, if_pos rfl]; rfl
      · rw [State.answeredBy_port, if_neg (by simpa using hm)]
    · have hverdict := (Port.frameVerdict_unmarked (c := v) hr hm).trans (if_neg (not_not.mpr hsum))
      rw [hk] at hverdict
      exact ⟨_, hexec, State.frameEnds_answers hs hi hverdict rfl⟩
    · have hverdict := (Port.frameVerdict_unmarked (c := v) hr hm).trans (if_neg (not_not.mpr hsum))
      rw [hk, hlen] at hverdict
      exact ⟨_, hexec, State.frameEnds_answers hs hi hverdict rfl⟩

/-! ### Good messages (R72, R52) -/

/-- A frame that passes every test of R70, at a port that is ONLINE or DETACHED. -/
theorem exec_frameComplete_good {n : PortNo} {v : Byte} {pb sb : Bool} (he : characterError (s.port n).profile.parity v pb sb = false)
    (hb : (s.port n).inBreak = false) (hp : (s.port n).rx.phase = .check) (hs : (s.port n).state = .online ∨ (s.port n).state = .detached)
    (hr : (s.port n).responses.length < 4) (hm : (s.port n).rx.errorMark = false)
    (hsum : byteSum ((s.port n).rx.kind :: (s.port n).rx.len :: (s.port n).rx.payload) + v = 0)
    (hk : deskKind (s.port n).rx.kind = true) (hlen : lenSuits (s.port n).rx.kind (s.port n).rx.len.toNat = true) :
    exec (.frameComplete n v pb sb) s =
      .next ((s.mapPort n Port.endFrame).goodFrame n (s.port n).rx.kind (s.port n).rx.payload) := by
  have hexec := exec_frameComplete_check (Port.listens_of_service hb hs) he hp
  have hverdict : (s.port n).frameVerdict (s.port n).rx false v = .good := by
    rw [Port.frameVerdict_unmarked hr hm, if_neg (not_not.mpr hsum), hk, hlen]
    rfl
  simp only [Bool.or_false] at hexec
  rw [hexec]
  unfold State.frameEnds
  simp only [hverdict]
  have hst : ((s.mapPort n Port.endFrame).port n).state = (s.port n).state := by rw [State.port_mapPort]; rfl
  have happly : (s.mapPort n Port.endFrame).applyFrame n (s.port n).rx .good =
      (s.mapPort n Port.endFrame).goodFrame n (s.port n).rx.kind (s.port n).rx.payload := by
    unfold State.applyFrame
    rw [hst]
    rcases hs with e | e <;> rw [e]
  rw [happly, State.charError_false, State.frameEvent_none rfl]

/-- A good frame that is not appended: its answer, and a fill for the port commits to NIL (R52, R72). -/
theorem answeredBy_leads {c : Instr} {n : PortNo} {q : Port} (h : exec c s = .next (s.answeredBy n q)) : Leads c s fun t =>
    FillCommits s t n .nil [] ∧ t.port n = q ∧ PortsKeptBut s t [n] ∧
    t = { s with ports := t.ports, pr := t.pr, ti := t.ti, draws := t.draws } := by
  refine ⟨_, h, (s.answeredBy_fill n _).1, ?_, fun m hm => ?_, s.answeredBy_frame n _⟩
  · rw [State.answeredBy_port, if_pos rfl]
  · rw [State.answeredBy_port, if_neg (by simpa using hm)]

theorem State.mapPort_respond (s : State) (n : PortNo) (f : Port → Port) (x : Response) :
    (s.mapPort n f).respond n x = s.setPort n ((f (s.port n)).responds x) := by
  rw [State.respond_eq, State.port_mapPort]
  exact State.setPort_setPort s n _ _

/-- Settles O43: the tests of R72 on the address and the queue, and the fill that the frame ends. -/
theorem goodMessagesJoinTheQueue : Obligations.GoodMessagesJoinTheQueue := by
  intro n v pb sb s p r responds appended he hb hp hs hr hm hsum hkind h1 h128 naks
  have hk : deskKind r.kind = true := by rw [hkind]; rfl
  have hlen : lenSuits r.kind r.len.toNat = true := by
    unfold lenSuits
    rw [if_pos (.inl hkind)]
    simp [h1, h128]
  have hexec : exec (.frameComplete n v pb sb) s = .next ((s.mapPort n Port.endFrame).messageFrame n r.payload) := by
    rw [exec_frameComplete_good he hb hp hs hr hm hsum hk hlen]
    exact congrArg Host.Outcome.next (if_pos hkind)
  have hmap : (s.mapPort n Port.endFrame).mappedAddress n = s.mappedAddress n := rfl
  have hup : ((s.mapPort n Port.endFrame).port n).upstream = p.upstream := by rw [State.port_mapPort]; rfl
  have hfit (ha : s.mappedAddress n ≠ none) (hu : p.upstream.length < 4) :
      (s.mapPort n Port.endFrame).messageFrame n r.payload = (s.setPort n appended).fillData n r.payload := by
    unfold State.messageFrame
    rw [hmap, if_neg (by simpa using ha), hup, if_neg (by omega), State.mapPort_respond]
    rw [State.port_mapPort]
    exact congrArg (·.fillData n r.payload) (State.setPort_setPort s n _ _)
  refine ⟨fun ha => ?_, fun ha hu => ?_, fun ha hu hf => ?_, fun k ha hu hf => ?_⟩
  · refine answeredBy_leads (hexec.trans (congrArg _ ?_))
    unfold State.messageFrame
    rw [hmap, if_pos (by simpa using ha), State.mapPort_respond]
    rfl
  · refine answeredBy_leads (hexec.trans (congrArg _ ?_))
    unfold State.messageFrame
    rw [hmap, if_neg (by simpa using ha), hup, if_pos hu, State.mapPort_respond]
    rfl
  · rw [hexec, hfit ha hu, State.fillData, show (s.setPort n appended).fillingFor n = none from hf]
  · refine ⟨_, hexec, ?_⟩
    have hdata : (s.setPort n appended).fillData n r.payload =
        (((s.setPort n appended).commitEarly k .data r.payload).mapPort n fun p => { p with headSent := true }) := by
      rw [State.fillData, show (s.setPort n appended).fillingFor n = some k from hf]
    rw [hfit ha hu, hdata]
    refine ⟨?_, fun m hm => ?_, rfl, ⟨min (Config.fillsSent s.draws) s.fillsLeft, ?_, rfl⟩, rfl⟩
    · rw [State.port_mapPort]
      exact congrArg (fun q : Port => { q with headSent := true }) (State.port_setPort s n appended)
    · rw [State.port_mapPort_of_ne _ _ (by simpa using hm)]
      exact State.port_setPort_of_ne s appended (by simpa using hm)
    · exact (Nat.min_le_right _ _).trans (Nat.sub_le _ _)

end Sys2Proof.Machine
end

section
/-! PROOF. What a segment receiver takes (section 2.2), and the burst of which a probe's outcome undoes the isolation. -/

namespace Sys2Proof.Machine

variable {s : State}

/-! ### Idle in HUNT or SYNC1 (R21, R24, R40) -/

/-- A receiver that takes no bits takes nothing (R25). -/
theorem Segment.takesBits_of_ne {x : Segment} (h : x.tx ≠ .idle) : x.takesBits = false := by
  simp [Segment.takesBits, h]

theorem Segment.takesBits_of_idle {x : Segment} (h : x.tx = .idle) : x.takesBits = true := by
  simp [Segment.takesBits, h]

theorem State.takeUpBoth_frame (s : State) :
    s.takeUpBoth = { s with ti := { s.ti with segA := s.takeUpBoth.ti.segA, segB := s.takeUpBoth.ti.segB } } := by
  rw [State.takeUpBoth_eq]

theorem State.setSeg_frame (s : State) (g : Seg) (x : Segment) : s.setSeg g x =
    { s with ti := { s.ti with segA := (s.setSeg g x).ti.segA, segB := (s.setSeg g x).ti.segB } } := by
  cases g <;> rfl

/-- Segments whose copies are as before agree on whether a burst is being forwarded. -/
theorem State.noCopy_congr {t : State} (h : ∀ g, (t.seg g).copy = (s.seg g).copy) : t.noCopy = s.noCopy := by
  have ha := h .a
  have hb := h .b
  simp only [State.seg_a, State.seg_b] at ha hb
  simp only [State.noCopy, ha, hb]

theorem State.stillHeld_eq (s : State) (g : Seg) : s.stillHeld =
    ((s.seg g).changeHeld && !s.atBoundary g || (s.seg g.other).changeHeld && !s.atBoundary g.other) := by
  cases g
  · rfl
  · exact Bool.or_comm _ _

/-- A field that a segment's update keeps is kept on both segments. -/
theorem State.seg_setSeg_field {α : Type} (f : Segment → α) {g : Seg} {x : Segment} (h : f x = f (s.seg g)) (k : Seg) :
    f ((s.setSeg g x).seg k) = f (s.seg k) := by
  cases g <;> cases k
  · exact h
  · rfl
  · rfl
  · exact h

theorem State.atBoundary_setSeg_other {g : Seg} {x : Segment} (hc : x.copy = (s.seg g).copy) :
    (s.setSeg g x).atBoundary g.other = s.atBoundary g.other :=
  State.atBoundary_congr (by simp) (by simp) (State.noCopy_congr (State.seg_setSeg_field Segment.copy hc))

theorem State.atBoundary_of_idle {g : Seg} (hact : (s.seg g).activity = none) (htx : (s.seg g).tx = .idle) :
    s.atBoundary g = s.noCopy := by
  simp [State.atBoundary, hact, htx]

/-- Idle on a segment whose receiver is not in a burst: the boundary of that segment, and a look at the other's. -/
theorem idleRecognized_leads {g : Seg} (htx : (s.seg g).tx = .idle) (hphase : (s.seg g).rx.phase ≠ .inBurst) :
    let waits := (s.seg g.other).changeHeld && !s.atBoundary g.other
    Leads (.idleRecognized g) s fun t =>
    t.seg g = { s.seg g with
      rx := .hunting, activity := none, changeHeld := (s.seg g).changeHeld && !s.noCopy
      profile := if s.noCopy = true ∧ waits = false then s.ti.written else (s.seg g).profile } ∧
    t.seg g.other = { s.seg g.other with
      changeHeld := waits
      profile := if s.atBoundary g.other then s.ti.written else (s.seg g.other).profile } ∧
    t = { s with ti := { s.ti with segA := t.ti.segA, segB := t.ti.segB } } := by
  intro waits
  let s1 := s.setSeg g { s.seg g with rx := .hunting, activity := none }
  have hrun : s.idleSeen g = s1.takeUpBoth := by
    unfold State.idleSeen
    simp [Segment.takesBits_of_idle htx, hphase, s1]
  have hseg : s1.seg g = { s.seg g with rx := .hunting, activity := none } := State.seg_setSeg ..
  have hother : s1.seg g.other = s.seg g.other := State.seg_setSeg_other ..
  have hcopy : s1.noCopy = s.noCopy := State.noCopy_congr (State.seg_setSeg_field Segment.copy rfl)
  have hat : s1.atBoundary g = s.noCopy := by
    rw [State.atBoundary_of_idle (by rw [hseg]) (by rw [hseg]; exact htx), hcopy]
  have hatOther : s1.atBoundary g.other = s.atBoundary g.other := State.atBoundary_setSeg_other rfl
  have hwritten : s1.ti.written = s.ti.written := State.setSeg_ti_written ..
  have hheld : s1.stillHeld = ((s.seg g).changeHeld && !s.noCopy || waits) := by
    rw [State.stillHeld_eq s1 g, hat, hatOther, hseg, hother]
  refine ⟨_, congrArg Host.Outcome.next hrun, ?_, ?_, ?_⟩
  · rw [State.seg_takeUpBoth, hat, hheld, hseg, hwritten]
    cases hn : s.noCopy <;> simp [Segment.boundaryPassed]
  · rw [State.seg_takeUpBoth, hatOther, hheld, hother, hwritten]
    cases hn : s.atBoundary g.other
    · simp [Segment.boundaryPassed, waits, hn]
    · have hno : s.noCopy = true := by
        simp only [State.atBoundary, Bool.and_eq_true] at hn
        exact hn.2
      simp [Segment.boundaryPassed, waits, hn, hno]
  · rw [State.takeUpBoth_frame]
    simp only [s1]
    cases g <;> rfl

/-- Settles O27: a receiver takes nothing while its transmitter sends; otherwise each phase has its own step. -/
theorem receiverFindsItsBurst : Obligations.ReceiverFindsItsBurst := by
  intro g s
  refine ⟨fun hsending c hc => ?deaf, fun htx => ?hears⟩
  case deaf =>
    have hbits := Segment.takesBits_of_ne hsending
    obtain rfl | rfl | rfl | ⟨ch, rfl⟩ := hc
    · exact congrArg Host.Outcome.next (if_neg (by simp [hbits]))
    · exact congrArg Host.Outcome.next (if_neg (by simp [hbits]))
    · exact congrArg Host.Outcome.next (if_neg (by simp [hbits]))
    · exact congrArg Host.Outcome.next (if_neg (by simp [hbits]))
  case hears =>
    have hbits := Segment.takesBits_of_idle htx
    refine ⟨congrArg Host.Outcome.next (if_pos hbits), fun hphase => ⟨_, congrArg Host.Outcome.next
      (if_pos (by simp [hbits, hphase])), ?_⟩, fun hphase ch => ?sync1, idleRecognized_leads htx⟩
    · simp only [State.seg_setSeg]
      split <;> simp [TrunkRx.inBurst, TrunkRx.hunting]
    case sync1 =>
      have hrun : s.characterOnTrunk g ch = s.setSeg g { s.seg g with
          rx := if ch = dataChar (s.seg g).profile.sync then .inBurst else .hunting } := by
        unfold State.characterOnTrunk
        dsimp only
        rw [if_pos hbits, hphase]
      refine ⟨_, congrArg Host.Outcome.next hrun, ?_, by rw [State.seg_setSeg]⟩
      rw [State.seg_setSeg]
      split <;> rfl

/-! ### A burst's end that isolates segment B and readmits it at once -/

/-- A segment probe's reply ends on segment B while a copy is bound for segment A, and the readmission threshold stands above the isolation
threshold, which no run reaches (R145). -/
def State.invertedThresholds : State :=
  { State.reset with
    ti := { State.reset.ti with
      segA := { State.reset.ti.segA with copy := some (Copy.ofAddress .reply 17) }
      segB := { State.reset.ti.segB with rx := .inBurst } }
    hm := { State.reset.hm with
      readmit := 1023
      segB := { State.reset.hm.segB with score := 1023, mayIsolate := true }
      probe := some ⟨.replyIn, .segment, 17⟩ } }

/-- There the TRUNCATED event isolates segment B, which stops the copy, and the probe's failure readmits it (R34, R135, R155). -/
theorem State.invertedThresholds_burstEnds :
    (State.invertedThresholds.burstEnds .b true).segBIsolated = false ∧
    (State.invertedThresholds.burstEnds .b true).ti.segA.copy = none := by
  decide +kernel

/-- Refutes O28: its last clause has no premise on the thresholds. Where T_r is not below T_i, a burst's end can isolate segment B and
readmit it by the outcome of the probe, and the copy is gone though segment B is not ISOLATED after the event. -/
theorem not_receiverGathersAndCopySends : ¬ Obligations.ReceiverGathersAndCopySends := by
  rintro ⟨-, -, -, hends⟩
  obtain ⟨hreadmitted, hstopped⟩ := State.invertedThresholds_burstEnds
  obtain ⟨t, hrun, -, hkept, -⟩ := hends .b true (Copy.ofAddress .reply 17) State.invertedThresholds rfl rfl rfl
  obtain rfl : State.invertedThresholds.burstEnds .b true = t := Host.Outcome.next.inj hrun
  obtain ⟨hcopy, -⟩ := hkept (.inr hreadmitted)
  exact absurd (hstopped.symm.trans hcopy) nofun

end Sys2Proof.Machine
end

section
/-! PROOF. What a charge of a segment or a station leaves of the trunk: its orders end what is being sent and watched there, and begin
nothing (R34, R38, R138, R140, R141). -/

namespace Sys2Proof.Machine

variable {s t u : State}

/-! ### The trunk, the scores and the reports alone -/

/-- Two states differ in the trunk, the Health Monitor and the Alert Unit alone. -/
def TrunkAlone (s t : State) : Prop := t = { s with ti := t.ti, hm := t.hm, au := t.au }

namespace TrunkAlone

theorem refl (s : State) : TrunkAlone s s := rfl

theorem trans (h1 : TrunkAlone s t) (h2 : TrunkAlone t u) : TrunkAlone s u := by
  unfold TrunkAlone at *
  rw [h1] at h2
  exact h2

theorem setSeg (s : State) (g : Seg) (x : Segment) : TrunkAlone s (s.setSeg g x) := by cases g <;> rfl

theorem takeUpBoth (s : State) : TrunkAlone s s.takeUpBoth := by
  unfold TrunkAlone
  rw [State.takeUpBoth_eq]

variable (h : TrunkAlone s t)
include h

theorem sd : t.sd = s.sd := by rw [h]
theorem pr : t.pr = s.pr := by rw [h]
theorem ports : t.ports = s.ports := by rw [h]
theorem entry : t.entry = s.entry := funext fun a => State.entry_congr h.sd a

end TrunkAlone

theorem ScoresAlone.trunk (h : ScoresAlone s t) : TrunkAlone s t := by
  unfold ScoresAlone at h
  unfold TrunkAlone
  rw [h]

/-! ### Segments on which something may end -/

/-- What a segment was sending, the copy bound for it and its watch may have ended; what it hears and what it has sent stand. -/
structure Segment.Eased (x y : Segment) : Prop where
  rx : y.rx = x.rx
  activity : y.activity = x.activity
  line : y.line = x.line
  tx : y.tx = x.tx ∨ y.tx = .idle
  copy : y.copy = x.copy ∨ y.copy = none
  watch : y.watch = x.watch ∨ y.watch = none

namespace Segment.Eased

variable {x y z : Segment}

theorem refl (x : Segment) : x.Eased x := ⟨rfl, rfl, rfl, .inl rfl, .inl rfl, .inl rfl⟩

theorem trans (h1 : x.Eased y) (h2 : y.Eased z) : x.Eased z where
  rx := h2.rx.trans h1.rx
  activity := h2.activity.trans h1.activity
  line := h2.line.trans h1.line
  tx := h2.tx.elim (fun e => e ▸ h1.tx) .inr
  copy := h2.copy.elim (fun e => e ▸ h1.copy) .inr
  watch := h2.watch.elim (fun e => e ▸ h1.watch) .inr

theorem boundaryPassed (x : Segment) (b k : Bool) (w : TrunkProfile) : x.Eased (x.boundaryPassed b k w) :=
  ⟨rfl, rfl, rfl, .inl rfl, .inl rfl, .inl rfl⟩

/-- A transmitter that was idle is so still. -/
theorem idle (h : x.Eased y) (hx : x.tx = .idle) : y.tx = .idle := h.tx.elim (·.trans hx) id

/-- With no copy there before, there is none. -/
theorem no_copy (h : x.Eased y) (hx : x.copy = none) : y.copy = none := h.copy.elim (·.trans hx) id

theorem no_watch (h : x.Eased y) (hx : x.watch = none) : y.watch = none := h.watch.elim (·.trans hx) id

theorem tx_ne_copy (h : x.Eased y) (hx : x.tx ≠ .copy) : y.tx ≠ .copy := by
  obtain e | e := h.tx
  · exact e ▸ hx
  · exact e ▸ nofun

end Segment.Eased

/-- On both segments something may have ended, and nothing has begun. -/
def State.Eased (s t : State) : Prop := ∀ g, (s.seg g).Eased (t.seg g)

namespace State.Eased

theorem of_ti (h : t.ti = s.ti) : s.Eased t := fun g => by
  rw [State.seg_congr h]
  exact .refl _

theorem trans (h1 : s.Eased t) (h2 : t.Eased u) : s.Eased u := fun g => (h1 g).trans (h2 g)

theorem setSeg {g : Seg} {x : Segment} (h : (s.seg g).Eased x) : s.Eased (s.setSeg g x) := fun k => by
  cases g <;> cases k
  · exact h
  · exact .refl _
  · exact .refl _
  · exact h

theorem takeUpBoth (s : State) : s.Eased s.takeUpBoth := fun g => by
  rw [State.seg_takeUpBoth]
  exact .boundaryPassed _ _ _ _

theorem stopCopy (s : State) (g : Seg) : s.Eased (s.stopCopy g) :=
  setSeg ⟨rfl, rfl, rfl, by dsimp only; split <;> simp, .inr rfl, .inl rfl⟩

theorem abandonStationProbe (s : State) : s.Eased s.abandonStationProbe := by
  unfold State.abandonStationProbe
  split
  · exact (setSeg (g := .b) (x := { s.ti.segB with tx := .idle }) ⟨rfl, rfl, rfl, .inr rfl, .inl rfl, .inl rfl⟩).trans (of_ti rfl)
  · exact of_ti rfl
  · exact of_ti rfl

theorem disarm (s : State) (g : Seg) : s.Eased (s.setSeg g { s.seg g with watch := none }) :=
  setSeg ⟨rfl, rfl, rfl, .inl rfl, .inl rfl, .inr rfl⟩

theorem disarmStation (s : State) (g : Seg) (a : Address) : s.Eased (s.disarmStation g a) := by
  unfold State.disarmStation
  dsimp only
  split
  · exact disarm s g
  · exact of_ti rfl

theorem setGate (s : State) (b : Bool) : s.Eased (s.setGate b) := fun g => by
  cases g <;> exact .refl _

theorem cutSegmentB (s : State) : s.Eased s.cutSegmentB := by
  unfold State.cutSegmentB
  exact ((((((stopCopy s .a).trans (stopCopy _ .b)).trans (abandonStationProbe _)).trans (disarm _ .b)).trans (setGate _ _)).trans
    (takeUpBoth _))

theorem cutStation (s : State) (a : Address) : s.Eased (s.cutStation a) :=
  (disarmStation s .a a).trans (disarmStation _ .b a)

theorem restoreSegmentB (s : State) : s.Eased s.restoreSegmentB := by
  unfold State.restoreSegmentB
  dsimp only
  split
  · exact (setGate s false).trans (of_ti rfl)
  · exact setGate s false

theorem restoreStation (s : State) (a : Address) : s.Eased (s.restoreStation a) := by
  unfold State.restoreStation
  split <;> exact of_ti rfl

end State.Eased

/-! ### Charges -/

/-- What charges of segments and stations leave: beside scores and reports, on the trunk things have ended, and the probe exchange perhaps
too. -/
structure ChargesOnly (s t : State) : Prop where
  alone : TrunkAlone s t
  settings : HealthSettingsKept s t
  mark : t.hm.jabberMark = s.hm.jabberMark
  probe : ProbeKeptOrOver s t
  eased : s.Eased t

namespace ChargesOnly

theorem refl (s : State) : ChargesOnly s s := ⟨.refl s, ⟨rfl, rfl, rfl, rfl, rfl, rfl, rfl⟩, rfl, .inl rfl, .of_ti rfl⟩

theorem trans (h1 : ChargesOnly s t) (h2 : ChargesOnly t u) : ChargesOnly s u where
  alone := h1.alone.trans h2.alone
  settings := by
    obtain ⟨a1, a2, a3, a4, a5, a6, a7⟩ := h1.settings
    obtain ⟨b1, b2, b3, b4, b5, b6, b7⟩ := h2.settings
    exact ⟨b1.trans a1, b2.trans a2, b3.trans a3, b4.trans a4, b5.trans a5, b6.trans a6, b7.trans a7⟩
  mark := h2.mark.trans h1.mark
  probe := h2.probe.elim (fun e => by rw [ProbeKeptOrOver, e]; exact h1.probe) .inr
  eased := h1.eased.trans h2.eased

theorem weights (h : ChargesOnly s t) : t.hm.weights = s.hm.weights := by
  obtain ⟨-, -, -, -, -, -, hw⟩ := h.settings
  exact hw

/-- A state that changes on the trunk alone. -/
theorem of_trunk (h : t = { s with ti := t.ti }) (he : s.Eased t) : ChargesOnly s t where
  alone := by unfold TrunkAlone; rw [h]
  settings := by unfold HealthSettingsKept; rw [h]; exact ⟨rfl, rfl, rfl, rfl, rfl, rfl, rfl⟩
  mark := by rw [h]
  probe := .inl (by rw [h])
  eased := he

theorem disarm (s : State) (g : Seg) : ChargesOnly s (s.setSeg g { s.seg g with watch := none }) :=
  of_trunk (by cases g <;> rfl) (.disarm s g)

theorem takeUpBoth (s : State) : ChargesOnly s s.takeUpBoth :=
  of_trunk (by rw [State.takeUpBoth_eq]) (.takeUpBoth s)

end ChargesOnly

theorem ScoresAlone.charges (h : ScoresAlone s t) : ChargesOnly s t where
  alone := h.trunk
  settings := by
    unfold ScoresAlone at h
    unfold HealthSettingsKept
    rw [h]
    exact ⟨rfl, rfl, rfl, rfl, rfl, rfl, rfl⟩
  mark := by
    unfold ScoresAlone at h
    rw [h]
  probe := .inl h.probe
  eased := .of_ti h.ti

/-- A state as another one but for the trunk and the Health Monitor, the Alert Unit untouched. -/
theorem State.eq_of_orders (hsd : t.sd = s.sd) (hpr : t.pr = s.pr) (hports : t.ports = s.ports) (hsm : t.sm = s.sm)
    (hpe : t.pe = s.pe) (hal : t.al = s.al) (hdraws : t.draws = s.draws) (hpending : t.pending = s.pending) : TrunkAlone s t := by
  unfold TrunkAlone
  rw [← hsd, ← hpr, ← hports, ← hsm, ← hpe, ← hal, ← hdraws, ← hpending]

theorem ChargesOnly.isolationOrder (s : State) {o : ObjectId} (ho : ∀ n, o ≠ .port n) : ChargesOnly s (s.isolationOrder o) := by
  rcases o with (_ | _) | n | a
  · exact .refl s
  · show ChargesOnly s s.cutSegmentB
    exact ⟨State.eq_of_orders (by simp) (by simp) (by simp) (by simp) (by simp) (by simp) (by simp) (by simp),
      by simp [HealthSettingsKept], by simp, s.cutSegmentB_probe, .cutSegmentB s⟩
  · exact absurd rfl (ho n)
  · show ChargesOnly s (s.cutStation a)
    exact ⟨State.eq_of_orders (by simp) (by simp) (by simp) (by simp) (by simp) (by simp) (by simp) (by simp),
      by simp [HealthSettingsKept], by simp, .inl (by simp), .cutStation s a⟩

theorem State.restoreStation_probe (s : State) (a : Address) : ProbeKeptOrOver s (s.restoreStation a) := by
  unfold State.restoreStation
  split
  · exact .inr rfl
  · exact .inl rfl

theorem ChargesOnly.readmissionOrder (s : State) {o : ObjectId} (ho : ∀ n, o ≠ .port n) : ChargesOnly s (s.readmissionOrder o) := by
  rcases o with (_ | _) | n | a
  · exact .refl s
  · show ChargesOnly s s.restoreSegmentB
    exact ⟨State.eq_of_orders (by simp) (by simp) (by simp) (by simp) (by simp) (by simp) (by simp) (by simp),
      by simp [HealthSettingsKept], by simp, s.restoreSegmentB_probe, .restoreSegmentB s⟩
  · exact absurd rfl (ho n)
  · show ChargesOnly s (s.restoreStation a)
    exact ⟨State.eq_of_orders (by simp) (by simp) (by simp) (by simp) (by simp) (by simp) (by simp) (by simp),
      by simp [HealthSettingsKept], by simp, s.restoreStation_probe a, .restoreStation s a⟩

theorem Ordered.charges {o : ObjectId} (h : Ordered s t o) (ho : ∀ n, o ≠ .port n) : ChargesOnly s t := by
  obtain ⟨u, hu, ⟨rfl, -⟩ | ⟨-, -, rfl⟩ | ⟨-, -, rfl⟩⟩ := h
  · exact hu.charges
  · exact hu.charges.trans (.isolationOrder u ho)
  · exact hu.charges.trans (.readmissionOrder u ho)

theorem State.chargeSegment_ordered (s : State) (g : Seg) (w : Byte) : Ordered s (s.chargeSegment g w) (.segment g) :=
  s.addScore_ordered (.segment g) w.toNat

theorem State.chargeSegment_charges (s : State) (g : Seg) (w : Byte) : ChargesOnly s (s.chargeSegment g w) :=
  (s.chargeSegment_ordered g w).charges nofun

theorem State.chargeStation_charges (s : State) (a : Address) (w : Byte) : ChargesOnly s (s.chargeStation a w) := by
  unfold State.chargeStation
  split
  · exact (s.addScore_ordered _ _).charges nofun
  · exact (s.addScore_ordered _ _).charges nofun
  · exact .refl s

theorem State.pollMiss_charges (s : State) (g : Seg) (a : Address) : ChargesOnly s (s.pollMiss g a) :=
  (s.chargeStation_charges a _).trans (State.chargeSegment_charges _ g _)

theorem State.probeCredit_ordered (s : State) (o : ObjectId) : Ordered s (s.probeCredit o) o := by
  unfold State.probeCredit
  split
  · obtain ⟨u, hu, h⟩ := State.evaluate_ordered
      (s.setObject o { s.object o with score := (s.object o).score - s.hm.weights.credit.toNat }) o
    refine ⟨u, (ScoresAlone.setObject s o _).trans hu, ?_⟩
    simpa using h
  · exact ⟨s, .refl s, .inl ⟨rfl, Iff.rfl⟩⟩

theorem State.probeFailure_ordered (s : State) (o : ObjectId) : Ordered s (s.probeFailure o) o := by
  unfold State.probeFailure
  split
  · exact s.addScore_ordered o _
  · exact ⟨s, .refl s, .inl ⟨rfl, Iff.rfl⟩⟩

/-- Segment A is never isolated by its charges, and no order follows them (R128, R138). -/
theorem State.chargeSegment_a_scores (s : State) (w : Byte) : ScoresAlone s (s.chargeSegment .a w) := by
  obtain ⟨u, hu, ⟨e, -⟩ | ⟨-, -, e⟩ | ⟨-, -, e⟩⟩ := s.chargeSegment_ordered .a w
  · exact e ▸ hu
  · exact e ▸ hu
  · exact e ▸ hu

/-- A charge after which segment B is ISOLATED exactly if it was before changes scores and reports alone. -/
theorem State.chargeSegment_b_scores {w : Byte} (h : (s.chargeSegment .b w).segBIsolated = s.segBIsolated) :
    ScoresAlone s (s.chargeSegment .b w) :=
  (s.chargeSegment_ordered .b w).scores (by rw [← State.segBIsolated_iff, ← State.segBIsolated_iff, h])

/-- The charge that isolates segment B carries out its order (R138). -/
theorem State.chargeSegment_b_cut {w : Byte} (h1 : s.segBIsolated = false) (h2 : (s.chargeSegment .b w).segBIsolated = true) :
    ∃ u, ScoresAlone s u ∧ s.chargeSegment .b w = u.cutSegmentB := by
  obtain ⟨u, hu, ⟨-, hiff⟩ | ⟨-, -, e⟩ | ⟨h, -, -⟩⟩ := s.chargeSegment_ordered .b w
  · rw [← State.segBIsolated_iff, ← State.segBIsolated_iff, h1, h2] at hiff
    simp at hiff
  · exact ⟨u, hu, e⟩
  · rw [← State.segBIsolated_iff, h1] at h
    simp at h

/-- What is being forwarded to segment A is stopped when segment B is cut off (R34). -/
theorem State.cutSegmentB_segA (s : State) : s.cutSegmentB.ti.segA.copy = none ∧ s.cutSegmentB.ti.segA.tx ≠ .copy ∧
    s.cutSegmentB.ti.segA.line = s.ti.segA.line := by
  obtain ⟨hcopy, -⟩ := s.cutSegmentB_spec
  refine ⟨hcopy, ?_, (State.Eased.cutSegmentB s .a).line⟩
  have hstopped : ((s.stopCopy .a).seg .a).tx ≠ .copy := by
    rw [State.stopCopy, State.seg_setSeg]
    dsimp only
    split
    exacts [nofun, ‹_›]
  have heased : (s.stopCopy .a).Eased s.cutSegmentB := by
    unfold State.cutSegmentB
    exact (((((State.Eased.stopCopy _ .b).trans (.abandonStationProbe _)).trans (.disarm _ .b)).trans (.setGate _ _)).trans
      (.takeUpBoth _))
  exact (heased .a).tx_ne_copy hstopped

end Sys2Proof.Machine
end

section
/-! PROOF. What becomes of a burst when its address character is taken: recorded, forwarded, held or dropped (R22, R29, R30, R32, R33). -/

namespace Sys2Proof.Machine

variable {s t : State} {g : Seg} {k : BurstKind} {a : Address} {quiet : Nat}

/-! ### The address is recorded (R22, R26) -/

/-- A segment whose receiver has taken a burst's address character. -/
def Segment.addressed (x : Segment) (k : BurstKind) (a : Address) : Segment :=
  { x with rx := { x.rx with address := some (k, a), endsInMark := true } }

/-- The state with the address recorded, before it is handed on. -/
def State.addressed (s : State) (g : Seg) (k : BurstKind) (a : Address) : State := s.setSeg g ((s.seg g).addressed k a)

@[simp] theorem State.addressed_hm (s : State) (g : Seg) (k : BurstKind) (a : Address) : (s.addressed g k a).hm = s.hm := by
  simp [State.addressed]

@[simp] theorem State.addressed_sd (s : State) (g : Seg) (k : BurstKind) (a : Address) : (s.addressed g k a).sd = s.sd := by
  simp [State.addressed]

@[simp] theorem State.addressed_au (s : State) (g : Seg) (k : BurstKind) (a : Address) : (s.addressed g k a).au = s.au := by
  simp [State.addressed]

@[simp] theorem State.entry_addressed (s : State) (g : Seg) (k : BurstKind) (a b : Address) :
    (s.addressed g k a).entry b = s.entry b := by
  simp [State.addressed]

@[simp] theorem State.object_addressed (s : State) (g : Seg) (k : BurstKind) (a : Address) (o : ObjectId) :
    (s.addressed g k a).object o = s.object o :=
  State.object_congr (by simp) o

theorem State.addressed_trunk (s : State) (g : Seg) (k : BurstKind) (a : Address) : TrunkAlone s (s.addressed g k a) :=
  .setSeg s g _

@[simp] theorem State.seg_addressed (s : State) (g : Seg) (k : BurstKind) (a : Address) :
    (s.addressed g k a).seg g = (s.seg g).addressed k a := State.seg_setSeg ..

/-- The address character of a burst, taken by a receiver that awaits it on segment A. -/
theorem State.addressTaken_a (htx : (s.seg .a).tx = .idle) (haw : (s.seg .a).rx.awaitsAddress = true)
    (hwatch : k = .reply → (s.seg .a).watch = none) :
    s.addressTaken .a k a quiet = (s.addressed .a k a).forwardToB k a quiet := by
  unfold State.addressTaken
  dsimp only
  rw [if_pos (by rw [Segment.takesBits_of_idle htx, haw]; rfl)]
  split
  next hk =>
    have hnone : ((s.addressed .a k a).seg .a).watch = none := (congrArg Segment.watch (s.seg_addressed .a k a)).trans (hwatch hk)
    have hresolve : (s.addressed .a k a).resolveWatch .a a = s.addressed .a k a := by
      unfold State.resolveWatch
      rw [hnone]
    exact congrArg (·.forwardToB k a quiet) hresolve
  next => rfl

/-- The same on segment B, where no probe awaits a reply. -/
theorem State.addressTaken_b (htx : (s.seg .b).tx = .idle) (haw : (s.seg .b).rx.awaitsAddress = true)
    (hwatch : k = .reply → (s.seg .b).watch = none ∧ ∀ w kind b, s.hm.probe ≠ some ⟨.awaiting w, kind, b⟩) :
    s.addressTaken .b k a quiet = (s.addressed .b k a).forwardToA k a (s.awaitsReply a) quiet := by
  unfold State.addressTaken
  dsimp only
  rw [if_pos (by rw [Segment.takesBits_of_idle htx, haw]; rfl)]
  split
  next hk =>
    obtain ⟨hw, hprobe⟩ := hwatch hk
    have hnone : ((s.addressed .b k a).seg .b).watch = none := (congrArg Segment.watch (s.seg_addressed .b k a)).trans hw
    have hresolve : (s.addressed .b k a).resolveWatch .b a = s.addressed .b k a := by
      unfold State.resolveWatch
      rw [hnone]
    have hsees : (s.addressed .b k a).probeSees a = s.addressed .b k a := by
      unfold State.probeSees
      split
      next w kind t e => exact absurd (s.addressed_hm .b k a ▸ e) (hprobe w kind t)
      next => rfl
    exact congrArg (·.forwardToA k a (s.awaitsReply a) quiet) ((congrArg (·.probeSees a) hresolve).trans hsees)
  next => rfl

/-! ### The conditions (R12, R32, R33) -/

theorem State.replyConflicts_iff : s.replyConflicts g a = true ↔
    (s.entry a).origin = .static ∧ (s.entry a).location ≠ .none ∧ (s.entry a).location ≠ segLocation g ∨
      (s.entry a).origin = .learned ∧ (s.entry a).location ≠ segLocation g ∧ (s.object (.station a)).state = .isolated := by
  unfold State.replyConflicts
  dsimp only
  cases (s.entry a).origin <;> simp

theorem State.shownIsolated_congr (hh : t.hm = s.hm) (hd : t.sd = s.sd) (a : Address) : t.shownIsolated a = s.shownIsolated a := by
  unfold State.shownIsolated State.shownObject
  rw [State.entry_congr hd, State.object_congr hh]

theorem State.mayForwardToB_iff : s.mayForwardToB k a = true ↔
    s.segBIsolated = false ∧ s.ti.segA.profile = s.ti.segB.profile ∧ s.shownIsolated a = false ∧
      (k ≠ .reply →
        s.ti.segA.profile.mode = .flood ∨ (s.entry a).location = .segB ∨ (s.entry a).location = .none) ∧
      (k = .reply → s.ti.segA.profile.mode = .flood ∧ ¬ s.replyConflicts .a a = true) := by
  unfold State.mayForwardToB State.sameProfile
  simp only [Bool.and_eq_true, Bool.not_eq_true', beq_iff_eq, and_assoc]
  cases s.ti.segA.profile.mode <;> cases k <;> simp

theorem State.mayForwardToA_iff {awaited : Bool} (h : k = .reply → awaited = false) : s.mayForwardToA k a awaited = true ↔
    s.segBIsolated = false ∧ s.ti.segA.profile = s.ti.segB.profile ∧ s.shownIsolated a = false ∧
      (k = .reply → ¬ s.replyConflicts .b a = true) ∧ (k ≠ .reply → s.ti.segB.profile.mode = .flood) := by
  unfold State.mayForwardToA State.sameProfile
  simp only [Bool.and_eq_true, Bool.not_eq_true', beq_iff_eq, and_assoc]
  cases k <;> simp_all

/-! ### The forwarding of a burst now (R29, R30, R31) -/

/-- The transmitter of a segment takes a burst. -/
def Segment.freeFor (x : Segment) (quiet : Nat) : Prop := x.tx = .idle ∧ x.activity = none ∧ 1 ≤ quiet ∧ x.copy = none

theorem Segment.freeFor_iff {x : Segment} : (x.copy.isNone && x.available quiet) = true ↔ x.freeFor quiet := by
  simp [Segment.freeFor, Segment.available, and_assoc, and_comm, and_left_comm]

theorem State.forwardNow_of_free (h : (s.seg g).freeFor quiet) :
    s.forwardNow g k a quiet = s.setSeg g ((s.seg g).beginCopy (Copy.ofAddress k a)) := if_pos (Segment.freeFor_iff.mpr h)

theorem State.forwardNow_of_not_free (h : ¬ (s.seg g).freeFor quiet) : s.forwardNow g k a quiet = s.chargeConflict g.other :=
  if_neg (fun e => h (Segment.freeFor_iff.mp e))

theorem State.charged_addressed (s : State) (g : Seg) (k : BurstKind) (a : Address) (o : ObjectId) (w : Byte) :
    (s.addressed g k a).charged o w = s.charged o w := State.charged_congr (by simp) (by simp) o w

/-- Settles O30: the address is recorded, and then the burst goes over at once, is a CONFLICT, or stays. -/
theorem repliesAreForwardedToSegmentA : Obligations.RepliesAreForwardedToSegmentA := by
  intro k a quiet s htx haw hquiet conflicts passes free
  have hrun : exec (.addressCharacterTaken .b k a quiet) s =
      .next ((s.addressed .b k a).forwardToA k a (s.awaitsReply a) quiet) :=
    congrArg Host.Outcome.next (State.addressTaken_b htx haw hquiet)
  have hawaits : k = .reply → s.awaitsReply a = false := fun hk => by
    obtain ⟨-, hprobe⟩ := hquiet hk
    unfold State.awaitsReply
    split
    next w kind t e => exact absurd e (hprobe w kind t)
    next => rfl
  have hmay : (s.addressed .b k a).mayForwardToA k a (s.awaitsReply a) = true ↔ passes := by
    rw [State.mayForwardToA_iff hawaits, State.replyConflicts_iff, State.shownIsolated_congr (s.addressed_hm ..) (s.addressed_sd ..),
      State.entry_addressed, State.object_addressed]
    rfl
  have hfree : ((s.addressed .b k a).seg .a).freeFor quiet ↔ free := Iff.rfl
  by_cases hp : passes
  · rw [State.forwardToA, if_pos (hmay.mpr hp)] at hrun
    by_cases hf : free
    · rw [State.forwardNow_of_free (hfree.mpr hf)] at hrun
      exact ⟨_, hrun, rfl, fun h => absurd hp h, fun _ _ => rfl, fun _ _ => ⟨rfl, rfl, rfl, rfl, rfl⟩, fun _ h => absurd hf h, rfl⟩
    · rw [State.forwardNow_of_not_free (fun h => hf (hfree.mp h))] at hrun
      have ⟨hnot, _⟩ := hp
      have hnot1 : (s.addressed .b k a).segBIsolated = false := hnot
      have hcharges := (s.addressed .b k a).chargeSegment_charges .b s.hm.weights.conflict
      refine ⟨_, hrun, ?_, fun h => absurd hp h, fun _ h => absurd h hf, fun _ h => absurd h hf, fun _ _ => ⟨?_, fun o ho => ?_,
        fun hstays => ?_, fun hcut => ?_⟩, (s.addressed_trunk .b k a).trans hcharges.alone⟩
      · exact congrArg TrunkRx.address (hcharges.eased .b).rx
      · exact (State.object_chargeSegment _ .b _ _).trans ((if_pos rfl).trans (s.charged_addressed ..))
      · exact (State.object_chargeSegment _ .b _ _).trans ((if_neg (by simpa using ho)).trans (s.object_addressed ..))
      · exact (State.chargeSegment_b_scores (hstays.trans hnot1.symm)).ti
      · obtain ⟨u, hu, he⟩ := State.chargeSegment_b_cut hnot1 hcut
        have h := u.cutSegmentB_segA
        rw [← he, hu.ti] at h
        exact h
  · rw [State.forwardToA, if_neg (fun h => hp (hmay.mp h))] at hrun
    exact ⟨_, hrun, rfl, fun _ => ⟨rfl, rfl, rfl⟩, fun h => absurd h hp, fun h => absurd h hp, fun h => absurd h hp, rfl⟩

end Sys2Proof.Machine
end

section
/-! PROOF. A burst on segment A on its way to segment B, by the state of the probe scheduler (R29, R30, R32, R154). -/

namespace Sys2Proof.Machine

variable {s t : State} {k : BurstKind} {a : Address} {quiet : Nat}

/-- A CONFLICT against segment A (R29) is charged, and changes scores and reports alone. -/
theorem State.chargeConflict_a {u : State} (hw : u.hm.weights = s.hm.weights)
    (hc : u.charged (.segment .a) s.hm.weights.conflict = s.charged (.segment .a) s.hm.weights.conflict)
    (ho : ∀ o, u.object o = s.object o) :
    ScoresAlone u (u.chargeConflict .a) ∧
    (u.chargeConflict .a).object (.segment .a) = s.charged (.segment .a) s.hm.weights.conflict ∧
    ObjectsKeptBut s (u.chargeConflict .a) [.segment .a] := by
  refine ⟨u.chargeSegment_a_scores _, ?_, fun o hne => ?_⟩
  · rw [State.chargeConflict, State.object_chargeSegment, if_pos rfl, hw, hc]
  · rw [State.chargeConflict, State.object_chargeSegment, if_neg (by simpa using hne), ho]

/-- Settles O29: the conditions first, then the state of the probe. -/
theorem pollsAreForwardedToSegmentB : Obligations.PollsAreForwardedToSegmentB := by
  intro k a quiet s hwatch htx haw conflicts passes free begins dropped probing
  let r := s.addressed .a k a
  have hrun : exec (.addressCharacterTaken .a k a quiet) s = .next (r.forwardToB k a quiet) :=
    congrArg Host.Outcome.next (State.addressTaken_a htx haw hwatch)
  have hmay : r.mayForwardToB k a = true ↔ passes := by
    rw [State.mayForwardToB_iff, State.replyConflicts_iff, State.shownIsolated_congr (s.addressed_hm ..) (s.addressed_sd ..),
      State.entry_addressed, State.object_addressed]
    rfl
  have hfree : (r.seg .b).freeFor quiet ↔ free := Iff.rfl
  have hprobe : r.hm.probe = s.hm.probe := rfl
  -- a drop, with the probe as it was or abandoned
  have hdrop (p : Option Probe) : let u := { r with hm := { r.hm with probe := p } }
      ScoresAlone u (u.chargeConflict .a) ∧ dropped (u.chargeConflict .a) := by
    intro u
    obtain ⟨halone, hseg, hkept⟩ := State.chargeConflict_a (s := s) (u := u) rfl rfl fun o => by
      rcases o with (_ | _) | n | b <;> rfl
    exact ⟨halone, hseg, hkept, by rw [halone.ti]; rfl⟩
  have hframe {u v : State} (hu : u = { r with hm := u.hm }) (hv : ScoresAlone u v) :
      v.ti.segA = { s.ti.segA with rx := { s.ti.segA.rx with address := some (k, a), endsInMark := true } } ∧
      v = { s with ti := { s.ti with segA := v.ti.segA, segB := v.ti.segB }, hm := v.hm, au := v.au } := by
    have hti : v.ti = r.ti := by rw [hv.ti, hu]
    refine ⟨by rw [hti]; rfl, ?_⟩
    unfold ScoresAlone at hv
    rw [hv, hu]
    rfl
  -- what the outcome of each probe state is
  have hnow (p : Option Probe) : let u := { r with hm := { r.hm with probe := p } }
      let v := u.forwardNow .b k a quiet
      v.ti.segA = { s.ti.segA with rx := { s.ti.segA.rx with address := some (k, a), endsInMark := true } } ∧
      v = { s with ti := { s.ti with segA := v.ti.segA, segB := v.ti.segB }, hm := v.hm, au := v.au } ∧
      v.hm.probe = p ∧ if free then begins v ∧ v.hm = { s.hm with probe := p } else dropped v := by
    intro u v
    by_cases hf : free
    · have hv : v = u.setSeg .b ((u.seg .b).beginCopy (Copy.ofAddress k a)) := State.forwardNow_of_free (hfree.mpr hf)
      rw [hv, if_pos hf]
      exact ⟨rfl, rfl, rfl, ⟨rfl, rfl, rfl, rfl⟩, rfl⟩
    · have hv : v = u.chargeConflict .a := State.forwardNow_of_not_free (fun h => hf (hfree.mp h))
      obtain ⟨halone, hd⟩ := hdrop p
      obtain ⟨hsegA, hall⟩ := hframe (u := u) rfl halone
      rw [hv, if_neg hf]
      exact ⟨hsegA, hall, halone.probe, hd⟩
  by_cases hp : passes
  · rw [State.forwardToB, if_pos (hmay.mpr hp), hprobe] at hrun
    have hhere := hnow s.hm.probe
    have hhold := hdrop s.hm.probe
    have hsame : { r with hm := { r.hm with probe := s.hm.probe } } = r := rfl
    rw [hsame] at hhere hhold
    cases hs : s.hm.probe with
    | none =>
      rw [hs] at hrun
      have hno {pr} (e : s.hm.probe = some pr) : False := by simp [hs] at e
      obtain ⟨hsegA, hall, hpr, hout⟩ := hhere
      exact ⟨_, hrun, hsegA, hall, fun h => absurd hp h, fun _ _ => ⟨hpr.trans hs, hout⟩, fun _ ⟨_, e, _⟩ => (hno e).elim,
        fun _ ⟨_, e, _⟩ => (hno e).elim, fun _ ⟨_, e, _⟩ => (hno e).elim⟩
    | some pr =>
      obtain ⟨ph, kind, b⟩ := pr
      have hph (P : ProbePhase → Prop) : probing P ↔ P ph := by simp [probing, hs]
      have hsome : ¬ s.hm.probe = none := by simp [hs]
      rw [hs] at hrun
      simp only [hph, reduceCtorEq, false_or]
      cases ph with
      | pending =>
        obtain ⟨hsegA, hall, hpr, hout⟩ := hhere
        exact ⟨_, hrun, hsegA, hall, fun h => absurd hp h, fun _ _ => ⟨hpr.trans hs, hout⟩, nofun, nofun, nofun⟩
      | sending =>
        by_cases hc : s.ti.segB.copy = none
        · have hstep : r.holdForward k a = r.setSeg .b { r.ti.segB with copy := some (Copy.ofAddress k a) } :=
            if_pos (by rw [show r.ti.segB.copy = none from hc]; rfl)
          refine ⟨_, hrun.trans (congrArg Host.Outcome.next hstep), rfl, rfl, fun h => absurd hp h, nofun, fun _ _ => ⟨hs, ?_⟩, nofun,
            nofun⟩
          rw [if_pos hc]
          exact ⟨rfl, rfl, rfl⟩
        · have hstep : r.holdForward k a = r.chargeConflict .a := if_neg (fun e => hc (Option.isNone_iff_eq_none.mp e))
          obtain ⟨halone, hd⟩ := hhold
          obtain ⟨hsegA, hall⟩ := hframe (u := r) rfl halone
          refine ⟨_, hrun.trans (congrArg Host.Outcome.next hstep), hsegA, hall, fun h => absurd hp h, nofun,
            fun _ _ => ⟨halone.probe.trans hs, ?_⟩, nofun, nofun⟩
          rw [if_neg hc]
          exact hd
      | awaiting w =>
        obtain ⟨hsegA, hall, hpr, hout⟩ := hnow none
        exact ⟨_, hrun, hsegA, hall, fun h => absurd hp h, nofun, nofun, fun _ _ => ⟨hpr, hout⟩, nofun⟩
      | replyIn =>
        obtain ⟨halone, hd⟩ := hhold
        obtain ⟨hsegA, hall⟩ := hframe (u := r) rfl halone
        exact ⟨_, hrun, hsegA, hall, fun h => absurd hp h, nofun, nofun, nofun, fun _ _ => ⟨halone.probe.trans hs, hd⟩⟩
  · rw [State.forwardToB, if_neg (fun h => hp (hmay.mp h))] at hrun
    exact ⟨_, hrun, rfl, rfl, fun _ => ⟨rfl, rfl, rfl⟩, fun h => absurd h hp, fun h => absurd h hp, fun h => absurd h hp,
      fun h => absurd h hp⟩

end Sys2Proof.Machine
end

section
/-! PROOF. The watches (R27, R36, R37): what a receiver has taken plays no part in a charge, so that a miss may be charged before or after the
address is recorded. -/

namespace Sys2Proof.Machine

variable {s t : State} {g : Seg} {k : BurstKind} {a : Address} {quiet : Nat} {f : TrunkRx → TrunkRx} {o : ObjectId}

/-! ### A charge does not read what a receiver has taken -/

/-- What the receiver of a segment has taken is changed. -/
def State.mapRx (s : State) (g : Seg) (f : TrunkRx → TrunkRx) : State := s.setSeg g { s.seg g with rx := f (s.seg g).rx }

theorem State.mapRx_ti_field {α : Type} (p : Segment → α) (hp : ∀ x r, p { x with rx := r } = p x) (k : Seg) :
    p ((s.mapRx g f).seg k) = p (s.seg k) := by
  cases g <;> cases k
  · exact hp _ _
  · rfl
  · rfl
  · exact hp _ _

theorem State.setObject_mapRx (x : HealthObject) : (s.mapRx g f).setObject o x = (s.setObject o x).mapRx g f := by
  rcases o with (_ | _) | n | b <;> cases g <;> rfl

theorem State.reportObject_mapRx (d : HealthDetail) (p : PortState) :
    (s.mapRx g f).reportObject o d p = (s.reportObject o d p).mapRx g f := by
  rcases o with (_ | _) | n | b <;> cases g <;> rfl

theorem State.setProbe_mapRx (p : Option Probe) : (s.mapRx g f).setProbe p = (s.setProbe p).mapRx g f := by cases g <;> rfl

theorem State.setGate_mapRx (b : Bool) : (s.mapRx g f).setGate b = (s.setGate b).mapRx g f := by cases g <;> rfl

theorem State.stopCopy_mapRx (h : Seg) : (s.mapRx g f).stopCopy h = (s.stopCopy h).mapRx g f := by cases g <;> cases h <;> rfl

theorem State.disarm_mapRx (h : Seg) : (s.mapRx g f).setSeg h { (s.mapRx g f).seg h with watch := none } =
    (s.setSeg h { s.seg h with watch := none }).mapRx g f := by cases g <;> cases h <;> rfl

theorem State.disarmStation_mapRx (h : Seg) (b : Address) :
    (s.mapRx g f).disarmStation h b = (s.disarmStation h b).mapRx g f := by
  have hw : ((s.mapRx g f).seg h).watch = (s.seg h).watch := State.mapRx_ti_field Segment.watch (fun _ _ => rfl) h
  unfold State.disarmStation
  dsimp only
  rw [hw]
  split
  · exact State.disarm_mapRx h
  · rfl

theorem State.abandonStationProbe_mapRx : (s.mapRx g f).abandonStationProbe = s.abandonStationProbe.mapRx g f := by
  have hp : (s.mapRx g f).hm.probe = s.hm.probe := by cases g <;> rfl
  unfold State.abandonStationProbe
  rw [hp]
  split <;> cases g <;> rfl

theorem State.takeUpBoth_mapRx : (s.mapRx g f).takeUpBoth = s.takeUpBoth.mapRx g f := by
  rw [State.takeUpBoth_eq, State.takeUpBoth_eq]
  cases g <;> rfl

theorem State.cutSegmentB_mapRx : (s.mapRx g f).cutSegmentB = s.cutSegmentB.mapRx g f := by
  unfold State.cutSegmentB
  dsimp only
  rw [State.stopCopy_mapRx, State.stopCopy_mapRx, State.abandonStationProbe_mapRx]
  generalize ((s.stopCopy .a).stopCopy .b).abandonStationProbe = u
  have hsent : ∀ v : State, (v.mapRx g f).segmentProbeSending = v.segmentProbeSending := fun v => by cases g <;> rfl
  have hdisarm := State.disarm_mapRx (s := u) (g := g) (f := f) .b
  rw [State.seg_b, State.seg_b] at hdisarm
  rw [hdisarm, hsent, State.setGate_mapRx, State.takeUpBoth_mapRx]

theorem State.restoreSegmentB_mapRx : (s.mapRx g f).restoreSegmentB = s.restoreSegmentB.mapRx g f := by
  have hp : (s.mapRx g f).hm.probe = s.hm.probe := by cases g <;> rfl
  unfold State.restoreSegmentB
  dsimp only
  rw [hp, State.setGate_mapRx]
  split
  · exact State.setProbe_mapRx none
  · rfl

theorem State.restoreStation_mapRx (b : Address) : (s.mapRx g f).restoreStation b = (s.restoreStation b).mapRx g f := by
  have hp : (s.mapRx g f).hm.probe = s.hm.probe := by cases g <;> rfl
  unfold State.restoreStation
  rw [hp]
  split
  · exact State.setProbe_mapRx none
  · rfl

theorem State.isolationOrder_mapRx (ho : ∀ n, o ≠ .port n) : (s.mapRx g f).isolationOrder o = (s.isolationOrder o).mapRx g f := by
  rcases o with (_ | _) | n | b
  · rfl
  · exact State.cutSegmentB_mapRx
  · exact absurd rfl (ho n)
  · show ((s.mapRx g f).disarmStation .a b).disarmStation .b b = ((s.disarmStation .a b).disarmStation .b b).mapRx g f
    rw [State.disarmStation_mapRx, State.disarmStation_mapRx]

theorem State.readmissionOrder_mapRx (ho : ∀ n, o ≠ .port n) :
    (s.mapRx g f).readmissionOrder o = (s.readmissionOrder o).mapRx g f := by
  rcases o with (_ | _) | n | b
  · rfl
  · exact State.restoreSegmentB_mapRx
  · exact absurd rfl (ho n)
  · exact State.restoreStation_mapRx b

@[simp] theorem State.object_mapRx : (s.mapRx g f).object o = s.object o := State.object_congr (by cases g <;> rfl) o

@[simp] theorem State.mapRx_hm : (s.mapRx g f).hm = s.hm := by cases g <;> rfl

@[simp] theorem State.entry_mapRx (b : Address) : (s.mapRx g f).entry b = s.entry b := by cases g <;> rfl

@[simp] theorem State.portStateOf_mapRx : (s.mapRx g f).portStateOf o = s.portStateOf o := by
  rcases o with (_ | _) | n | b <;> cases g <;> rfl

@[simp] theorem State.readmittedStateOf_mapRx : (s.mapRx g f).readmittedStateOf o = s.readmittedStateOf o := by
  rcases o with (_ | _) | n | b <;> cases g <;> rfl

@[simp] theorem State.effectiveMayIsolate_mapRx : (s.mapRx g f).effectiveMayIsolate o = s.effectiveMayIsolate o :=
  State.effectiveMayIsolate_congr (by simp) (by simp)

theorem State.evaluateMark_mapRx : (s.mapRx g f).evaluateMark o = (s.evaluateMark o).mapRx g f := by
  unfold State.evaluateMark
  simp only [State.object_mapRx, State.mapRx_hm, State.effectiveMayIsolate_mapRx, State.portStateOf_mapRx, State.setObject_mapRx,
    State.reportObject_mapRx]
  (repeat' split) <;> rfl

theorem State.evaluate_mapRx (ho : ∀ n, o ≠ .port n) : (s.mapRx g f).evaluate o = (s.evaluate o).mapRx g f := by
  unfold State.evaluate
  simp only [State.isolateObject_eq, State.readmitObject, State.object_mapRx, State.mapRx_hm, State.effectiveMayIsolate_mapRx,
    State.setObject_mapRx, State.portStateOf_mapRx, State.readmittedStateOf_mapRx, State.reportObject_mapRx,
    State.isolationOrder_mapRx ho, State.readmissionOrder_mapRx ho, State.evaluateMark_mapRx, State.bandOf]
  (repeat' split) <;> rfl

theorem State.addScore_mapRx (ho : ∀ n, o ≠ .port n) (w : Nat) : (s.mapRx g f).addScore o w = (s.addScore o w).mapRx g f := by
  unfold State.addScore
  rw [State.object_mapRx, State.setObject_mapRx, State.evaluate_mapRx ho]

theorem State.chargeStation_mapRx (b : Address) (w : Byte) :
    (s.mapRx g f).chargeStation b w = (s.chargeStation b w).mapRx g f := by
  unfold State.chargeStation
  rw [State.entry_mapRx]
  split
  · exact State.addScore_mapRx (o := .station b) nofun _
  · exact State.addScore_mapRx (o := .station b) nofun _
  · rfl

theorem State.pollMiss_mapRx (h : Seg) (b : Address) : (s.mapRx g f).pollMiss h b = (s.pollMiss h b).mapRx g f := by
  unfold State.pollMiss State.chargeSegment
  rw [State.mapRx_hm, State.chargeStation_mapRx, State.addScore_mapRx (o := .segment h) nofun]

end Sys2Proof.Machine
end

section
/-! PROOF. A watch is answered or missed (R27, R37). -/

namespace Sys2Proof.Machine

variable {s t : State} {g : Seg} {k : BurstKind} {a b : Address} {quiet : Nat}

/-- A watch is disarmed. -/
def State.disarm (s : State) (g : Seg) : State := s.setSeg g { s.seg g with watch := none }

@[simp] theorem State.disarm_hm (s : State) (g : Seg) : (s.disarm g).hm = s.hm := by simp [State.disarm]

@[simp] theorem State.disarm_sd (s : State) (g : Seg) : (s.disarm g).sd = s.sd := by simp [State.disarm]

@[simp] theorem State.seg_disarm (s : State) (g : Seg) : (s.disarm g).seg g = { s.seg g with watch := none } := State.seg_setSeg ..

theorem State.addressed_eq_mapRx (s : State) (g : Seg) (k : BurstKind) (a : Address) :
    s.addressed g k a = s.mapRx g fun r => { r with address := some (k, a), endsInMark := true } := rfl

theorem State.disarm_addressed (s : State) (g : Seg) (k : BurstKind) (a : Address) :
    (s.addressed g k a).disarm g = (s.disarm g).addressed g k a := by
  rw [State.addressed_eq_mapRx, State.addressed_eq_mapRx]
  exact State.disarm_mapRx g

/-- A miss is charged to the station and the segment alike before and after the address is recorded. -/
theorem State.pollMiss_addressed (s : State) (g h : Seg) (k : BurstKind) (a b : Address) :
    (s.addressed g k a).pollMiss h b = (s.pollMiss h b).addressed g k a := by
  rw [State.addressed_eq_mapRx, State.addressed_eq_mapRx, State.pollMiss_mapRx]

/-! ### What follows the watch at a REPLY address character -/

/-- What a REPLY address character of a station does once no watch is armed (R26). -/
def State.replyHandedOn (s : State) (g : Seg) (a : Address) (awaited : Bool) (quiet : Nat) : State :=
  match g with
  | .a => s.forwardToB .reply a quiet
  | .b => (s.probeSees a).forwardToA .reply a awaited quiet

theorem State.addressTaken_reply (htx : (s.seg g).tx = .idle) (haw : (s.seg g).rx.awaitsAddress = true) :
    s.addressTaken g .reply a quiet = ((s.addressed g .reply a).resolveWatch g a).replyHandedOn g a (s.awaitsReply a) quiet := by
  unfold State.addressTaken
  dsimp only
  rw [if_pos (by rw [Segment.takesBits_of_idle htx, haw]; rfl)]
  cases g <;> rfl

theorem State.resolveWatch_of_none (h : (s.seg g).watch = none) : s.resolveWatch g a = s := by
  unfold State.resolveWatch
  rw [h]

theorem State.resolveWatch_of_some {w : Watch} (h : (s.seg g).watch = some w) :
    s.resolveWatch g a = if w.station = a then s.disarm g else (s.disarm g).pollMiss g w.station := by
  unfold State.resolveWatch
  rw [h]
  rfl

/-- A REPLY address character where no watch is armed. -/
theorem State.addressTaken_unwatched (htx : (s.seg g).tx = .idle) (haw : (s.seg g).rx.awaitsAddress = true)
    (hw : (s.seg g).watch = none) :
    s.addressTaken g .reply a quiet = (s.addressed g .reply a).replyHandedOn g a (s.awaitsReply a) quiet := by
  rw [State.addressTaken_reply htx haw, State.resolveWatch_of_none]
  rw [State.seg_addressed]
  exact hw

/-- The same where one is armed: it is disarmed first, as a miss unless the station is the watched one (R37). -/
theorem State.addressTaken_watched {w : Watch} (htx : (s.seg g).tx = .idle) (haw : (s.seg g).rx.awaitsAddress = true)
    (hw : (s.seg g).watch = some w) : s.addressTaken g .reply a quiet =
      ((if w.station = a then s.disarm g else (s.disarm g).pollMiss g w.station).addressed g .reply a).replyHandedOn g a
        (s.awaitsReply a) quiet := by
  rw [State.addressTaken_reply htx haw, State.resolveWatch_of_some (w := w) (by rw [State.seg_addressed]; exact hw),
    State.disarm_addressed]
  split
  · rfl
  · rw [State.pollMiss_addressed]

/-! ### A miss and the probe exchange -/

theorem State.awaitsReply_congr (h : t.hm.probe = s.hm.probe) (a : Address) : t.awaitsReply a = s.awaitsReply a := by
  unfold State.awaitsReply
  rw [h]

/-- A station's charge leaves an exchange alone: its order reaches a PENDING one only (R141, R152). -/
theorem State.chargeStation_probe {w : Byte} {p : Probe} (h : s.hm.probe = some p) (hp : p.phase ≠ .pending) :
    (s.chargeStation b w).hm.probe = s.hm.probe := by
  have hscore : (s.addScore (.station b) w.toNat).hm.probe = s.hm.probe := by
    obtain ⟨u, hu, ⟨e, -⟩ | ⟨-, -, e⟩ | ⟨-, -, e⟩⟩ := s.addScore_ordered (.station b) w.toNat
    · rw [e, hu.probe]
    · rw [e]
      exact (congrArg HealthMonitor.probe (State.cutStation_hm u b)).trans hu.probe
    · have hkept : u.readmissionOrder (.station b) = u :=
        if_neg (by rw [hu.probe, h]; exact fun e => hp (by rw [Option.some.inj e]))
      rw [e, hkept, hu.probe]
  unfold State.chargeStation
  split
  · exact hscore
  · exact hscore
  · rfl

/-- A segment's charge ends an exchange in AWAITING only by isolating segment B (R34, R152). -/
theorem State.chargeSegment_awaiting {w : Byte} {n : Nat} {kind : ProbeKind} {d : Address}
    (h : s.hm.probe = some ⟨.awaiting n, kind, d⟩) :
    (s.chargeSegment g w).hm.probe = s.hm.probe ∨ (s.chargeSegment g w).segBIsolated = true := by
  obtain ⟨u, hu, ⟨e, -⟩ | ⟨-, hi, e⟩ | ⟨-, -, e⟩⟩ := s.chargeSegment_ordered g w
  · exact .inl (by rw [e, hu.probe])
  · cases g with
    | a => exact .inl (by rw [e]; exact hu.probe)
    | b => exact .inr (State.segBIsolated_iff.mpr hi)
  · cases g with
    | a => exact .inl (by rw [e]; exact hu.probe)
    | b =>
      have hkept : u.restoreSegmentB.hm.probe = u.hm.probe := by
        unfold State.restoreSegmentB
        rw [hu.probe, h]
        exact hu.probe.trans h
      exact .inl (by rw [e]; exact hkept.trans hu.probe)

/-- After a miss the same reply is awaited, or segment B is ISOLATED and none is. -/
theorem State.pollMiss_awaits (s : State) (g : Seg) (b a : Address) : (s.pollMiss g b).awaitsReply a = s.awaitsReply a ∨
    (s.pollMiss g b).segBIsolated = true ∧ (s.pollMiss g b).hm.probe = none := by
  obtain hkept | hover := (s.pollMiss_charges g b).probe
  · exact .inl (State.awaitsReply_congr hkept a)
  · by_cases haw : ∃ n kind d, s.hm.probe = some ⟨.awaiting n, kind, d⟩
    · obtain ⟨n, kind, d, hp⟩ := haw
      have hstation := State.chargeStation_probe (b := b) (w := s.hm.weights.stationPollMiss) hp nofun
      obtain h | h := State.chargeSegment_awaiting (g := g) (w := s.hm.weights.segmentPollMiss) (hstation.trans hp)
      · exact .inl (State.awaitsReply_congr (h.trans hstation) a)
      · exact .inr ⟨h, hover⟩
    · refine .inl ?_
      have hnone : ∀ {u : State}, (¬ ∃ n kind d, u.hm.probe = some ⟨.awaiting n, kind, d⟩) → u.awaitsReply a = false := by
        intro u hu
        unfold State.awaitsReply
        split
        next n kind d e => exact absurd ⟨n, kind, d, e⟩ hu
        next => rfl
      rw [hnone haw, hnone (by rw [hover]; simp)]

/-- Whether a reply is awaited matters only while segment B is not ISOLATED (R33). -/
theorem State.replyHandedOn_awaited {x y : Bool} (h : x = y ∨ s.segBIsolated = true ∧ s.hm.probe = none) :
    s.replyHandedOn g a x quiet = s.replyHandedOn g a y quiet := by
  obtain rfl | ⟨hi, hp⟩ := h
  · rfl
  · cases g with
    | a => rfl
    | b =>
      have hsees : s.probeSees a = s := by
        unfold State.probeSees
        rw [hp]
      have hnot (z : Bool) : s.forwardToA .reply a z quiet = s := if_neg (by simp [State.mayForwardToA, hi])
      unfold State.replyHandedOn
      rw [hsees, hnot, hnot]

/-! ### The clauses of the statement -/

/-- A REPLY address character at an armed watch goes on as one that finds none, after the watch is answered or has expired (R37). -/
theorem addressCharacterTaken_watched {w : Watch} (htx : (s.seg g).tx = .idle) (haw : (s.seg g).rx.awaitsAddress = true)
    (hw : (s.seg g).watch = some w) :
    (w.station = a → exec (.addressCharacterTaken g .reply a quiet) s =
      exec (.addressCharacterTaken g .reply a quiet) (s.setSeg g { s.seg g with watch := none })) ∧
    (w.station ≠ a → ∃ t, exec (.pollMissWindowExpiry g) s = .next t ∧
      exec (.addressCharacterTaken g .reply a quiet) s = exec (.addressCharacterTaken g .reply a quiet) t) := by
  have hwatched := State.addressTaken_watched (a := a) (quiet := quiet) htx haw hw
  refine ⟨fun ha => ?_, fun ha => ⟨(s.disarm g).pollMiss g w.station, ?_, ?_⟩⟩
  · rw [if_pos ha] at hwatched
    refine congrArg Host.Outcome.next (hwatched.trans ?_)
    have hunwatched := State.addressTaken_unwatched (s := s.disarm g) (a := a) (quiet := quiet) (g := g) (by simpa using htx)
      (by simpa using haw) (by simp)
    rw [State.awaitsReply_congr (s := s) (by simp)] at hunwatched
    exact hunwatched.symm
  · have hstep : exec (.pollMissWindowExpiry g) s = .next (match (s.seg g).watch with
        | none => s
        | some w => (s.setSeg g { s.seg g with watch := none }).pollMiss g w.station) := rfl
    rw [hstep, hw]
    rfl
  · rw [if_neg ha] at hwatched
    refine congrArg Host.Outcome.next (hwatched.trans ?_)
    have heased := ((s.disarm g).pollMiss_charges g w.station).eased g
    rw [State.seg_disarm] at heased
    rw [State.addressTaken_unwatched (heased.idle htx) (by rw [heased.rx]; exact haw) (heased.no_watch rfl)]
    refine State.replyHandedOn_awaited ?_
    obtain h | ⟨hi, hp⟩ := (s.disarm g).pollMiss_awaits g w.station a
    · exact .inl ((State.awaitsReply_congr (by simp) a).trans h.symm)
    · exact .inr ⟨(State.segBIsolated_congr (by simp)).trans hi, by rw [State.addressed_hm]; exact hp⟩

theorem State.disarm_charged (s : State) (g : Seg) (o : ObjectId) (w : Byte) : (s.disarm g).charged o w = s.charged o w :=
  State.charged_congr (by simp) (by simp) o w

theorem State.disarm_chargedStation (s : State) (g : Seg) (b : Address) (w : Byte) :
    (s.disarm g).chargedStation b w = s.chargedStation b w := by
  unfold State.chargedStation
  rw [State.entry_congr (s.disarm_sd g), s.disarm_charged, State.object_congr (s.disarm_hm g)]

/-- A missed watch charges its station and the segment, each by its weight (R27, R129). -/
theorem State.missed_objects (s : State) (g : Seg) (b : Address) :
    ((s.disarm g).pollMiss g b).object (.station b) = s.chargedStation b s.hm.weights.stationPollMiss ∧
    ((s.disarm g).pollMiss g b).object (.segment g) = s.charged (.segment g) s.hm.weights.segmentPollMiss ∧
    ObjectsKeptBut s ((s.disarm g).pollMiss g b) [.station b, .segment g] := by
  refine ⟨?_, ?_, fun o ho => ?_⟩
  · rw [State.object_pollMiss, if_neg nofun, if_pos rfl, s.disarm_chargedStation, s.disarm_hm]
  · rw [State.object_pollMiss, if_pos rfl, s.disarm_charged, s.disarm_hm]
  · simp only [List.mem_cons, List.not_mem_nil, or_false, not_or] at ho
    rw [State.object_pollMiss, if_neg ho.2, if_neg ho.1, State.object_congr (s.disarm_hm g)]

/-- A miss on segment A leaves the profile, the one thing of the lines on which the forwarding of a reply hangs (R32). -/
theorem State.pollMiss_a_profile (s : State) (b : Address) : (s.pollMiss .a b).ti.segA.profile = s.ti.segA.profile := by
  have hstation : (s.chargeStation b s.hm.weights.stationPollMiss).ti.segA.profile = s.ti.segA.profile := by
    have hscore (w : Nat) : (s.addScore (.station b) w).ti.segA.profile = s.ti.segA.profile := by
      obtain ⟨u, hu, ⟨e, -⟩ | ⟨-, -, e⟩ | ⟨-, -, e⟩⟩ := s.addScore_ordered (.station b) w
      · rw [e, hu.ti]
      · have hdisarm (v : State) (h : Seg) : (v.disarmStation h b).ti.segA.profile = v.ti.segA.profile := by
          unfold State.disarmStation
          dsimp only
          split
          · cases h <;> rfl
          · rfl
        rw [e]
        exact (hdisarm _ .b).trans ((hdisarm _ .a).trans (by rw [hu.ti]))
      · have hrestore : (u.readmissionOrder (.station b)).ti = u.ti := by
          show (u.restoreStation b).ti = u.ti
          rw [u.restoreStation_eq]
        rw [e, hrestore, hu.ti]
    unfold State.chargeStation
    split
    · exact hscore _
    · exact hscore _
    · rfl
  exact (congrArg (·.segA.profile) (State.chargeSegment_a_scores _ _).ti).trans hstation

/-- In FILTERED mode segment A's replies stay there (R32). -/
theorem State.replyHandedOn_filtered {x : Bool} (h : s.ti.segA.profile.mode = .filtered) : s.replyHandedOn .a a x quiet = s :=
  if_neg (by simp [State.mayForwardToB, h])

/-- Settles O31: the watch is the first to see a REPLY address character, and its expiry is a miss. -/
theorem watchesAreResolved : Obligations.WatchesAreResolved := by
  refine ⟨fun a w quiet s htx haw hw hmode => ?filtered, fun g a w quiet s htx haw hw => addressCharacterTaken_watched htx haw hw,
    fun g w s hw => ?expiry⟩
  case filtered =>
    have hrun := State.addressTaken_watched (a := a) (quiet := quiet) htx haw hw
    by_cases ha : w.station = a
    · rw [if_pos ha, State.replyHandedOn_filtered (by exact hmode)] at hrun
      exact ⟨_, congrArg Host.Outcome.next hrun, rfl, rfl, fun _ => ⟨rfl, rfl, rfl⟩, fun h => absurd ha h, rfl⟩
    · have hcharges := (s.disarm .a).pollMiss_charges .a w.station
      have hprofile : ((s.disarm .a).pollMiss .a w.station).ti.segA.profile = s.ti.segA.profile :=
        State.pollMiss_a_profile (s.disarm .a) w.station
      obtain ⟨hstation, hsegment, hkept⟩ := s.missed_objects .a w.station
      have heased := hcharges.eased .a
      rw [if_neg ha, State.replyHandedOn_filtered (by exact (congrArg TrunkProfile.mode hprofile).trans hmode)] at hrun
      refine ⟨_, congrArg Host.Outcome.next hrun, ?_, rfl, fun h => absurd h ha, fun _ => ⟨?_, ?_, fun o ho => ?_⟩, ?_⟩
      · exact heased.no_watch rfl
      · rw [State.object_addressed, hstation]
      · rw [State.object_addressed, hsegment]
      · rw [State.object_addressed, hkept o ho]
      · exact ((TrunkAlone.setSeg s .a _).trans hcharges.alone).trans (State.addressed_trunk _ .a .reply a)
  case expiry =>
    have hcharges := (s.disarm g).pollMiss_charges g w.station
    obtain ⟨hstation, hsegment, hkept⟩ := s.missed_objects g w.station
    have hrun : exec (.pollMissWindowExpiry g) s = .next ((s.disarm g).pollMiss g w.station) := by
      have hstep : exec (.pollMissWindowExpiry g) s = .next (match (s.seg g).watch with
          | none => s
          | some w => (s.setSeg g { s.seg g with watch := none }).pollMiss g w.station) := rfl
      rw [hstep, hw]
      rfl
    refine ⟨_, hrun, (hcharges.eased g).no_watch (by rw [State.seg_disarm]), hstation, hsegment, hkept,
      ((ChargesOnly.disarm s g).trans hcharges).settings, (TrunkAlone.setSeg s g _).trans hcharges.alone⟩

end Sys2Proof.Machine
end

section
/-! PROOF. A jabber event (R24, R35, R148): the copy of the burst is cut, and the segment is charged. -/

namespace Sys2Proof.Machine

variable {s t : State} {g : Seg} {a : Address}

/-! ### The arming of a watch (R36, R37) -/

/-- The armed watch of a segment, if any, is resolved as a miss (R37). -/
def State.missed (s : State) (g : Seg) : State :=
  match (s.seg g).watch with
  | none => s
  | some w => (s.disarm g).pollMiss g w.station

theorem State.missed_of_none (h : (s.seg g).watch = none) : s.missed g = s := by
  unfold State.missed
  rw [h]

theorem State.missed_of_some {w : Watch} (h : (s.seg g).watch = some w) : s.missed g = (s.disarm g).pollMiss g w.station := by
  unfold State.missed
  rw [h]

theorem State.disarm_charges (s : State) (g : Seg) : ChargesOnly s (s.disarm g) := .disarm s g

theorem State.missed_charges (s : State) (g : Seg) : ChargesOnly s (s.missed g) := by
  cases h : (s.seg g).watch with
  | none => rw [State.missed_of_none h]; exact .refl s
  | some w => rw [State.missed_of_some h]; exact (s.disarm_charges g).trans (State.pollMiss_charges _ g w.station)

/-- A watch is armed for a station. -/
def State.withWatch (s : State) (g : Seg) (w : Watch) : State := s.setSeg g { s.seg g with watch := some w }

@[simp] theorem State.withWatch_hm (s : State) (g : Seg) (w : Watch) : (s.withWatch g w).hm = s.hm := by simp [State.withWatch]

@[simp] theorem State.withWatch_sd (s : State) (g : Seg) (w : Watch) : (s.withWatch g w).sd = s.sd := by simp [State.withWatch]

@[simp] theorem State.withWatch_au (s : State) (g : Seg) (w : Watch) : (s.withWatch g w).au = s.au := by simp [State.withWatch]

theorem State.withWatch_trunk (s : State) (g : Seg) (w : Watch) : TrunkAlone s (s.withWatch g w) := .setSeg s g _

/-- A watch says nothing of the other fields of either segment. -/
theorem State.withWatch_field {α : Type} (p : Segment → α) (hp : ∀ x w, p { x with watch := w } = p x) (w : Watch) (k : Seg) :
    p ((s.withWatch g w).seg k) = p (s.seg k) := by
  cases g <;> cases k
  · exact hp _ _
  · rfl
  · rfl
  · exact hp _ _

theorem State.armWatch_eq (s : State) (g : Seg) (a : Address) :
    s.armWatch g a = (s.missed g).withWatch g ⟨a, (s.seg g).profile.deadline + 2⟩ := by
  unfold State.armWatch
  cases h : (s.seg g).watch with
  | none => rw [State.missed_of_none h]; rfl
  | some w => rw [State.missed_of_some h]; rfl

/-! ### The cut of a copy (R35) -/

theorem State.stopCopy_charges (s : State) (g : Seg) : ChargesOnly s (s.stopCopy g) := .of_trunk (by cases g <;> rfl) (.stopCopy s g)

theorem State.stopCopy_stopped (s : State) (g : Seg) : ((s.stopCopy g).seg g).copy = none ∧ ((s.stopCopy g).seg g).tx ≠ .copy := by
  rw [State.stopCopy, State.seg_setSeg]
  refine ⟨rfl, ?_⟩
  dsimp only
  split
  exacts [nofun, ‹_›]

/-- Charges, and then perhaps the arming of segment B's watch. -/
def ChargesAndArms (s t : State) : Prop := ∃ u, ChargesOnly s u ∧ (t = u ∨ ∃ w, t = u.withWatch .b w)

theorem ChargesOnly.arms (h : ChargesOnly s t) : ChargesAndArms s t := ⟨t, h, .inl rfl⟩

namespace ChargesAndArms

variable (h : ChargesAndArms s t)
include h

theorem alone : TrunkAlone s t := by
  obtain ⟨u, hu, rfl | ⟨w, rfl⟩⟩ := h
  · exact hu.alone
  · exact hu.alone.trans (u.withWatch_trunk .b w)

theorem settings : HealthSettingsKept s t := by
  obtain ⟨u, hu, rfl | ⟨w, rfl⟩⟩ := h
  · exact hu.settings
  · simpa [HealthSettingsKept] using hu.settings

theorem mark : t.hm.jabberMark = s.hm.jabberMark := by
  obtain ⟨u, hu, rfl | ⟨w, rfl⟩⟩ := h
  · exact hu.mark
  · simpa using hu.mark

theorem probe : ProbeKeptOrOver s t := by
  obtain ⟨u, hu, rfl | ⟨w, rfl⟩⟩ := h
  · exact hu.probe
  · simpa [ProbeKeptOrOver] using hu.probe

/-- Beside the watch, on the segments things have only ended. -/
theorem eased (k : Seg) : ∃ x, (s.seg k).Eased x ∧ ∀ {α : Type} (p : Segment → α), (∀ x w, p { x with watch := w } = p x) →
    p (t.seg k) = p x := by
  obtain ⟨u, hu, rfl | ⟨w, rfl⟩⟩ := h
  · exact ⟨_, hu.eased k, fun _ _ => rfl⟩
  · exact ⟨_, hu.eased k, fun p hp => State.withWatch_field p hp w k⟩

theorem rx (k : Seg) : (t.seg k).rx = (s.seg k).rx := by
  obtain ⟨x, hx, ht⟩ := h.eased k
  exact (ht Segment.rx fun _ _ => rfl).trans hx.rx

theorem activity (k : Seg) : (t.seg k).activity = (s.seg k).activity := by
  obtain ⟨x, hx, ht⟩ := h.eased k
  exact (ht Segment.activity fun _ _ => rfl).trans hx.activity

theorem line (k : Seg) : (t.seg k).line = (s.seg k).line := by
  obtain ⟨x, hx, ht⟩ := h.eased k
  exact (ht Segment.line fun _ _ => rfl).trans hx.line

theorem idle (k : Seg) (hi : (s.seg k).tx = .idle) : (t.seg k).tx = .idle := by
  obtain ⟨x, hx, ht⟩ := h.eased k
  exact (ht Segment.tx fun _ _ => rfl).trans (hx.idle hi)

theorem stopped (k : Seg) (hc : (s.seg k).copy = none ∧ (s.seg k).tx ≠ .copy) : (t.seg k).copy = none ∧ (t.seg k).tx ≠ .copy := by
  obtain ⟨x, hx, ht⟩ := h.eased k
  rw [ht Segment.copy fun _ _ => rfl, ht Segment.tx fun _ _ => rfl]
  exact ⟨hx.no_copy hc.1, hx.tx_ne_copy hc.2⟩

end ChargesAndArms

theorem State.armWatch_b_arms (s : State) (a : Address) : ChargesAndArms s (s.armWatch .b a) :=
  ⟨_, s.missed_charges .b, .inr ⟨_, s.armWatch_eq .b a⟩⟩

theorem State.armAfterCopy_arms (s : State) (g : Seg) (c : Copy) : ChargesAndArms s (s.armAfterCopy g c) := by
  unfold State.armAfterCopy
  split
  next h => exact h.1 ▸ s.armWatch_b_arms c.station
  next => exact (ChargesOnly.refl s).arms

theorem ChargesOnly.then_arms {u : State} (h1 : ChargesOnly s t) (h2 : ChargesAndArms t u) : ChargesAndArms s u := by
  obtain ⟨v, hv, he⟩ := h2
  exact ⟨v, h1.trans hv, he⟩

/-- A copy whose source goes on is cut, and perhaps a watch armed; nothing else happens (R35, R36). -/
theorem State.cutCopy_arms (s : State) (g : Seg) : ChargesAndArms s (s.cutCopy g) ∧
    ∀ c, (s.seg g).copy = some c → c.sourceEnded = false → ((s.cutCopy g).seg g).copy = none ∧ ((s.cutCopy g).seg g).tx ≠ .copy := by
  unfold State.cutCopy
  cases hc : (s.seg g).copy with
  | none => exact ⟨(ChargesOnly.refl s).arms, nofun⟩
  | some c =>
    dsimp only
    split
    next hended => exact ⟨(ChargesOnly.refl s).arms, fun _ e h => absurd hended (by rw [Option.some.inj e, h]; nofun)⟩
    next =>
      split
      · have harms := (s.stopCopy g).armAfterCopy_arms g c
        exact ⟨(s.stopCopy_charges g).then_arms harms, fun _ _ _ => harms.stopped g (s.stopCopy_stopped g)⟩
      · exact ⟨(s.stopCopy_charges g).arms, fun _ _ _ => s.stopCopy_stopped g⟩

/-- The cut of a copy touches the health objects by the miss of a watch of segment B alone (R36, R37). -/
theorem State.cutCopy_objects (s : State) (g : Seg) : (s.cutCopy g).object (.segment .a) = s.object (.segment .a) ∧
    (g = .a ∨ s.ti.segB.watch = none → ∀ o, (s.cutCopy g).object o = s.object o) := by
  have hstop (o : ObjectId) : (s.stopCopy g).object o = s.object o := by simp
  have harm (c : Copy) : ((s.stopCopy g).armAfterCopy g c).object (.segment .a) = s.object (.segment .a) ∧
      (g = .a ∨ s.ti.segB.watch = none → ∀ o, ((s.stopCopy g).armAfterCopy g c).object o = s.object o) := by
    unfold State.armAfterCopy
    split
    next h =>
      obtain ⟨rfl, -⟩ := h
      rw [State.armWatch_eq]
      have hobj (o : ObjectId) : (((s.stopCopy .b).missed .b).withWatch .b
          ⟨c.station, ((s.stopCopy .b).seg .b).profile.deadline + 2⟩).object o = ((s.stopCopy .b).missed .b).object o :=
        State.object_congr (by simp) o
      refine ⟨?_, fun hw o => ?_⟩
      · rw [hobj]
        cases hw : ((s.stopCopy .b).seg .b).watch with
        | none => rw [State.missed_of_none hw, hstop]
        | some w =>
          obtain ⟨-, -, hkept⟩ := (s.stopCopy .b).missed_objects .b w.station
          rw [State.missed_of_some hw, hkept _ (by simp), hstop]
      · have hnone : ((s.stopCopy .b).seg .b).watch = none := by
          obtain h | h := hw
          · exact nomatch h
          · rw [State.stopCopy, State.seg_setSeg]
            exact h
        rw [hobj, State.missed_of_none hnone, hstop]
    next => exact ⟨hstop _, fun _ o => hstop o⟩
  unfold State.cutCopy
  split
  · exact ⟨rfl, fun _ _ => rfl⟩
  · split
    · exact ⟨rfl, fun _ _ => rfl⟩
    · split
      · exact harm _
      · exact ⟨hstop _, fun _ o => hstop o⟩

/-! ### The event (R24, R27, R148) -/

/-- The jabber mark is set for segment B (R148). -/
def State.jabberMarked (s : State) (g : Seg) : State :=
  match g with
  | .a => s
  | .b => { s with hm := { s.hm with jabberMark := true } }

theorem State.chargeJabber_eq (s : State) (g : Seg) : s.chargeJabber g = (s.jabberMarked g).chargeSegment g s.hm.weights.jabber := by
  cases g <;> rfl

theorem State.chargeJabber_object (s : State) (g : Seg) (o : ObjectId) : (s.chargeJabber g).object o =
    if o = .segment g then s.charged (.segment g) s.hm.weights.jabber else s.object o := by
  rw [State.chargeJabber_eq, State.object_chargeSegment]
  cases g
  · rfl
  · rcases o with (_ | _) | n | b <;> rfl

theorem State.chargeJabber_kept (s : State) (g : Seg) : TrunkAlone s (s.chargeJabber g) ∧
    (s.chargeJabber g).hm.jabberMark = (if g = .b then true else s.hm.jabberMark) ∧ ProbeKeptOrOver s (s.chargeJabber g) ∧
    s.Eased (s.chargeJabber g) ∧ HealthSettingsKept s (s.chargeJabber g) := by
  have h := (s.jabberMarked g).chargeSegment_charges g s.hm.weights.jabber
  rw [← s.chargeJabber_eq g] at h
  cases g with
  | a => exact ⟨h.alone, h.mark, h.probe, h.eased, h.settings⟩
  | b => exact ⟨TrunkAlone.trans (t := s.jabberMarked .b) rfl h.alone, h.mark, h.probe, (State.Eased.of_ti rfl).trans h.eased, h.settings⟩

/-- The segment whose receiver returns to HUNT while the activity goes on (R24). -/
def State.jabbering (s : State) (g : Seg) : State :=
  s.setSeg g { s.seg g with rx := .hunting, activity := some ((s.seg g).activity.getD 0 + 1) }

/-- The state in which a jabber event is charged: a burst's copy has been cut (R24, R35). -/
def State.jabberCut (s : State) (g : Seg) : State :=
  if (s.seg g).rx.phase = .inBurst then (s.jabbering g).cutCopy g.other else s.jabbering g

theorem State.jabbers_eq (htx : (s.seg g).tx = .idle) :
    s.jabbers g = (((s.jabberCut g).chargeJabber g).probeReplyEnds g false).takeUpBoth := by
  unfold State.jabbers
  dsimp only
  rw [if_pos (Segment.takesBits_of_idle htx)]
  rfl

theorem State.jabberCut_arms (s : State) (g : Seg) : ChargesAndArms (s.jabbering g) (s.jabberCut g) := by
  unfold State.jabberCut
  split
  · exact (State.cutCopy_arms _ _).1
  · exact (ChargesOnly.refl _).arms

theorem State.object_jabbering (s : State) (g : Seg) (o : ObjectId) : (s.jabbering g).object o = s.object o :=
  State.object_congr (by simp [State.jabbering]) o

theorem State.seg_jabbering_other (s : State) (g : Seg) : (s.jabbering g).seg g.other = s.seg g.other := State.seg_setSeg_other ..

/-- The segment that is charged has the object it had. -/
theorem State.jabberCut_objects (s : State) (g : Seg) : (s.jabberCut g).object (.segment g) = s.object (.segment g) ∧
    (g = .b ∨ s.ti.segB.watch = none → ∀ o, (s.jabberCut g).object o = s.object o) := by
  unfold State.jabberCut
  split
  · obtain ⟨hsegA, hall⟩ := State.cutCopy_objects (s.jabbering g) g.other
    cases g with
    | a => exact ⟨hsegA.trans (s.object_jabbering ..), fun h o => (hall (.inr (h.resolve_left nofun)) o).trans (s.object_jabbering ..)⟩
    | b => exact ⟨(hall (.inl rfl) _).trans (s.object_jabbering ..), fun _ o => (hall (.inl rfl) o).trans (s.object_jabbering ..)⟩
  · exact ⟨s.object_jabbering .., fun _ o => s.object_jabbering ..⟩

/-- Charges of one segment agree where its object and the settings do. -/
theorem State.charged_segment_congr (h : t.object (.segment g) = s.object (.segment g)) (hs : HealthSettingsKept s t) (w : Byte) :
    t.charged (.segment g) w = s.charged (.segment g) w := by
  obtain ⟨hsuspect, hisolate, hreadmit, -⟩ := hs
  exact State.charged_of_object h hreadmit hisolate hsuspect nofun w

/-- Settles O35: the cut of the copy, the charge, and then nothing more while no probe's reply is on the line. -/
theorem jabberCutsTheBurst : Obligations.JabberCutsTheBurst := by
  intro g s htx hprobe
  have harms := s.jabberCut_arms g
  obtain ⟨halone, hmark, hkept, heased, -⟩ := (s.jabberCut g).chargeJabber_kept g
  obtain ⟨hobject, hobjects⟩ := s.jabberCut_objects g
  have hhm : (s.jabbering g).hm = s.hm := by simp [State.jabbering]
  have hsettings : HealthSettingsKept s (s.jabberCut g) := by
    have h := harms.settings
    unfold HealthSettingsKept at h ⊢
    rwa [hhm] at h
  have hweights : (s.jabberCut g).hm.weights = s.hm.weights := by
    obtain ⟨-, -, -, -, -, -, hw⟩ := hsettings
    exact hw
  have hover : ProbeKeptOrOver s ((s.jabberCut g).chargeJabber g) := by
    have h1 : ProbeKeptOrOver s (s.jabberCut g) := harms.probe.of_eq (by rw [hhm])
    exact hkept.elim (fun e => by rw [ProbeKeptOrOver, e]; exact h1) .inr
  have hquiet : ((s.jabberCut g).chargeJabber g).probeReplyEnds g false = (s.jabberCut g).chargeJabber g := by
    refine State.probeReplyEnds_of_ne _ (fun hg p hp => ?_) false
    obtain e | e := hover
    · exact hprobe hg p (e ▸ hp)
    · rw [e] at hp
      exact nomatch hp
  have hrun := State.jabbers_eq htx
  rw [hquiet] at hrun
  have hobj (o : ObjectId) : ((s.jabberCut g).chargeJabber g).takeUpBoth.object o =
      if o = .segment g then s.charged (.segment g) s.hm.weights.jabber else (s.jabberCut g).object o := by
    rw [State.object_takeUpBoth, State.chargeJabber_object, hweights, State.charged_segment_congr hobject hsettings]
  have hback := (heased.trans (.takeUpBoth _)) g
  refine ⟨_, congrArg Host.Outcome.next hrun, ?_, ?_, (hobj _).trans (if_pos rfl), ?_, fun hw o ho => ?_, fun c hph hc hsrc => ?_, ?_⟩
  · rw [hback.rx, harms.rx, State.jabbering, State.seg_setSeg]
    rfl
  · rw [hback.activity, harms.activity, State.jabbering, State.seg_setSeg]
  · rw [State.takeUpBoth_hm, hmark, harms.mark, hhm]
  · rw [hobj, if_neg (by simpa using ho), hobjects hw]
  · have hcut := (State.cutCopy_arms (s.jabbering g) g.other).2 c (by rw [s.seg_jabbering_other, hc]) hsrc
    have hstate : s.jabberCut g = (s.jabbering g).cutCopy g.other := if_pos hph
    rw [← hstate] at hcut
    have hother := (heased.trans (.takeUpBoth _)) g.other
    exact ⟨hother.no_copy hcut.1, hother.tx_ne_copy hcut.2⟩
  · exact (((TrunkAlone.setSeg s g _).trans harms.alone).trans halone).trans (.takeUpBoth _)

end Sys2Proof.Machine
end

section
/-! PROOF. The segment transmitters (R28, R30, R31, R36, R149), the two ends of a reply that no start point brings (R44, R52), and what the
trunk lines carry (R182, R183). -/

namespace Sys2Proof.Machine

variable {s t : State} {g : Seg} {c : Copy}

/-! ### A copy ends (R31, R35, R36) -/

/-- The state in which a copy's characters have been sent. -/
def State.copySent (s : State) (g : Seg) (c : Copy) : State :=
  s.setSeg g { s.seg g with
    tx := .idle
    line := (s.seg g).line ++ (List.replicate c.syncLeft (dataChar (s.seg g).profile.sync) ++ c.buffer), copy := none }

theorem State.seg_copySent (s : State) (g : Seg) (c : Copy) : (s.copySent g c).seg g = { s.seg g with
    tx := .idle
    line := (s.seg g).line ++ (List.replicate c.syncLeft (dataChar (s.seg g).profile.sync) ++ c.buffer), copy := none } :=
  State.seg_setSeg ..

@[simp] theorem State.copySent_hm (s : State) (g : Seg) (c : Copy) : (s.copySent g c).hm = s.hm := by simp [State.copySent]

@[simp] theorem State.copySent_sd (s : State) (g : Seg) (c : Copy) : (s.copySent g c).sd = s.sd := by simp [State.copySent]

@[simp] theorem State.copySent_au (s : State) (g : Seg) (c : Copy) : (s.copySent g c).au = s.au := by simp [State.copySent]

theorem State.transmitterEnds_copy (htx : (s.seg g).tx = .copy) (hc : (s.seg g).copy = some c) (hs : c.sourceEnded = true) :
    s.transmitterEnds g = ((s.copySent g c).armAfterCopy g c).takeUpBoth := by
  unfold State.transmitterEnds
  dsimp only
  rw [htx, hc]
  exact if_pos hs

/-- The end of the copy arms a watch (R36). -/
def State.armsFor (s : State) (g : Seg) (c : Copy) : Prop := g = .b ∧ c.kind ≠ .reply ∧ (s.entry c.station).location = .segB

theorem State.armAfterCopy_of (h : s.armsFor g c) : s.armAfterCopy g c = s.armWatch .b c.station := if_pos h

theorem State.armAfterCopy_of_not (h : ¬ s.armsFor g c) : s.armAfterCopy g c = s := if_neg h

theorem State.seg_withWatch (s : State) (g : Seg) (w : Watch) : (s.withWatch g w).seg g = { s.seg g with watch := some w } :=
  State.seg_setSeg ..

theorem State.armsFor_copySent : (s.copySent g c).armsFor g c ↔ s.armsFor g c := by
  unfold State.armsFor
  rw [State.entry_congr (s.copySent_sd g c)]

/-- A miss that follows a copy's end is charged as one before it. -/
theorem State.charged_copySent (s : State) (g : Seg) (c : Copy) (o : ObjectId) (w : Byte) :
    (s.copySent g c).charged o w = s.charged o w := State.charged_congr (by simp) (by simp) o w

theorem State.chargedStation_copySent (s : State) (g : Seg) (c : Copy) (a : Address) (w : Byte) :
    (s.copySent g c).chargedStation a w = s.chargedStation a w := by
  unfold State.chargedStation
  rw [State.entry_congr (s.copySent_sd g c), s.charged_copySent, State.object_congr (s.copySent_hm g c)]

/-- With nothing armed before it, the end of a copy charges nobody. -/
theorem State.armAfterCopy_quiet (h : (s.seg g).watch = none ∨ ¬ s.armsFor g c) :
    (s.armAfterCopy g c).hm = s.hm ∧ (s.armAfterCopy g c).au = s.au ∧ (s.armAfterCopy g c).ti.written = s.ti.written ∧
    ∀ {α : Type} (p : Segment → α), (∀ x w, p { x with watch := w } = p x) → ∀ k, p ((s.armAfterCopy g c).seg k) = p (s.seg k) := by
  by_cases ha : s.armsFor g c
  · have hw := h.resolve_right (fun e => e ha)
    obtain ⟨rfl, -⟩ := id ha
    rw [State.armAfterCopy_of ha, State.armWatch_eq, State.missed_of_none hw]
    exact ⟨by simp, by simp, by simp [State.withWatch], fun p hp k => State.withWatch_field p hp _ k⟩
  · rw [State.armAfterCopy_of_not ha]
    exact ⟨rfl, rfl, rfl, fun _ _ _ => rfl⟩

/-- A profile written while the copy was in flight is taken up at its end if both segments are at a boundary then (R35). -/
theorem State.takeUpBoth_profile_of_held (hno : s.noCopy = true) (hheld : ∀ x, (s.seg x).changeHeld = true) (g : Seg)
    (htx : (s.seg g).tx = .idle) (x : Seg) : (s.takeUpBoth.seg x).profile =
      if (s.seg g).activity = none ∧ (s.seg g.other).activity = none ∧ (s.seg g.other).tx = .idle then s.ti.written
      else (s.seg x).profile := by
  have hat (k : Seg) : s.atBoundary k = true ↔ (s.seg k).activity = none ∧ (s.seg k).tx = .idle := by
    simp [State.atBoundary, hno]
  have hstill : s.stillHeld = false ↔ s.atBoundary g = true ∧ s.atBoundary g.other = true := by
    rw [State.stillHeld_eq s g, hheld, hheld]
    simp
  rw [State.seg_takeUpBoth]
  show (if (s.atBoundary x && !s.stillHeld) = true then s.ti.written else (s.seg x).profile) = _
  by_cases h : s.atBoundary g = true ∧ s.atBoundary g.other = true
  · have hx : s.atBoundary x = true := by
      cases g <;> cases x
      exacts [h.1, h.2, h.2, h.1]
    have hc : (s.seg g).activity = none ∧ (s.seg g.other).activity = none ∧ (s.seg g.other).tx = .idle :=
      ⟨((hat g).mp h.1).1, (hat _).mp h.2⟩
    rw [if_pos (by rw [hx, hstill.mpr h]; rfl), if_pos hc]
  · have hheld' : s.stillHeld = true := by
      rw [← Bool.not_eq_false]
      exact fun e => h (hstill.mp e)
    have hc : ¬ ((s.seg g).activity = none ∧ (s.seg g.other).activity = none ∧ (s.seg g.other).tx = .idle) :=
      fun ⟨h1, h2⟩ => h ⟨(hat g).mpr ⟨h1, htx⟩, (hat _).mpr h2⟩
    rw [if_neg (by simp [hheld']), if_neg hc]

/-- Clause: a copy ends (R31, R35, R36, R37). -/
theorem transmitterBurstEnd_copy (htx : (s.seg g).tx = .copy) (hc : (s.seg g).copy = some c) (hsrc : c.sourceEnded = true) :
    Leads (.transmitterBurstEnd g) s fun t => (t.seg g).tx = .idle ∧ (t.seg g).copy = none ∧
      (t.seg g).line = (s.seg g).line ++
        List.replicate c.syncLeft (dataChar (s.seg g).profile.sync) ++ c.buffer ∧
      (t.seg g).watch = (if g = .b ∧ c.kind ≠ .reply ∧ (s.entry c.station).location = .segB then
        some { station := c.station, window := (s.seg g).profile.deadline + 2 } else (s.seg g).watch) ∧
      ((s.seg g).watch = none ∨ ¬ (g = .b ∧ c.kind ≠ .reply ∧ (s.entry c.station).location = .segB) →
        t.hm = s.hm ∧ t.au = s.au) ∧
      (∀ w, (s.seg g).watch = some w → g = .b → c.kind ≠ .reply → (s.entry c.station).location = .segB →
        t.object (.station w.station) = s.chargedStation w.station s.hm.weights.stationPollMiss ∧
        t.object (.segment .b) = s.charged (.segment .b) s.hm.weights.segmentPollMiss ∧
        ObjectsKeptBut s t [.station w.station, .segment .b] ∧ HealthSettingsKept s t) ∧
      ((s.seg g).watch = none → (s.seg g.other).copy = none →
        (∀ x, (s.seg x).changeHeld = true) →
        ∀ x, (t.seg x).profile =
          if (s.seg g).activity = none ∧ (s.seg g.other).activity = none ∧ (s.seg g.other).tx = .idle then s.ti.written
          else (s.seg x).profile) ∧
      t = { s with ti := t.ti, hm := t.hm, au := t.au } := by
  let r := s.copySent g c
  have hrseg : r.seg g = { s.seg g with
      tx := .idle
      line := (s.seg g).line ++ (List.replicate c.syncLeft (dataChar (s.seg g).profile.sync) ++ c.buffer), copy := none } :=
    s.seg_copySent g c
  have harms := r.armAfterCopy_arms g c
  have heased := State.Eased.takeUpBoth (r.armAfterCopy g c) g
  have harmsFor : r.armsFor g c ↔ s.armsFor g c := State.armsFor_copySent
  have hquiet (h : (s.seg g).watch = none ∨ ¬ s.armsFor g c) := State.armAfterCopy_quiet (s := r) (g := g) (c := c)
    (h.imp (fun e => by rw [hrseg]; exact e) (fun e e' => e (harmsFor.mp e')))
  have hother : r.seg g.other = s.seg g.other := State.seg_setSeg_other ..
  refine ⟨_, congrArg Host.Outcome.next (State.transmitterEnds_copy htx hc hsrc), heased.idle (harms.idle g (by rw [hrseg])), ?copy, ?line,
    ?watch, fun h => ?quiet, fun w hw hg hk hl => ?miss, fun hw hcopy hheld x => ?profile,
    ((TrunkAlone.setSeg s g _).trans harms.alone).trans (.takeUpBoth _)⟩
  case line => rw [heased.line, harms.line, hrseg, List.append_assoc]
  case quiet =>
    obtain ⟨h1, h2, -⟩ := hquiet h
    exact ⟨by rw [State.takeUpBoth_hm, h1]; simp [r], by rw [State.takeUpBoth_au, h2]; simp [r]⟩
  case copy =>
    exact heased.no_copy (harms.stopped g (by rw [hrseg]; exact ⟨rfl, nofun⟩)).1
  case watch =>
    rw [State.seg_takeUpBoth]
    show ((r.armAfterCopy g c).seg g).watch = _
    by_cases ha : s.armsFor g c
    · rw [State.armAfterCopy_of (harmsFor.mpr ha)]
      refine Eq.trans ?_ (if_pos ha).symm
      obtain ⟨rfl, -⟩ := ha
      rw [State.armWatch_eq, State.seg_withWatch, hrseg]
    · rw [State.armAfterCopy_of_not (fun e => ha (harmsFor.mp e)), hrseg]
      exact (if_neg ha).symm
  case miss =>
    subst hg
    have hrw : (r.seg .b).watch = some w := by rw [hrseg]; exact hw
    obtain ⟨h1, h2, h3⟩ := r.missed_objects .b w.station
    have hobj (o : ObjectId) : ((r.armAfterCopy .b c).takeUpBoth).object o = ((r.disarm .b).pollMiss .b w.station).object o := by
      rw [State.object_takeUpBoth, State.armAfterCopy_of (harmsFor.mpr ⟨rfl, hk, hl⟩), State.armWatch_eq, State.missed_of_some hrw]
      exact State.object_congr (by simp) o
    have hrhm : r.hm = s.hm := s.copySent_hm .b c
    refine ⟨?_, ?_, fun o ho => ?_, ?_⟩
    · rw [hobj, h1, hrhm, s.chargedStation_copySent]
    · rw [hobj, h2, hrhm, s.charged_copySent]
    · rw [hobj, h3 o ho, State.object_congr hrhm]
    · have h := harms.settings
      unfold HealthSettingsKept at h ⊢
      rw [State.takeUpBoth_hm]
      rwa [hrhm] at h
  case profile =>
    obtain ⟨-, -, hwritten, hfield⟩ := hquiet (.inl hw)
    have hrfield {α : Type} (p : Segment → α) (hp : p (r.seg g) = p (s.seg g)) (k : Seg) : p (r.seg k) = p (s.seg k) :=
      State.seg_setSeg_field p (by rw [← hp]; exact congrArg p hrseg.symm) k
    have hno : (r.armAfterCopy g c).noCopy = true := by
      have hg := hfield Segment.copy (fun _ _ => rfl) g
      have ho := hfield Segment.copy (fun _ _ => rfl) g.other
      rw [hrseg] at hg
      rw [hother, hcopy] at ho
      unfold State.noCopy
      cases g
      · rw [show (r.armAfterCopy .a c).ti.segA.copy = none from hg, show (r.armAfterCopy .a c).ti.segB.copy = none from ho]; rfl
      · rw [show (r.armAfterCopy .b c).ti.segB.copy = none from hg, show (r.armAfterCopy .b c).ti.segA.copy = none from ho]; rfl
    rw [State.takeUpBoth_profile_of_held hno (fun y => ?held) g (harms.idle g (by rw [hrseg])), hwritten,
      hfield Segment.activity (fun _ _ => rfl), hfield Segment.activity (fun _ _ => rfl), hfield Segment.tx (fun _ _ => rfl),
      hfield Segment.profile (fun _ _ => rfl), hother, hrfield Segment.profile (by rw [hrseg]) x, hrfield Segment.activity (by rw [hrseg]) g]
    · simp [r, State.copySent]
    case held =>
      rw [hfield Segment.changeHeld (fun _ _ => rfl), hrfield Segment.changeHeld (by rw [hrseg]) y]
      exact hheld y

/-! ### The other transmitters -/

/-- Clause: a probe poll's end opens its reply window (R149, R151, R153). -/
theorem transmitterBurstEnd_probe {k : ProbeKind} {target : Address} (htx : s.ti.segB.tx = .probe)
    (hp : s.hm.probe = some ⟨.sending, k, target⟩) :
    Leads (.transmitterBurstEnd .b) s fun t => t.ti.segB.tx = .idle ∧
      t.hm = { s.hm with probe := some ⟨.awaiting (s.ti.segB.profile.deadline + 2), k, target⟩ } ∧
      t.ti.gateB = (s.segBIsolated || s.ti.gateB) ∧ t = { s with ti := t.ti, hm := t.hm } := by
  have hrun : s.transmitterEnds .b = (s.probeSent .b).takeUpBoth := by
    unfold State.transmitterEnds
    dsimp only
    rw [show (s.seg .b).tx = .probe from htx]
  have hsent : s.probeSent .b = { s with
      ti := { s.ti with segB := { s.ti.segB with tx := .idle }, gateB := s.segBIsolated || s.ti.gateB }
      hm := { s.hm with probe := some ⟨.awaiting (s.ti.segB.profile.deadline + 2), k, target⟩ } } := by
    unfold State.probeSent
    dsimp only
    rw [hp]
    cases s.segBIsolated <;> rfl
  rw [hsent] at hrun
  refine ⟨_, congrArg Host.Outcome.next hrun, ?_, ?_, ?_, ?_⟩
  · exact (State.Eased.takeUpBoth _ .b).idle rfl
  · rw [State.takeUpBoth_hm]
  · rw [State.takeUpBoth_ti_gateB]
  · rw [State.takeUpBoth_eq]

/-- Clause: the reply of the part has been sent (R43). -/
theorem transmitterBurstEnd_reply {k : Taking} {code : ReplyCode} {m : List Byte} (htx : s.ti.segA.tx = .reply)
    (hpr : s.pr = .sending k code m) :
    Leads (.transmitterBurstEnd .a) s fun t => t.ti.segA.tx = .idle ∧ t.pr = .idle ∧ t.ti.segA.line = s.ti.segA.line ∧
      t = { s with pr := .idle, ti := { s.ti with segA := t.ti.segA, segB := t.ti.segB } } := by
  have hrun : s.transmitterEnds .a =
      State.takeUpBoth { s with ti := { s.ti with segA := { s.ti.segA with tx := .idle } }, pr := .idle } := by
    unfold State.transmitterEnds
    dsimp only
    rw [show (s.seg .a).tx = .reply from htx, hpr]
    rfl
  refine ⟨_, congrArg Host.Outcome.next hrun, (State.Eased.takeUpBoth _ .a).idle rfl, State.takeUpBoth_pr _,
    (State.Eased.takeUpBoth _ .a).line, ?_⟩
  rw [State.takeUpBoth_eq]

theorem startHeld_of {quiet : Nat} (hc : s.ti.segB.copy = some c) (hstart : c.started = false)
    (htx : s.ti.segB.tx = .idle) (hact : s.ti.segB.activity = none) (hq : 1 ≤ quiet) :
    s.startHeld quiet = s.setSeg .b (s.ti.segB.beginCopy c) := by
  unfold State.startHeld
  dsimp only
  rw [hc]
  exact if_pos ⟨hstart, by simp [Segment.available, htx, hact, hq]⟩

/-! ### The characters in the numbers of R182 and R183 -/

theorem trunkBits_eq_ofFn (ch : TrunkChar) : trunkBits ch = List.ofFn fun i : Fin 9 => ch.getLsbD i.val := by
  rw [trunkBits, valueBits_eq_ofFn]
  simp [List.ofFn_succ, charValue, marker]

theorem trunkCharOf_ofFn (ch : TrunkChar) : trunkCharOf (List.ofFn fun i : Fin 9 => ch.getLsbD i.val) = ch := by
  revert ch
  decide +kernel

theorem burstBody_eq (data : List Byte) :
    burstBody data = (data ++ [-(data.foldr (· + ·) 0)]).map fun b : Byte => b.setWidth 9 := by
  rw [burstBody, checkByte, byteSum_eq_foldr, show (0 : Byte) - data.foldr (· + ·) 0 = -data.foldr (· + ·) 0 from BitVec.zero_sub _]
  rfl

theorem trunkLine_of_drives (h : s.drives g = true) :
    s.trunkLine g = (s.seg g).line.flatMap fun ch => List.ofFn fun i : Fin 9 => ch.getLsbD i.val := by
  rw [State.trunkLine, if_pos h]
  exact congrArg (fun f => (s.seg g).line.flatMap f) (funext trunkBits_eq_ofFn)

/-- Settles O36: each end of a transmission, and the characters by evaluation. -/
theorem transmittersAndRepliesFinish : Obligations.TransmittersAndRepliesFinish := by
  refine ⟨fun s => ⟨fun c quiet hc hstart htx hact hq => ?held, fun k code m htx hpr => transmitterBurstEnd_reply htx hpr,
      fun g c htx hc hsrc => transmitterBurstEnd_copy htx hc hsrc, fun k target htx hp => transmitterBurstEnd_probe htx hp⟩,
    fun k s => ⟨fun hpr => ?deadline, fun sent hpr => ?budget⟩, fun g s => ⟨fun hidle => ?silent, fun htx hgate => ?driven⟩,
    trunkCharOf_ofFn, ?addresses, fun p a => ⟨?head, ?probe⟩, burstBody_eq, rfl, by decide, fun _ => rfl⟩
  case held => exact congrArg Host.Outcome.next (startHeld_of hc hstart htx hact hq)
  case deadline =>
    have hstep : exec .replyDeadlineExpiry s = .next (match s.pr with
        | .waiting _ => { s with pr := .idle }
        | _ => s) := rfl
    rw [hstep, hpr]
  case budget =>
    have hstep : exec .fillBudgetExhausted s = .next (match s.pr with
        | .filling t _ => s.commit t s.fillsLeft .nil []
        | _ => s) := rfl
    rw [hstep, hpr]
    simp only [State.fillsLeft, hpr, ReplyContext.fillsSent]
    rfl
  case silent =>
    have hdrives : s.drives g = false := by
      unfold State.drives
      obtain h | ⟨rfl, h⟩ := hidle
      · simp [h]
      · simp [h]
    exact ⟨hdrives, if_neg (by simp [hdrives])⟩
  case driven =>
    have hdrives : s.drives g = true := by
      unfold State.drives
      cases g
      · simpa using htx
      · simpa using ⟨htx, hgate rfl⟩
    exact ⟨hdrives, trunkLine_of_drives hdrives⟩
  case addresses =>
    intro a
    refine ⟨?_, ?_, ?_⟩
    all_goals
      unfold addressChar
      congr 1
  case head => rfl
  case probe => rfl

end Sys2Proof.Machine
end

section
/-! PROOF. What the end of a valid burst hands on: a reply to the directory (R13, R14), a poll or select of segment A to the Proxy Responder
and the watch (R36, R42, R43, R47). -/

namespace Sys2Proof.Machine

variable {s t : State} {g : Seg} {a : Address}

/-! ### A valid reply (R13) -/

theorem State.learn_of_here (h : (s.entry a).location = segLocation g) :
    s.learn g a = s.setEntry a { s.entry a with age := 0 } := by
  unfold State.learn
  dsimp only
  rw [if_neg (by rw [h]; cases g <;> decide), if_pos h]

theorem segLocation_ne_none (g : Seg) : segLocation g ≠ .none := by cases g <;> decide

theorem segLocation_other_ne (g : Seg) : segLocation g.other ≠ segLocation g := by cases g <;> decide

theorem State.learn_of_moves (hl : (s.entry a).location = segLocation g.other) (ho : (s.entry a).origin = .learned)
    (hi : (s.object (.station a)).state ≠ .isolated) : s.learn g a = s.move g a := by
  unfold State.learn
  dsimp only
  rw [if_neg (by rw [hl]; exact segLocation_ne_none _), if_neg (by rw [hl]; exact segLocation_other_ne g), if_pos ⟨ho, hi⟩]

theorem State.learn_of_conflict (h0 : (s.entry a).location ≠ .none) (h1 : (s.entry a).location ≠ segLocation g)
    (h2 : (s.entry a).origin = .static ∨ (s.object (.station a)).state = .isolated) : s.learn g a = s.conflict g a := by
  unfold State.learn
  dsimp only
  rw [if_neg h0, if_neg h1, if_neg (fun ⟨ho, hi⟩ => h2.elim (fun h => nomatch ho.symm.trans h) hi)]

theorem State.conflict_charges (s : State) (g : Seg) (a : Address) : ChargesOnly s (s.conflict g a) :=
  (ScoresAlone.raise s _ _ _).charges.trans (State.chargeSegment_charges _ g _)

theorem State.move_charges (s : State) (g : Seg) (a : Address) :
    ChargesOnly (s.setEntry a { s.entry a with location := segLocation g, age := 0 }) (s.move g a) :=
  (ScoresAlone.raise _ _ _ _).charges.trans ((State.evaluate_ordered _ (.station a)).charges nofun)

/-- What a valid reply teaches is written to its entry, and beyond that at most charged (R13). -/
theorem State.learn_charges (s : State) (g : Seg) (a : Address) :
    ∃ e, ChargesOnly (s.setEntry a e) (s.learn g a) := by
  unfold State.learn
  dsimp only
  split
  · exact ⟨_, .refl _⟩
  · split
    · exact ⟨_, .refl _⟩
    · split
      · exact ⟨_, s.move_charges g a⟩
      · exact ⟨s.entry a, by rw [s.setEntry_entry]; exact s.conflict_charges g a⟩

/-- A burst's end on the lines, its verdict still to act. -/
theorem State.burstTaken_trunk (s : State) (g : Seg) : TrunkAlone s (s.burstTaken g) := by
  unfold State.burstTaken State.endSource
  split
  · exact .setSeg s g _
  · exact (TrunkAlone.setSeg s g _).trans (.setSeg _ g.other _)

@[simp] theorem State.burstTaken_au (s : State) (g : Seg) : (s.burstTaken g).au = s.au := by simp [State.burstTaken]

/-- Where no probe awaits the reply's end, a valid reply teaches the directory, and the segments pass their boundaries. -/
theorem State.burstEnds_learns (htx : (s.seg g).tx = .idle) (hphase : (s.seg g).rx.phase = .inBurst)
    (haddress : (s.seg g).rx.address = some (.reply, a)) (hvalid : (s.seg g).rx.verdict false = .valid)
    (hprobe : g = .b → ∀ pr, s.hm.probe = some pr → pr.phase ≠ .replyIn) :
    s.burstEnds g false = ((s.burstTaken g).learn g a).takeUpBoth := by
  obtain ⟨e, hlearn⟩ := (s.burstTaken g).learn_charges g a
  rw [s.burstEnds_of_validReply htx hphase haddress hvalid, State.probeReplyEnds_of_ne]
  intro hg p hp
  obtain h | h := hlearn.probe
  · refine hprobe hg p ?_
    rw [h] at hp
    simpa using hp
  · rw [h] at hp
    exact nomatch hp

/-- The move's flag is latched, whatever the evaluation raises after it. -/
theorem State.move_flag (s : State) (g : Seg) (a : Address) : (s.move g a).au.flags &&& Cause.moved.bit ≠ 0 := by
  let u := s.setEntry a { s.entry a with location := segLocation g, age := 0 }
  have htaken := u.au.take_flag .moved a.val (.segment g)
  have hraised : Raised (u.raise .moved a.val (.segment g)).au (s.move g a).au := State.raised_evaluate _ _ (.refl _)
  rw [hraised.flag .moved htaken]
  decide

/-- A moved entry's object is evaluated at its new place, and no other one is touched (R14). -/
theorem State.object_move (s : State) (g : Seg) (a : Address) (o : ObjectId) : (s.move g a).object o =
    if o = .station a then
      (s.setEntry a { s.entry a with location := segLocation g }).judged (.station a) (s.object (.station a)).score
    else s.object o := by
  have hobj (p : ObjectId) : ((s.setEntry a { s.entry a with location := segLocation g, age := 0 }).raise .moved a.val
      (.segment g)).object p = s.object p := State.object_congr rfl p
  rw [State.move, State.object_evaluate, hobj, hobj]
  refine if_congr Iff.rfl (State.judged_congr _ ?_ ?_ rfl rfl rfl fun b hb => ?_) rfl
  · rw [hobj]; simp
  · rw [hobj]; simp
  · cases hb
    simp

theorem State.learn_frame (s : State) (g : Seg) (a : Address) :
    ((s.burstTaken g).learn g a).takeUpBoth = { s with
      sd := ((s.burstTaken g).learn g a).takeUpBoth.sd
      ti := ((s.burstTaken g).learn g a).takeUpBoth.ti
      hm := ((s.burstTaken g).learn g a).takeUpBoth.hm
      au := ((s.burstTaken g).learn g a).takeUpBoth.au } ∧
    EntriesKeptBut s ((s.burstTaken g).learn g a).takeUpBoth [a] := by
  obtain ⟨e, hlearn⟩ := (s.burstTaken g).learn_charges g a
  have hset : (s.burstTaken g).setEntry a e = { s with
      sd := ((s.burstTaken g).setEntry a e).sd, ti := ((s.burstTaken g).setEntry a e).ti
      hm := ((s.burstTaken g).setEntry a e).hm, au := ((s.burstTaken g).setEntry a e).au } := by
    have h := s.burstTaken_trunk g
    generalize s.burstTaken g = r at *
    rw [h]
    rfl
  have hsd : ((s.burstTaken g).learn g a).takeUpBoth.sd = (s.setEntry a e).sd := by
    rw [State.takeUpBoth_sd, hlearn.alone.sd]
    simp [State.setEntry]
  have hend := hlearn.alone.trans (.takeUpBoth _)
  refine ⟨?_, fun b hb => ?_, ?_⟩
  · generalize ((s.burstTaken g).learn g a).takeUpBoth = t at hend
    unfold TrunkAlone at hend
    rw [hset] at hend
    rw [hend]
  · rw [State.entry_congr hsd, State.entry_setEntry_eq, if_neg (by simpa using hb)]
  · rw [hsd]
    rfl

/-- Settles O33: the four rows of R13's table. -/
theorem validRepliesTeachTheDirectory : Obligations.ValidRepliesTeachTheDirectory := by
  intro g a s htx hphase haddress hwell hends hlo hhi hsum hprobe e
  have hvalid := TrunkRx.verdict_reply haddress hwell hends hlo hhi hsum
  have hrun : exec (.burstEnd g false) s = .next ((s.burstTaken g).learn g a).takeUpBoth :=
    congrArg Host.Outcome.next (State.burstEnds_learns htx hphase haddress hvalid hprobe)
  obtain ⟨hframe, hkept⟩ := s.learn_frame g a
  have hentry : (s.burstTaken g).entry a = s.entry a := s.entry_burstTaken g a
  have hobject (o : ObjectId) : (s.burstTaken g).object o = s.object o := s.object_burstTaken g o
  refine ⟨_, hrun, hkept, hframe, fun hnone => ?learned, fun hhere => ?refreshed, fun hother ho hi => ?moved, fun h0 h1 h2 => ?conflict⟩
  case learned =>
    rw [State.learn_of_none _ (by rw [hentry]; exact hnone), State.entry_takeUpBoth, State.entry_setEntry, hentry]
    simp [e]
  case refreshed =>
    rw [State.learn_of_here (by rw [hentry]; exact hhere), State.entry_takeUpBoth, State.entry_setEntry, hentry]
    simp [e]
  case moved =>
    have hjudged : ((s.burstTaken g).setEntry a { (s.burstTaken g).entry a with location := segLocation g }).judged (.station a)
          ((s.burstTaken g).object (.station a)).score =
        (s.setEntry a { s.entry a with location := segLocation g }).judged (.station a) (s.object (.station a)).score := by
      rw [hobject]
      refine State.judged_congr _ (by simp) (by simp) (by simp) (by simp) (by simp) fun b hb => ?_
      cases hb
      simp
    rw [State.learn_of_moves (by rw [hentry]; exact hother) (by rw [hentry]; exact ho) (by rw [hobject]; exact hi)]
    refine ⟨?_, ?_, fun o hne => ?_, ?_⟩
    · rw [State.entry_takeUpBoth, (State.move_charges _ g a).alone.entry, State.entry_setEntry, hentry]
    · rw [State.object_takeUpBoth, State.object_move, if_pos rfl, hjudged]
    · rw [State.object_takeUpBoth, State.object_move, if_neg (by simpa using hne), hobject]
    · rw [State.takeUpBoth_au]
      exact State.move_flag _ g a
  case conflict =>
    rw [State.learn_of_conflict (by rw [hentry]; exact h0) (by rw [hentry]; exact h1) (by rw [hentry, hobject]; exact h2)]
    refine ⟨?_, ?_, fun o hne => ?_, ?_⟩
    · rw [State.entry_takeUpBoth, (State.conflict_charges _ g a).alone.entry, hentry]
    · rw [State.object_takeUpBoth, State.object_conflict_segment, State.burstTaken_hm, State.charged_burstTaken]
    · have hraise (p : ObjectId) : ((s.burstTaken g).raise .conflict a.val (.segment g)).object p = s.object p :=
        (State.object_congr rfl p).trans (hobject p)
      rw [State.object_takeUpBoth, State.conflict, State.chargeConflict, State.object_chargeSegment, if_neg (by simpa using hne), hraise]
    · rw [State.takeUpBoth_au]
      exact State.conflict_flag _ g a

end Sys2Proof.Machine
end

section
/-! PROOF. A valid poll or select of segment A: the Proxy Responder's reply context, and the watch (R36, R42, R43, R47). -/

namespace Sys2Proof.Machine

variable {s t : State} {g : Seg} {a : Address} {r : Request}

/-! ### The taking of a request, by the location of its station (R42) -/

/-- The reply context that waits for the start point of a request (R43). -/
def State.waitsFor (s : State) (a : Address) (r : Request) (h : Handling) : ReplyContext :=
  .waiting { station := a, request := r, handling := h, standIn := (s.entry a).standIn, deadline := s.ti.segA.profile.deadline }

theorem State.takeRequest_port {n : PortNo} (h : (s.entry a).location = .port n) :
    (s.takeRequest a r).pr = s.waitsFor a r (.desk n) ∧
    ∀ m, (s.takeRequest a r).port m = if m = n ∧ r = .poll 0 then (s.port n).acknowledge else s.port m := by
  unfold State.takeRequest
  dsimp only
  rw [h]
  by_cases hr : r = .poll 0
  · have hnext : r = .poll pollNext := hr
    dsimp only
    rw [if_pos hnext]
    refine ⟨rfl, fun m => ?_⟩
    show (State.mapPort { s with pr := .idle } n Port.acknowledge).port m = _
    by_cases hm : m = n
    · subst hm
      rw [if_pos ⟨rfl, hr⟩, State.port_mapPort]
      rfl
    · rw [if_neg (fun e => hm e.1), State.port_mapPort_of_ne _ _ hm]
      rfl
  · have hnext : ¬ r = .poll pollNext := hr
    dsimp only
    rw [if_neg hnext]
    exact ⟨rfl, fun m => (if_neg (fun e => hr e.2)).symm⟩

theorem State.takeRequest_printer (h : (s.entry a).location = .printer) :
    (s.takeRequest a r).pr = s.waitsFor a r .printer := by
  unfold State.takeRequest
  dsimp only
  rw [h]
  rfl

theorem State.takeRequest_out (h : (s.entry a).location = .segB)
    (hi : s.segBIsolated = true ∨ (s.object (.station a)).state = .isolated) :
    (s.takeRequest a r).pr = if (s.entry a).standIn = .offline then s.waitsFor a r .standIn else .idle := by
  unfold State.takeRequest
  dsimp only
  rw [h]
  dsimp only
  rw [if_pos (by simpa using hi)]
  cases hs : (s.entry a).standIn
  · rfl
  · exact (if_pos rfl).symm

theorem State.takeRequest_passed (h : (s.entry a).location = .segB) (h1 : s.segBIsolated = false)
    (h2 : (s.object (.station a)).state ≠ .isolated) : (s.takeRequest a r).pr = .idle := by
  unfold State.takeRequest
  dsimp only
  rw [h]
  dsimp only
  rw [if_neg (by simp [h1, h2])]

theorem State.takeRequest_idle (h : (s.entry a).location = .segA ∨ (s.entry a).location = .none) :
    s.takeRequest a r = { s with pr := .idle } := by
  unfold State.takeRequest
  obtain h | h := h <;> rw [h]

theorem State.takeRequest_ports_kept (h : (s.entry a).location.isPort = false) : (s.takeRequest a r).ports = s.ports := by
  unfold State.takeRequest
  dsimp only
  cases hl : (s.entry a).location with
  | port n => rw [hl] at h; exact nomatch h
  | segB =>
    dsimp only
    split
    · cases (s.entry a).standIn <;> rfl
    · rfl
  | none | segA | printer => rfl

/-- The taking of a request reaches the reply context and the ports alone. -/
theorem State.takeRequest_frame (s : State) (a : Address) (r : Request) : s.takeRequest a r =
    { s with pr := (s.takeRequest a r).pr, ports := (s.takeRequest a r).ports } := by
  have h1 := s.takeRequest_sd a r
  have h2 := s.takeRequest_ti a r
  have h3 := s.takeRequest_sm a r
  have h4 := s.takeRequest_pe a r
  have h5 := s.takeRequest_hm a r
  have h6 := s.takeRequest_au a r
  have h7 := s.takeRequest_al a r
  have h8 := s.takeRequest_draws a r
  have h9 := s.takeRequest_pending a r
  generalize s.takeRequest a r = t at *
  rw [← h1, ← h2, ← h3, ← h4, ← h5, ← h6, ← h7, ← h8, ← h9]

/-! ### The end of the burst -/

/-- What a valid poll or select carries. -/
def requestOf (k : BurstKind) (body : List Byte) : Request := if k = .poll then .poll (body.headD 0) else .select body.dropLast

/-- The state in which the Proxy Responder takes a request of a station: a watch is armed where it lives on segment A (R36). -/
def State.watchedFor (s : State) (a : Address) : State := if (s.entry a).location = .segA then s.armWatch .a a else s

/-- A poll or select without an error event ends with the verdict valid (R23). -/
theorem TrunkRx.verdict_valid {r : TrunkRx} {k : BurstKind} (haddress : r.address = some (k, a))
    (hwell : r.malformed = false) (hends : r.endsInMark = false) (hcount : countSuits k r.body.length = true)
    (hsum : byteSum r.body = 0) : r.verdict false = .valid := by
  simp [TrunkRx.verdict, haddress, hwell, hends, hcount, hsum]

theorem State.burstEnds_request {k : BurstKind} (hk : k ≠ .reply) (htx : (s.seg .a).tx = .idle)
    (hphase : (s.seg .a).rx.phase = .inBurst) (haddress : (s.seg .a).rx.address = some (k, a))
    (hvalid : (s.seg .a).rx.verdict false = .valid) :
    s.burstEnds .a false =
      (((s.burstTaken .a).watchedFor a).takeRequest a (requestOf k (s.seg .a).rx.body)).takeUpBoth := by
  have hverdict : (s.burstTaken .a).applyVerdict .a (s.seg .a).rx .valid =
      ((s.burstTaken .a).watchedFor a).takeRequest a (requestOf k (s.seg .a).rx.body) := by
    unfold State.applyVerdict
    dsimp only
    rw [haddress]
    cases k with
    | reply => exact absurd rfl hk
    | poll => rfl
    | select => rfl
  have hquiet (u : State) : u.probeReplyEnds .a true = u := State.probeReplyEnds_of_ne (g := .a) _ nofun true
  unfold State.burstEnds
  dsimp only
  rw [if_pos (by rw [Segment.takesBits_of_idle htx, hphase]; rfl), hvalid]
  exact congrArg State.takeUpBoth ((hquiet _).trans hverdict)

theorem State.seg_burstTaken (s : State) (g : Seg) :
    (s.burstTaken g).seg g = { s.seg g with rx := .hunting, activity := none } := by
  have hend (u : State) : (u.endSource g.other).seg g = u.seg g := by
    unfold State.endSource
    split
    · rfl
    · cases g <;> rfl
  rw [State.burstTaken, hend, State.seg_setSeg]

theorem State.waitsFor_congr (hd : t.sd = s.sd) (hp : t.ti.segA.profile = s.ti.segA.profile) (h : Handling) :
    t.waitsFor a r h = s.waitsFor a r h := by
  unfold State.waitsFor
  rw [State.entry_congr hd, hp]

/-- A request of a station beyond segment A: no watch, and what the Proxy Responder makes of it. -/
theorem State.watchedFor_of_ne (h : (s.entry a).location ≠ .segA) : s.watchedFor a = s := if_neg h

theorem State.watchedFor_of_segA (h : (s.entry a).location = .segA) :
    s.watchedFor a = (s.missed .a).withWatch .a ⟨a, s.ti.segA.profile.deadline + 2⟩ :=
  (if_pos h).trans (s.armWatch_eq .a a)

theorem State.watchedFor_trunk (s : State) (a : Address) : TrunkAlone s (s.watchedFor a) := by
  by_cases h : (s.entry a).location = .segA
  · rw [State.watchedFor_of_segA h]
    exact (s.missed_charges .a).alone.trans (.setSeg _ .a _)
  · rw [State.watchedFor_of_ne h]
    exact .refl s

/-- Settles O34: the location of the station decides. -/
theorem validRequestsAreTaken : Obligations.ValidRequestsAreTaken := by
  intro k a s hk htx hphase haddress hwell hends hcount hsum body request waits
  have hvalid := TrunkRx.verdict_valid haddress hwell hends hcount hsum
  let u := (s.burstTaken .a).watchedFor a
  have hrun : exec (.burstEnd .a false) s = .next (u.takeRequest a request).takeUpBoth :=
    congrArg Host.Outcome.next (State.burstEnds_request hk htx hphase haddress hvalid)
  have hseg : (s.burstTaken .a).ti.segA = { s.ti.segA with rx := .hunting, activity := none } := s.seg_burstTaken .a
  have hentry : (s.burstTaken .a).entry a = s.entry a := s.entry_burstTaken .a a
  have htrunk : TrunkAlone s u := (s.burstTaken_trunk .a).trans (State.watchedFor_trunk _ a)
  have huentry : u.entry a = s.entry a := congrFun htrunk.entry a
  have hports : u.ports = s.ports := htrunk.ports
  have hpr : (u.takeRequest a request).takeUpBoth.pr = (u.takeRequest a request).pr := State.takeUpBoth_pr _
  have hhm : (u.takeRequest a request).takeUpBoth.hm = u.hm := by simp
  have hau : (u.takeRequest a request).takeUpBoth.au = u.au := by simp
  have hport (m : PortNo) : (u.takeRequest a request).takeUpBoth.port m = (u.takeRequest a request).port m :=
    State.port_takeUpBoth ..
  have hwatch : (u.takeRequest a request).takeUpBoth.ti.segA.watch = u.ti.segA.watch := by
    have h := (u.takeRequest a request).seg_takeUpBoth .a
    rw [State.seg_a, State.seg_a] at h
    rw [h]
    exact congrArg (·.segA.watch) (State.takeRequest_ti ..)
  -- with the station elsewhere, the request meets the state that the burst leaves
  have hplain (h : (s.entry a).location ≠ .segA) : u = s.burstTaken .a := State.watchedFor_of_ne (by rw [hentry]; exact h)
  have hwaits (h : (s.entry a).location ≠ .segA) (x : Handling) : u.waitsFor a request x = waits x := by
    rw [hplain h]
    exact State.waitsFor_congr (s.burstTaken_sd .a) (by rw [hseg]) x
  refine ⟨_, hrun, ?frame, fun n hl => ?port, fun hl => ?ports, fun hl => ?printer, fun hl hi => ?out, fun hl h1 h2 => ?passed,
    fun hl => ?unknown, fun hl => ?segA, fun hl => ?elsewhere⟩
  case frame =>
    have h1 := u.takeRequest_frame a request
    have h2 := TrunkAlone.takeUpBoth (u.takeRequest a request)
    generalize (u.takeRequest a request).takeUpBoth = t at h2
    generalize u.takeRequest a request = v at h1 h2
    unfold TrunkAlone at h2 htrunk
    rw [h2, h1, htrunk]
  case port =>
    have hne : (s.entry a).location ≠ .segA := by rw [hl]; nofun
    obtain ⟨h1, h2⟩ := State.takeRequest_port (r := request) (s := u) (by rw [huentry]; exact hl)
    refine ⟨by rw [hpr, h1, hwaits hne], fun m hm => ?_, ?_⟩
    · rw [hport, h2, if_neg (by simpa using fun e _ => hm (by simp [e])), State.port_congr hports]
    · rw [hport, h2, State.port_congr hports]
      by_cases hr : request = .poll 0
      · rw [if_pos ⟨rfl, hr⟩, Port.acknowledge]
        by_cases hh : (s.port n).headSent = true
        · rw [if_pos hh, if_pos ⟨hr, hh⟩]
        · rw [if_neg hh, if_neg (fun e => hh e.2)]
      · rw [if_neg (fun e => hr e.2), if_neg (fun e => hr e.1)]
  case ports =>
    rw [State.takeUpBoth_ports, State.takeRequest_ports_kept (by rw [huentry]; exact hl), hports]
  case printer =>
    rw [hpr, State.takeRequest_printer (by rw [huentry]; exact hl), hwaits (by rw [hl]; nofun)]
  case out =>
    have hne : (s.entry a).location ≠ .segA := by rw [hl]; nofun
    rw [hpr, State.takeRequest_out (by rw [huentry]; exact hl), huentry, hwaits hne]
    rw [hplain hne, s.object_burstTaken]
    exact hi.imp (fun e => (State.segBIsolated_congr (by simp)).trans e) id
  case passed =>
    rw [hpr, State.takeRequest_passed (by rw [huentry]; exact hl)]
    · rw [hplain (by rw [hl]; nofun)]
      exact (State.segBIsolated_congr (by simp)).trans h1
    · rw [hplain (by rw [hl]; nofun), s.object_burstTaken]
      exact h2
  case unknown =>
    rw [hpr, State.takeRequest_idle (.inr (by rw [huentry]; exact hl))]
  case elsewhere =>
    rw [hhm, hau, hwatch, hplain hl, hseg]
    simp
  case segA =>
    have hu : u = ((s.burstTaken .a).missed .a).withWatch .a ⟨a, s.ti.segA.profile.deadline + 2⟩ := by
      have h := State.watchedFor_of_segA (s := s.burstTaken .a) (a := a) (by rw [hentry]; exact hl)
      rwa [hseg] at h
    have hbefore : ((s.burstTaken .a).seg .a).watch = s.ti.segA.watch := by
      rw [State.seg_a, hseg]
    refine ⟨?_, ?_, fun hw => ?_, fun w hw => ?_⟩
    · rw [hpr, State.takeRequest_idle (.inl (by rw [huentry]; exact hl))]
    · rw [hwatch, hu]
      exact congrArg Segment.watch (State.seg_withWatch _ .a _)
    · rw [hhm, hau, hu, State.missed_of_none (hbefore.trans hw)]
      simp
    · have hmissed := State.missed_of_some (hbefore.trans hw)
      obtain ⟨h1, h2, h3⟩ := (s.burstTaken .a).missed_objects .a w.station
      have hobj (o : ObjectId) : (u.takeRequest a request).takeUpBoth.object o =
          (((s.burstTaken .a).disarm .a).pollMiss .a w.station).object o := by
        refine State.object_congr ?_ o
        rw [hhm, hu, hmissed, State.withWatch_hm]
      have hrhm : (s.burstTaken .a).hm = s.hm := s.burstTaken_hm .a
      have hcharged (o : ObjectId) (x : Byte) : (s.burstTaken .a).charged o x = s.charged o x := s.charged_burstTaken .a o x
      refine ⟨?_, ?_, fun o ho => ?_, ?_⟩
      · rw [hobj, h1, hrhm, State.chargedStation, State.chargedStation, hcharged, s.entry_burstTaken, s.object_burstTaken]
      · rw [hobj, h2, hrhm, hcharged]
      · rw [hobj, h3 o ho, s.object_burstTaken]
      · have h := ((s.burstTaken .a).missed_charges .a).settings
        unfold HealthSettingsKept at h ⊢
        rwa [hrhm, ← State.withWatch_hm _ .a ⟨a, s.ti.segA.profile.deadline + 2⟩, ← hu, ← hhm] at h

end Sys2Proof.Machine
end

section
/-! PROOF. The probe exchanges: their beginning, their reply and their ends (R149 to R155). -/

namespace Sys2Proof.Machine

variable {s t u r : State} {k : ProbeKind} {a : Address} {o : ObjectId} {p : Probe}

/-! ### What the outcome of an exchange does (R153, R155) -/

/-- The object that an exchange probes. -/
def targetOf (k : ProbeKind) (a : Address) : ObjectId := if k = .segment then .segment .b else .station a

theorem Probe.object_eq (ph : ProbePhase) (k : ProbeKind) (a : Address) : (⟨ph, k, a⟩ : Probe).object = targetOf k a := by
  cases k <;> rfl

theorem targetOf_ne_port (k : ProbeKind) (a : Address) (n : PortNo) : targetOf k a ≠ .port n := by
  cases k <;> nofun

theorem State.setProbe_alone (s : State) (x : Option Probe) : TrunkAlone s (s.setProbe x) := rfl

theorem State.probeOutcome_charges (s : State) (ph : ProbePhase) (k : ProbeKind) (a : Address) (ok : Bool) :
    ChargesOnly (s.setProbe none) (s.probeOutcome ⟨ph, k, a⟩ ok) := by
  unfold State.probeOutcome
  dsimp only
  rw [Probe.object_eq]
  split
  · exact (State.probeCredit_ordered _ _).charges (targetOf_ne_port k a)
  · exact (State.probeFailure_ordered _ _).charges (targetOf_ne_port k a)

theorem State.probeOutcome_over (s : State) (ph : ProbePhase) (k : ProbeKind) (a : Address) (ok : Bool) :
    (s.probeOutcome ⟨ph, k, a⟩ ok).hm.probe = none := by
  obtain h | h := (s.probeOutcome_charges ph k a ok).probe
  · exact h
  · exact h

theorem State.object_probeOutcome (s : State) (ph : ProbePhase) (k : ProbeKind) (a : Address) (o : ObjectId) :
    (s.probeOutcome ⟨ph, k, a⟩ false).object o = if o = targetOf k a then s.penalized (targetOf k a) else s.object o := by
  unfold State.probeOutcome
  dsimp only
  rw [Probe.object_eq, if_neg Bool.false_ne_true, State.object_probeFailure, State.object_setProbe]
  exact if_congr Iff.rfl (by cases k <;> rfl) rfl

theorem State.object_probeOutcome_ok (s : State) (ph : ProbePhase) (k : ProbeKind) (a : Address) (o : ObjectId) :
    (s.probeOutcome ⟨ph, k, a⟩ true).object o = if o = targetOf k a then s.credited (targetOf k a) else s.object o := by
  unfold State.probeOutcome
  dsimp only
  rw [Probe.object_eq, if_pos rfl, State.object_probeCredit, State.object_setProbe]
  exact if_congr Iff.rfl (by cases k <;> rfl) rfl

/-- An exchange that fails. -/
def ProbeFails (s : State) (k : ProbeKind) (a : Address) (t : State) : Prop :=
  t.object (targetOf k a) = s.penalized (targetOf k a) ∧ ObjectsKeptBut s t [targetOf k a] ∧
    HealthSettingsKept s t ∧ t = { s with ti := t.ti, hm := t.hm, au := t.au } ∧ t.hm.probe = none

theorem State.probeOutcome_fails (s : State) (ph : ProbePhase) (k : ProbeKind) (a : Address) :
    ProbeFails s k a (s.probeOutcome ⟨ph, k, a⟩ false) := by
  have h := s.probeOutcome_charges ph k a false
  refine ⟨by rw [State.object_probeOutcome, if_pos rfl], fun o ho => ?_, h.settings, (s.setProbe_alone none).trans h.alone,
    s.probeOutcome_over ph k a false⟩
  rw [State.object_probeOutcome, if_neg (by simpa using ho)]

/-! ### The target's reply, and another's (R153) -/

theorem State.probeFailure_mapRx {g : Seg} {f : TrunkRx → TrunkRx} (ho : ∀ n, o ≠ .port n) :
    (s.mapRx g f).probeFailure o = (s.probeFailure o).mapRx g f := by
  unfold State.probeFailure
  rw [State.object_mapRx, State.mapRx_hm, State.addScore_mapRx ho]
  exact (apply_ite (State.mapRx · g f) _ _ _).symm

theorem State.probeOutcome_addressed (s : State) (ph : ProbePhase) (g : Seg) (kind : BurstKind) (b : Address) :
    (s.addressed g kind b).probeOutcome ⟨ph, k, a⟩ false = (s.probeOutcome ⟨ph, k, a⟩ false).addressed g kind b := by
  unfold State.probeOutcome
  dsimp only
  rw [Probe.object_eq, if_neg Bool.false_ne_true, if_neg Bool.false_ne_true, State.addressed_eq_mapRx, State.addressed_eq_mapRx,
    State.setProbe_mapRx, State.probeFailure_mapRx (targetOf_ne_port k a)]

/-- Clause: the target's REPLY takes AWAITING to REPLY_IN, and another's is handed on once the exchange has failed. -/
theorem addressCharacterTaken_awaited {w quiet : Nat} (hp : s.hm.probe = some ⟨.awaiting w, k, a⟩) (htx : s.ti.segB.tx = .idle)
    (haw : s.ti.segB.rx.awaitsAddress = true) (hw : s.ti.segB.watch = none) :
    exec (.addressCharacterTaken .b .reply a quiet) s = .next { s with
      ti := { s.ti with segB := { s.ti.segB with
        rx := { s.ti.segB.rx with address := some (.reply, a), endsInMark := true } } }
      hm := { s.hm with probe := some ⟨.replyIn, k, a⟩ } } ∧
    ∀ b, b ≠ a → ∃ t, exec .probeWindowExpiry s = .next t ∧
      exec (.addressCharacterTaken .b .reply b quiet) s = exec (.addressCharacterTaken .b .reply b quiet) t := by
  have hawaits (b : Address) : s.awaitsReply b = (a == b) := by simp only [State.awaitsReply, hp]
  have hstep (b : Address) := State.addressTaken_unwatched (g := .b) (a := b) (quiet := quiet) htx haw hw
  have hpr (b : Address) : (s.addressed .b .reply b).hm.probe = some ⟨.awaiting w, k, a⟩ := by rw [State.addressed_hm, hp]
  refine ⟨congrArg Host.Outcome.next ((hstep a).trans ?_), fun b hb => ⟨s.probeOutcome ⟨.awaiting w, k, a⟩ false, ?_, ?_⟩⟩
  · have hsees : (s.addressed .b .reply a).probeSees a = (s.addressed .b .reply a).setProbe (some ⟨.replyIn, k, a⟩) := by
      unfold State.probeSees
      rw [hpr]
      exact if_pos rfl
    rw [State.replyHandedOn, hsees, hawaits, State.forwardToA, if_neg (by simp [State.mayForwardToA])]
    rfl
  · have hrun : exec .probeWindowExpiry s = .next (match s.hm.probe with
        | some ⟨.awaiting w, k, t⟩ => s.probeOutcome ⟨.awaiting w, k, t⟩ false
        | _ => s) := rfl
    rw [hrun, hp]
  · have heased := (s.probeOutcome_charges (.awaiting w) k a false).eased .b
    have hover := s.probeOutcome_over (.awaiting w) k a false
    refine congrArg Host.Outcome.next ((hstep b).trans (Eq.trans ?_ (State.addressTaken_unwatched (heased.idle htx)
      (by rw [heased.rx]; exact haw) (heased.no_watch hw)).symm))
    have hleft : (s.addressed .b .reply b).probeSees b = (s.probeOutcome ⟨.awaiting w, k, a⟩ false).addressed .b .reply b := by
      unfold State.probeSees
      rw [hpr]
      exact (if_neg (Ne.symm hb)).trans (s.probeOutcome_addressed ..)
    generalize s.probeOutcome ⟨.awaiting w, k, a⟩ false = v at *
    have hright : (v.addressed .b .reply b).probeSees b = v.addressed .b .reply b := by
      unfold State.probeSees
      rw [State.addressed_hm, hover]
    have hnone : v.awaitsReply b = false := by simp only [State.awaitsReply, hover]
    rw [State.replyHandedOn, State.replyHandedOn, hleft, hright, hawaits, hnone, beq_false_of_ne (Ne.symm hb)]

/-! ### What a charge of segment B leaves of the exchange (R34, R152) -/

theorem State.cutSegmentB_hm_probe (s : State) : s.cutSegmentB.hm.probe =
    ((s.stopCopy .a).stopCopy .b).abandonStationProbe.hm.probe := by
  unfold State.cutSegmentB
  dsimp only
  rw [State.takeUpBoth_hm]
  rfl

/-- An exchange past PENDING stands over a charge of segment B, but for a station's when segment B is isolated by it. -/
theorem State.chargeSegment_b_probe {ph : ProbePhase} {w : Byte} (h : s.hm.probe = some ⟨ph, k, a⟩) (hph : ph ≠ .pending) :
    (s.chargeSegment .b w).hm.probe =
      if k = .station ∧ s.segBIsolated = false ∧ (s.charged (.segment .b) w).state = .isolated then none else s.hm.probe := by
  have hafter : (s.chargeSegment .b w).object (.segment .b) = s.charged (.segment .b) w := by
    rw [State.object_chargeSegment, if_pos rfl]
  obtain ⟨u, hu, ⟨e, hiff⟩ | ⟨hbefore, hi, e⟩ | ⟨hbefore, -, e⟩⟩ := s.chargeSegment_ordered .b w
  · rw [hafter] at hiff
    rw [if_neg (fun hc => ?_), e, hu.probe]
    exact (State.segBIsolated_eq_false.mp hc.2.1) (hiff.mp hc.2.2)
  · rw [hafter] at hi
    have hstops : ((u.stopCopy .a).stopCopy .b).hm.probe = some ⟨ph, k, a⟩ := by simp [hu.probe, h]
    have hcut : u.cutSegmentB.hm.probe = if k = .station then none else s.hm.probe := by
      rw [State.cutSegmentB_hm_probe]
      unfold State.abandonStationProbe
      rw [hstops]
      cases k
      · cases ph <;> exact hstops.trans h.symm
      · cases ph <;> rfl
    rw [e]
    refine hcut.trans (if_congr ⟨fun hk => ⟨hk, State.segBIsolated_eq_false.mpr hbefore, hi⟩, fun hc => hc.1⟩ rfl rfl)
  · rw [if_neg (fun hc => (State.segBIsolated_eq_false.mp hc.2.1) hbefore), e]
    have hkept : u.restoreSegmentB.hm.probe = u.hm.probe := by
      unfold State.restoreSegmentB
      rw [hu.probe, h]
      cases ph
      · exact absurd rfl hph
      all_goals exact hu.probe.trans h
    exact hkept.trans hu.probe

/-! ### A reply that is lost (R153, R155) -/

/-- The settings and the directory being as in `s`, failures agree where the object does. -/
theorem State.penalized_of_object (ho : t.object o = u.object o) (hs : HealthSettingsKept u t)
    (he : ∀ b, o = .station b → (t.entry b).location = (u.entry b).location) : t.penalized o = u.penalized o := by
  obtain ⟨hsuspect, hisolate, hreadmit, -, -, -, hweights⟩ := hs
  unfold State.penalized
  rw [ho, hweights, State.charged_of_object ho hreadmit hisolate hsuspect he]

theorem TrunkAlone.sparing_sd (h : TrunkAlone s t) : t = { s with sd := t.sd, ti := t.ti, hm := t.hm, au := t.au } := by
  unfold TrunkAlone at h
  rw [h]

/-- A burst in REPLY_IN that is charged: segment B by a weight, its station as given, and the probed object by the penalty after it. -/
def ReplyLost (s : State) (k : ProbeKind) (a : Address) (w : Byte) (station : HealthObject) (t : State) : Prop :=
  (t = { s with sd := t.sd, ti := t.ti, hm := t.hm, au := t.au } ∧ t.hm.probe = none) ∧ t.sd = s.sd ∧
    ObjectsKeptBut s t [.segment .b, .station a] ∧
    t.object (.segment .b) =
      (if k = .segment then (s.setObject (.segment .b) (s.charged (.segment .b) w)).penalized (.segment .b)
      else s.charged (.segment .b) w) ∧
    t.object (.station a) =
      (if k = .segment ∨ s.segBIsolated = false ∧ (s.charged (.segment .b) w).state = .isolated then station
      else (s.setObject (.station a) station).penalized (.station a))

theorem HealthSettingsKept.trans (h1 : HealthSettingsKept s t) (h2 : HealthSettingsKept t u) : HealthSettingsKept s u := by
  obtain ⟨a1, a2, a3, a4, a5, a6, a7⟩ := h1
  obtain ⟨b1, b2, b3, b4, b5, b6, b7⟩ := h2
  exact ⟨b1.trans a1, b2.trans a2, b3.trans a3, b4.trans a4, b5.trans a5, b6.trans a6, b7.trans a7⟩

theorem HealthSettingsKept.setObject_left (h : HealthSettingsKept s t) (o : ObjectId) (x : HealthObject) :
    HealthSettingsKept (s.setObject o x) t := by
  simpa [HealthSettingsKept] using h

/-- The charge of segment B, and then the failure of the exchange unless the charge ended it. -/
theorem ReplyLost.of_charge (halone : TrunkAlone s r) (hset : HealthSettingsKept s r) (hprobe : r.hm.probe = some ⟨.replyIn, k, a⟩)
    (hothers : ∀ o, o ≠ .station a → r.object o = s.object o) (w : Byte) :
    ReplyLost s k a w (r.object (.station a)) (((r.chargeSegment .b w).probeReplyEnds .b false).takeUpBoth) := by
  have hsegB : r.object (.segment .b) = s.object (.segment .b) := hothers _ nofun
  have hisolated : r.segBIsolated = s.segBIsolated := State.segBIsolated_congr (by rw [hsegB])
  have hcharged : r.charged (.segment .b) w = s.charged (.segment .b) w := by
    obtain ⟨hsuspect, hisolate, hreadmit, -⟩ := hset
    exact State.charged_of_object hsegB hreadmit hisolate hsuspect nofun w
  have hcharges := r.chargeSegment_charges .b w
  have hpr := State.chargeSegment_b_probe (w := w) hprobe nofun
  have hobj (o : ObjectId) := r.object_chargeSegment .b w o
  rw [hcharged] at hpr
  simp only [hcharged] at hobj
  generalize r.chargeSegment .b w = v at *
  have hv : TrunkAlone s v := halone.trans hcharges.alone
  have hvset : HealthSettingsKept s v := hset.trans hcharges.settings
  have hvB : v.object (.segment .b) = s.charged (.segment .b) w := (hobj _).trans (if_pos rfl)
  have hvst : v.object (.station a) = r.object (.station a) := (hobj _).trans (if_neg nofun)
  by_cases hc : k = .station ∧ r.segBIsolated = false ∧ (s.charged (.segment .b) w).state = .isolated
  · have hk : k ≠ .segment := fun e => nomatch e.symm.trans hc.1
    have hstays : v.probeReplyEnds .b false = v := State.probeReplyEnds_of_ne _ (fun _ p hp => by
      rw [hpr, if_pos hc] at hp; exact nomatch hp) false
    rw [hstays]
    refine ⟨⟨(hv.trans (.takeUpBoth v)).sparing_sd, by rw [State.takeUpBoth_hm, hpr, if_pos hc]⟩, by rw [State.takeUpBoth_sd, hv.sd],
      fun o ho => ?_, ?_, ?_⟩
    · simp only [List.mem_cons, List.not_mem_nil, or_false, not_or] at ho
      rw [State.object_takeUpBoth, hobj, if_neg ho.1, hothers o ho.2]
    · rw [State.object_takeUpBoth, hvB, if_neg hk]
    · rw [State.object_takeUpBoth, hvst, if_pos (.inr ⟨hisolated ▸ hc.2.1, hc.2.2⟩)]
  · have hkept : v.hm.probe = some ⟨.replyIn, k, a⟩ := by rw [hpr, if_neg hc, hprobe]
    have hends : v.probeReplyEnds .b false = v.probeOutcome ⟨.replyIn, k, a⟩ false := by
      unfold State.probeReplyEnds
      rw [hkept]
    obtain ⟨htarget, hobjects, -, hframe, hover⟩ := v.probeOutcome_fails .replyIn k a
    rw [hends]
    generalize v.probeOutcome ⟨.replyIn, k, a⟩ false = z at *
    have hz : TrunkAlone s z := hv.trans hframe
    refine ⟨⟨(hz.trans (.takeUpBoth z)).sparing_sd, by rw [State.takeUpBoth_hm, hover]⟩, by rw [State.takeUpBoth_sd, hz.sd],
      fun o ho => ?_, ?_, ?_⟩
    · simp only [List.mem_cons, List.not_mem_nil, or_false, not_or] at ho
      have hne : o ≠ targetOf k a := by cases k; exacts [ho.1, ho.2]
      rw [State.object_takeUpBoth, hobjects o (by simpa using hne), hobj, if_neg ho.1, hothers o ho.2]
    · rw [State.object_takeUpBoth]
      cases k with
      | segment =>
        rw [if_pos rfl]
        refine htarget.trans (State.penalized_of_object (hvB.trans (by simp [targetOf])) (hvset.setObject_left _ _) nofun)
      | station => rw [if_neg nofun, hobjects _ (by simp [targetOf]), hvB]
    · rw [State.object_takeUpBoth]
      cases k with
      | segment => rw [if_pos (.inl rfl), hobjects _ (by simp [targetOf]), hvst]
      | station =>
        rw [if_neg (fun h => h.elim nofun (fun h => hc ⟨rfl, hisolated ▸ h.1, h.2⟩))]
        refine htarget.trans (State.penalized_of_object (hvst.trans (by simp [targetOf])) (hvset.setObject_left _ _)
          fun b _ => ?_)
        rw [congrFun hv.entry b]
        simp

/-! ### The ends in REPLY_IN -/

theorem State.burstEnds_eq {g : Seg} {inside : Bool} {v : Verdict} (htx : (s.seg g).tx = .idle)
    (hphase : (s.seg g).rx.phase = .inBurst) (hv : (s.seg g).rx.verdict inside = v) : s.burstEnds g inside =
      (((s.burstTaken g).applyVerdict g (s.seg g).rx v).probeReplyEnds g (v == .valid)).takeUpBoth := by
  subst hv
  unfold State.burstEnds
  dsimp only
  rw [if_pos (by rw [Segment.takesBits_of_idle htx, hphase]; rfl)]
  rfl

theorem State.burstTaken_settings (s : State) (g : Seg) : HealthSettingsKept s (s.burstTaken g) := by simp [HealthSettingsKept]

theorem State.applyVerdict_truncated (s : State) (r : TrunkRx) :
    (s.burstTaken .b).applyVerdict .b r .truncated = (s.burstTaken .b).chargeSegment .b s.hm.weights.truncated := by
  unfold State.applyVerdict
  rw [s.burstTaken_hm]

theorem State.applyVerdict_malformed (s : State) (r : TrunkRx) :
    (s.burstTaken .b).applyVerdict .b r .malformed = (s.burstTaken .b).chargeSegment .b s.hm.weights.malformed := by
  unfold State.applyVerdict
  rw [s.burstTaken_hm]

/-- Clause: a burst that ends without its address's verdict loses the probe's reply. -/
theorem burstEnd_lost {inside : Bool} {v : Verdict} {w : Byte} (hp : s.hm.probe = some ⟨.replyIn, k, a⟩) (htx : s.ti.segB.tx = .idle)
    (hphase : s.ti.segB.rx.phase = .inBurst) (hv : s.ti.segB.rx.verdict inside = v) (hne : (v == .valid) = false)
    (hcharge : (s.burstTaken .b).applyVerdict .b s.ti.segB.rx v = (s.burstTaken .b).chargeSegment .b w) :
    Leads (.burstEnd .b inside) s (ReplyLost s k a w (s.object (.station a))) := by
  have hrun := State.burstEnds_eq (g := .b) htx hphase hv
  rw [hne, State.seg_b, hcharge] at hrun
  have hlost := ReplyLost.of_charge (k := k) (a := a) (s.burstTaken_trunk .b) (s.burstTaken_settings .b) (by simpa using hp)
    (fun o _ => s.object_burstTaken .b o) w
  rw [s.object_burstTaken] at hlost
  exact ⟨_, congrArg Host.Outcome.next hrun, hlost⟩

/-- Clause: a reply with a check error, which charges its station too while it lives on segment B (R27, R129). -/
theorem burstEnd_checkError (hp : s.hm.probe = some ⟨.replyIn, k, a⟩) (htx : s.ti.segB.tx = .idle)
    (hphase : s.ti.segB.rx.phase = .inBurst) (haddress : s.ti.segB.rx.address = some (.reply, a))
    (hends : s.ti.segB.rx.endsInMark = false) (hwell : s.ti.segB.rx.malformed = false)
    (hcount : countSuits .reply s.ti.segB.rx.body.length = true) (hsum : byteSum s.ti.segB.rx.body ≠ 0) :
    Leads (.burstEnd .b false) s (ReplyLost s k a s.hm.weights.segmentCheckError
      (if (s.entry a).location = .segB then s.charged (.station a) s.hm.weights.stationCheckError else s.object (.station a))) := by
  have hv : s.ti.segB.rx.verdict false = .checkError := by
    simpa [TrunkRx.verdict, haddress, hwell, hends, hcount] using hsum
  let r := if (s.entry a).location = .segB then (s.burstTaken .b).chargeStation a s.hm.weights.stationCheckError else s.burstTaken .b
  have hverdict : (s.burstTaken .b).applyVerdict .b s.ti.segB.rx .checkError = r.chargeSegment .b s.hm.weights.segmentCheckError := by
    unfold State.applyVerdict
    dsimp only
    rw [haddress]
    dsimp only
    rw [s.entry_burstTaken, s.burstTaken_hm]
    rfl
  have hrun := State.burstEnds_eq (g := .b) htx hphase hv
  rw [State.seg_b, hverdict] at hrun
  have hrset : HealthSettingsKept s r := by
    simp only [r]
    split
    · exact (s.burstTaken_settings .b).trans (State.chargeStation_charges _ _ _).settings
    · exact s.burstTaken_settings .b
  have halone : TrunkAlone s r := by
    simp only [r]
    split
    · exact (s.burstTaken_trunk .b).trans (State.chargeStation_charges _ _ _).alone
    · exact s.burstTaken_trunk .b
  have hprobe : r.hm.probe = some ⟨.replyIn, k, a⟩ := by
    simp only [r]
    split
    · rw [State.chargeStation_probe (p := ⟨.replyIn, k, a⟩) (by simpa using hp) nofun, s.burstTaken_hm, hp]
    · rw [s.burstTaken_hm, hp]
  have hothers (o : ObjectId) (ho : o ≠ .station a) : r.object o = s.object o := by
    simp only [r]
    split
    · rw [State.object_chargeStation, if_neg ho, s.object_burstTaken]
    · exact s.object_burstTaken .b o
  have hstation : r.object (.station a) =
      if (s.entry a).location = .segB then s.charged (.station a) s.hm.weights.stationCheckError else s.object (.station a) := by
    simp only [r]
    by_cases hl : (s.entry a).location = .segB
    · rw [if_pos hl, if_pos hl, State.object_chargeStation, if_pos rfl, State.chargedStation, s.entry_burstTaken,
        if_pos (by rw [hl]; rfl), s.charged_burstTaken]
    · rw [if_neg hl, if_neg hl, s.object_burstTaken]
  rw [← hstation]
  exact ⟨_, congrArg Host.Outcome.next hrun, .of_charge halone hrset hprobe hothers _⟩

/-- Clause: the valid reply of a station that lives on segment B (R13, R153, R155). -/
theorem burstEnd_credited (hp : s.hm.probe = some ⟨.replyIn, k, a⟩) (htx : s.ti.segB.tx = .idle)
    (hphase : s.ti.segB.rx.phase = .inBurst) (haddress : s.ti.segB.rx.address = some (.reply, a))
    (hends : s.ti.segB.rx.endsInMark = false) (hwell : s.ti.segB.rx.malformed = false)
    (hcount : countSuits .reply s.ti.segB.rx.body.length = true) (hsum : byteSum s.ti.segB.rx.body = 0)
    (hl : (s.entry a).location = .segB) :
    Leads (.burstEnd .b false) s fun t =>
      (t = { s with sd := t.sd, ti := t.ti, hm := t.hm, au := t.au } ∧ t.hm.probe = none) ∧
      t.object (targetOf k a) = s.credited (targetOf k a) ∧
      ObjectsKeptBut s t [targetOf k a] ∧ t.entry a = { s.entry a with age := 0 } ∧ EntriesKeptBut s t [a] := by
  let u := (s.burstTaken .b).setEntry a { s.entry a with age := 0 }
  have hrun := s.burstEnds_of_validReply (g := .b) htx hphase haddress (TrunkRx.verdict_valid haddress hwell hends hcount hsum)
  have hlearn : (s.burstTaken .b).learn .b a = u := by
    rw [State.learn_of_here (by rw [s.entry_burstTaken]; exact hl), s.entry_burstTaken]
  have hends : u.probeReplyEnds .b true = u.probeOutcome ⟨.replyIn, k, a⟩ true := by
    have hup : u.hm.probe = some ⟨.replyIn, k, a⟩ := by simpa [u] using hp
    unfold State.probeReplyEnds
    rw [hup]
  rw [hlearn, hends] at hrun
  have hcharges := u.probeOutcome_charges .replyIn k a true
  have hobj (o : ObjectId) := u.object_probeOutcome_ok .replyIn k a o
  have hover := u.probeOutcome_over .replyIn k a true
  have hobject (o : ObjectId) : u.object o = s.object o := by simp [u]
  have hcredited : u.credited (targetOf k a) = s.credited (targetOf k a) := by
    have hhm : u.hm = s.hm := by simp [u]
    unfold State.credited
    rw [hobject, hhm]
    refine if_congr Iff.rfl (State.judged_congr _ (by rw [hobject]) (by rw [hobject]) (by rw [hhm]) (by rw [hhm]) (by rw [hhm])
      fun b hb => ?_) rfl
    cases k
    · exact nomatch hb
    · cases hb
      simp [u]
  have hsd : u.sd = (s.setEntry a { s.entry a with age := 0 }).sd := by simp [u, State.setEntry]
  have hu : u = { s with sd := u.sd, ti := u.ti, hm := u.hm, au := u.au } := by
    have h := s.burstTaken_trunk .b
    simp only [u]
    generalize s.burstTaken .b = r at *
    rw [h]
    rfl
  have hend : TrunkAlone u (u.probeOutcome ⟨.replyIn, k, a⟩ true).takeUpBoth :=
    ((u.setProbe_alone none).trans hcharges.alone).trans (.takeUpBoth _)
  have hobjEnd (o : ObjectId) : (u.probeOutcome ⟨.replyIn, k, a⟩ true).takeUpBoth.object o =
      if o = targetOf k a then s.credited (targetOf k a) else s.object o := by
    rw [State.object_takeUpBoth, hobj, hcredited, hobject]
  have hoverEnd : (u.probeOutcome ⟨.replyIn, k, a⟩ true).takeUpBoth.hm.probe = none := by rw [State.takeUpBoth_hm, hover]
  refine ⟨_, congrArg Host.Outcome.next hrun, ?_⟩
  generalize (u.probeOutcome ⟨.replyIn, k, a⟩ true).takeUpBoth = t at *
  have htsd : t.sd = (s.setEntry a { s.entry a with age := 0 }).sd := hend.sd.trans hsd
  refine ⟨⟨?_, hoverEnd⟩, by rw [hobjEnd, if_pos rfl], fun o ho => ?_, ?_, fun b hb => ?_, ?_⟩
  · unfold TrunkAlone at hend
    rw [hu] at hend
    rw [hend]
  · rw [hobjEnd, if_neg (by simpa using ho)]
  · rw [State.entry_congr htsd, State.entry_setEntry]
  · rw [State.entry_congr htsd, State.entry_setEntry_eq, if_neg (by simpa using hb)]
  · rw [htsd]
    rfl

/-- Clause: the jabber limit in REPLY_IN (R24, R148, R153). -/
theorem jabber_lost (hp : s.hm.probe = some ⟨.replyIn, k, a⟩) (htx : s.ti.segB.tx = .idle) :
    Leads (.jabber .b) s fun t => ReplyLost s k a s.hm.weights.jabber (s.object (.station a)) t ∧ t.hm.jabberMark = true := by
  have hhm : (s.jabberCut .b).hm = s.hm := by
    have hjabbering : (s.jabbering .b).hm = s.hm := by simp [State.jabbering]
    have hcut : ((s.jabbering .b).cutCopy .a).hm = (s.jabbering .b).hm := by
      have harm (u : State) (c : Copy) : u.armAfterCopy .a c = u := if_neg (fun h => nomatch h.1)
      unfold State.cutCopy
      split
      · rfl
      · split
        · rfl
        · rw [harm, ite_self, State.stopCopy_hm]
    unfold State.jabberCut
    split
    · exact hcut.trans hjabbering
    · exact hjabbering
  let r := (s.jabberCut .b).jabberMarked .b
  have hrhm : r.hm = { s.hm with jabberMark := true } := by rw [← hhm]; rfl
  have halone : TrunkAlone s r := ((TrunkAlone.setSeg s .b _).trans (s.jabberCut_arms .b).alone).trans rfl
  have hobject (o : ObjectId) : r.object o = s.object o := by
    rcases o with (_ | _) | n | b <;> simp only [State.object, hrhm]
  have hrun := State.jabbers_eq (g := .b) htx
  rw [State.chargeJabber_eq, hhm] at hrun
  have hlost := ReplyLost.of_charge (r := r) (k := k) (a := a) halone (by rw [HealthSettingsKept, hrhm]; simp) (by rw [hrhm]; exact hp)
    (fun o _ => hobject o) s.hm.weights.jabber
  rw [hobject] at hlost
  refine ⟨_, congrArg Host.Outcome.next hrun, hlost, ?_⟩
  have hmark : (r.chargeSegment .b s.hm.weights.jabber).hm.jabberMark = true := by
    rw [(r.chargeSegment_charges .b _).mark, hrhm]
  rw [State.takeUpBoth_hm]
  show ((r.chargeSegment .b s.hm.weights.jabber).probeReplyEnds .b false).hm.jabberMark = true
  generalize r.chargeSegment .b s.hm.weights.jabber = v at *
  unfold State.probeReplyEnds
  split
  · exact (v.probeOutcome_charges _ _ _ _).mark.trans hmark
  · exact hmark

/-! ### The beginning of a poll (R151, R152) -/

/-- Clause: a PENDING poll begins (R149, R151, R152). -/
theorem probePollStart_begins {quiet : Nat} (hp : s.hm.probe = some ⟨.pending, k, a⟩) (htx : s.ti.segB.tx = .idle)
    (hact : s.ti.segB.activity = none) (hq : 2 ≤ quiet)
    (hstation : k = .station → s.ti.segA.copy = none ∧ s.ti.segB.copy = none ∧ s.ti.segB.watch = none) :
    exec (.probePollStart quiet) s = .next { s with
      ti := { s.ti with
        segB := { s.ti.segB with
          tx := .probe
          line := List.replicate s.ti.segB.profile.syncCount (dataChar s.ti.segB.profile.sync) ++
            addressChar .poll a :: burstBody [0x01] }
        gateB := if k = .segment then false else s.ti.gateB }
      hm := { s.hm with
        probe := some ⟨.sending, k, a⟩
        stationPointer := if k = .station then a + 1 else s.hm.stationPointer } } := by
  have hrun : exec (.probePollStart quiet) s = .next (match s.hm.probe with
      | some ⟨.pending, k, t⟩ => if s.probeMayStart k quiet then s.startProbe ⟨.pending, k, t⟩ else s
      | _ => s) := rfl
  have hmay : s.probeMayStart k quiet = true := by
    have hquiet : 1 ≤ quiet := by omega
    unfold State.probeMayStart
    cases k with
    | segment => simp [Segment.available, htx, hact, hq, hquiet]
    | station =>
      obtain ⟨h1, h2, h3⟩ := hstation rfl
      simp [Segment.available, State.noCopy, htx, hact, hq, hquiet, h1, h2, h3]
  rw [hrun, hp]
  dsimp only
  rw [if_pos hmay]
  cases k <;> rfl

/-- Settles O52: the clauses one by one, each end of a reply by its verdict. -/
theorem probeExchangesRunAndFail : Obligations.ProbeExchangesRunAndFail := by
  intro k a s target fails
  refine ⟨fun quiet hp htx hact hq hstation => probePollStart_begins hp htx hact hq hstation, fun hp hk => ?deadline, fun w hp => ?window,
    fun w quiet hp htx haw hw => addressCharacterTaken_awaited hp htx haw hw, fun hp htx => ⟨?credited, ?checkError, ?malformed,
      ?truncated, jabber_lost hp htx⟩⟩
  case deadline =>
    subst hk
    have hrun : exec .probePollDeadline s = .next (match s.hm.probe with
        | some ⟨.pending, .segment, t⟩ => s.probeOutcome ⟨.pending, .segment, t⟩ false
        | _ => s) := rfl
    rw [hp] at hrun
    exact ⟨_, hrun, s.probeOutcome_fails .pending .segment a⟩
  case window =>
    have hrun : exec .probeWindowExpiry s = .next (match s.hm.probe with
        | some ⟨.awaiting w, k, t⟩ => s.probeOutcome ⟨.awaiting w, k, t⟩ false
        | _ => s) := rfl
    rw [hp] at hrun
    exact ⟨_, hrun, s.probeOutcome_fails (.awaiting w) k a⟩
  case credited => exact burstEnd_credited hp htx
  case checkError => exact burstEnd_checkError hp htx
  case malformed =>
    intro hphase haddress hends hbad
    refine burstEnd_lost hp htx hphase (v := .malformed) ?_ rfl (s.applyVerdict_malformed _)
    simp only [TrunkRx.verdict, haddress, hends, Bool.or_false, Bool.false_eq_true, if_false]
    rw [if_pos (by simpa using hbad)]
  case truncated =>
    intro inside hphase hends
    refine burstEnd_lost hp htx hphase (v := .truncated) ?_ rfl (s.applyVerdict_truncated _)
    exact if_pos (by simpa using hends)

end Sys2Proof.Machine
end

section
/-! PROOF. The expiry of the probe timer (R148 to R157), and the evidence of a good frame on an ISOLATED port (R156). -/

namespace Sys2Proof.Machine

variable {s t u : State} {n m : PortNo}

/-! ### Credits and failures of an ISOLATED port -/

theorem State.readmitPort_frame (s : State) (n : PortNo) : s.readmitPort n = { s with ports := (s.readmitPort n).ports } := by
  unfold State.readmitPort
  split
  · exact State.notifyLink_ports
  · rfl

/-- An ISOLATED port that is judged stays so, or is readmitted. -/
theorem Ordered.readmits (h : Ordered s t (.port n)) (hi : (s.object (.port n)).state = .isolated) :
    ∃ v, ScoresAlone s v ∧ ((t = v ∧ (t.object (.port n)).state = .isolated) ∨
      (t = v.readmitPort n ∧ (t.object (.port n)).state ≠ .isolated)) := by
  obtain ⟨v, hv, ⟨e, hiff⟩ | ⟨hno, -, -⟩ | ⟨-, hn, e⟩⟩ := h
  · exact ⟨v, hv, .inl ⟨e, hiff.mpr hi⟩⟩
  · exact absurd hi hno
  · exact ⟨v, hv, .inr ⟨e, hn⟩⟩

/-- Two states differ in the ports, the records of the health objects and the Alert Unit alone. -/
def PortsJudged (s t : State) : Prop :=
  t = { s with
    hm := { s.hm with segA := t.hm.segA, segB := t.hm.segB, ports := t.hm.ports, stations := t.hm.stations }, ports := t.ports, au := t.au }

namespace PortsJudged

theorem refl (s : State) : PortsJudged s s := rfl

theorem trans (h1 : PortsJudged s t) (h2 : PortsJudged t u) : PortsJudged s u := by
  unfold PortsJudged at *
  rw [h1] at h2
  exact h2

theorem of_scores (h : ScoresAlone s t) : PortsJudged s t := by
  unfold ScoresAlone at h
  unfold PortsJudged
  rw [h]

theorem mapPort (s : State) (n : PortNo) (f : Port → Port) : PortsJudged s (s.mapPort n f) := rfl

theorem readmitPort (s : State) (n : PortNo) : PortsJudged s (s.readmitPort n) := by
  have h := s.readmitPort_frame n
  unfold PortsJudged
  generalize s.readmitPort n = t at *
  rw [h]

theorem settings (h : PortsJudged s t) : HealthSettingsKept s t := by
  unfold PortsJudged at h
  unfold HealthSettingsKept
  rw [h]
  exact ⟨rfl, rfl, rfl, rfl, rfl, rfl, rfl⟩

theorem foldl {α : Type} {f : State → α → State} (h : ∀ t a, PortsJudged t (f t a)) (l : List α) (s : State) :
    PortsJudged s (l.foldl f s) := by
  induction l generalizing s with
  | nil => exact .refl s
  | cons a l ih => exact (h s a).trans (ih _)

end PortsJudged

theorem Ordered.portsJudged (h : Ordered s t (.port n)) (hi : (s.object (.port n)).state = .isolated) : PortsJudged s t := by
  obtain ⟨v, hv, ⟨rfl, -⟩ | ⟨rfl, -⟩⟩ := h.readmits hi
  · exact .of_scores hv
  · exact (PortsJudged.of_scores hv).trans (.readmitPort v n)

/-- The marks of R156 and R157. -/
def Port.marks (p : Port) : Bool × Bool := (p.creditMark, p.breakMark)

theorem Port.marks_chooseFrame (p : Port) : p.chooseFrame.marks = p.marks := by
  unfold Port.chooseFrame
  (repeat' split) <;> rfl

theorem State.marks_readmitPort (s : State) (n : PortNo) : ((s.readmitPort n).port n).marks = (s.port n).marks := by
  unfold State.readmitPort
  split
  · rw [State.notifyLink, State.port_notify]
    split
    · rw [Port.queueNotice, Port.marks_chooseFrame, State.port_mapPort]
      rfl
    · rw [State.port_mapPort]
      rfl
  · rfl

theorem State.probeFailure_of_not_isolated {o : ObjectId} (h : (s.object o).state ≠ .isolated) : s.probeFailure o = s := if_neg h

theorem State.probeCredit_of_not_isolated {o : ObjectId} (h : (s.object o).state ≠ .isolated) : s.probeCredit o = s := if_neg h

theorem State.probeFailure_portsJudged (s : State) (n : PortNo) : PortsJudged s (s.probeFailure (.port n)) := by
  by_cases hi : (s.object (.port n)).state = .isolated
  · exact (s.probeFailure_ordered _).portsJudged hi
  · rw [State.probeFailure_of_not_isolated hi]
    exact .refl s

/-! ### The evidence of a good frame (R156) -/

theorem byteOf_toNat (b : Byte) : byteOf b.toNat = b := BitVec.ofNat_toNat 8 b

/-- A frame that completes good has that verdict (R70). -/
theorem CompletesGood.verdict {v : Byte} {pb sb : Bool} {kind : Byte} {payload : List Byte}
    (h : CompletesGood s n v pb sb kind payload) : (s.port n).frameVerdict (s.port n).rx false v = .good := by
  obtain ⟨-, -, -, hmark, hr, hkind, hlen, hpayload, hsum, hdesk, hsuits⟩ := h
  rw [← hlen, byteOf_toNat, ← hpayload, ← hkind] at hsum
  rw [Port.frameVerdict_unmarked hr hmark, if_neg (not_not.mpr hsum), hkind, hdesk, hlen, hsuits]
  rfl

theorem CompletesGood.exec_isolated {v : Byte} {pb sb : Bool} {kind : Byte} {payload : List Byte}
    (h : CompletesGood s n v pb sb kind payload) (hs : (s.port n).state = .isolated) :
    exec (.frameComplete n v pb sb) s = .next ((s.setPort n (s.port n).endFrame).portEvidence n) := by
  have hverdict := h.verdict
  obtain ⟨he, hb, hp, hmark, -⟩ := h
  have hexec := exec_frameComplete_check (Port.listens_iff.mpr ⟨hb, .inr (.inr (.inl hs))⟩) he hp
  simp only [Bool.or_false] at hexec
  have hst : ((s.mapPort n Port.endFrame).port n).state = .isolated := by rw [State.port_mapPort]; exact hs
  have happly : (s.mapPort n Port.endFrame).applyFrame n (s.port n).rx .good = (s.mapPort n Port.endFrame).portEvidence n := by
    unfold State.applyFrame
    rw [hst]
    exact if_pos rfl
  rw [hexec]
  unfold State.frameEnds
  simp only [hverdict]
  rw [happly, State.charError_false, State.frameEvent_none rfl]
  rfl

theorem State.credited_congr {o : ObjectId} (ho : t.object o = u.object o) (hs : HealthSettingsKept u t)
    (he : ∀ b, o = .station b → (t.entry b).location = (u.entry b).location) : t.credited o = u.credited o := by
  obtain ⟨hsuspect, hisolate, hreadmit, -, -, -, hweights⟩ := hs
  unfold State.credited
  rw [ho, hweights]
  exact if_congr Iff.rfl (State.judged_congr _ (by rw [ho]) (by rw [ho]) hreadmit hisolate hsuspect he) rfl

/-- Clause: the first good frame of the interval credits the port, a further one does nothing (R156). -/
theorem frameComplete_evidence {v : Byte} {pb sb : Bool} {kind : Byte} {payload : List Byte} (hs : (s.port n).state = .isolated)
    (hgood : CompletesGood s n v pb sb kind payload) :
    let p := s.port n
    (p.creditMark = true → exec (.frameComplete n v pb sb) s = .next (s.setPort n p.endFrame)) ∧
    (p.creditMark = false → Leads (.frameComplete n v pb sb) s fun t =>
      t.object (.port n) = s.credited (.port n) ∧ ObjectsKeptBut s t [.port n] ∧ PortsKeptBut s t [n] ∧
      HealthSettingsKept s t ∧ t = { s with ports := t.ports, hm := t.hm, au := t.au } ∧
      ((s.credited (.port n)).state = .isolated → t.port n = { p.endFrame with creditMark := true }) ∧
      ((s.object (.port n)).state = .isolated → (s.credited (.port n)).state ≠ .isolated →
        (t.port n).state = (if p.profile.peerUsed = true ∧ p.srdy = false then .detached else .online) ∧
        (t.port n).creditMark = true)) := by
  intro p
  have hexec := hgood.exec_isolated hs
  have hmark : ((s.setPort n p.endFrame).port n).creditMark = p.creditMark := by rw [State.port_setPort]; rfl
  refine ⟨fun hcredit => hexec.trans (congrArg Host.Outcome.next (if_pos (hmark.trans hcredit))), fun hcredit => ?_⟩
  let q : Port := { p.endFrame with creditMark := true }
  have hq : (s.setPort n p.endFrame).mapPort n (fun p => { p with creditMark := true }) = s.setPort n q := by
    simp [State.mapPort, q]
  have hstep : (s.setPort n p.endFrame).portEvidence n = (s.setPort n q).probeCredit (.port n) := by
    rw [← hq]
    exact if_neg (by rw [hmark, hcredit]; nofun)
  have hobject (o : ObjectId) : (s.setPort n q).object o = s.object o := by simp
  have hcredited : (s.setPort n q).credited (.port n) = s.credited (.port n) :=
    State.credited_congr (hobject _) (by simp [HealthSettingsKept]) nofun
  have hordered := (s.setPort n q).probeCredit_ordered (.port n)
  have hobj (o : ObjectId) := (s.setPort n q).object_probeCredit (.port n) o
  rw [hcredited] at hobj
  have hjudged : PortsJudged (s.setPort n q) ((s.setPort n q).probeCredit (.port n)) := by
    by_cases hi : ((s.setPort n q).object (.port n)).state = .isolated
    · exact hordered.portsJudged hi
    · rw [State.probeCredit_of_not_isolated hi]
      exact .refl _
  refine ⟨_, hexec.trans (congrArg Host.Outcome.next hstep), ?_⟩
  have htarget : ((s.setPort n q).probeCredit (.port n)).object (.port n) = s.credited (.port n) := (hobj _).trans (if_pos rfl)
  have hsettings := hjudged.settings
  refine ⟨htarget, fun o ho => ?_, fun m hm => ?_, hsettings, ?_, fun hstays => ?_, fun hi hreturns => ?_⟩
  · rw [hobj, if_neg (by simpa using ho), hobject]
  · rw [hordered.port_of_ne (by simpa using hm)]
    simp [show m ≠ n by simpa using hm]
  · unfold PortsJudged at hjudged
    generalize (s.setPort n q).probeCredit (.port n) = t at *
    rw [hjudged]
    rfl
  · have hbefore : (s.object (.port n)).state = .isolated := by
      by_contra hi
      rw [State.credited, if_neg hi] at hstays
      exact hi hstays
    have hscores := hordered.scores (by rw [htarget, hobject]; exact ⟨fun _ => hbefore, fun _ => hstays⟩)
    rw [hscores.port, State.port_setPort]
  · obtain ⟨v, hv, ⟨-, hout⟩ | ⟨e, -⟩⟩ := hordered.readmits (by rw [hobject]; exact hi)
    · rw [htarget] at hout
      exact absurd hout hreturns
    · have hport : v.port n = q := by rw [hv.port, State.port_setPort]
      have hstate : (v.port n).state = .isolated := by rw [hport]; exact hs
      rw [e]
      constructor
      · rw [State.readmitPort_port_state, if_pos rfl, Port.afterReadmission, if_pos hstate, Port.serviceState, hport]
        exact if_congr (Port.mustHold_iff q) rfl rfl
      · have h := v.marks_readmitPort n
        rw [hport] at h
        exact congrArg Prod.fst h

/-! ### The ports at an expiry (R156, R157) -/

/-- What an assessment does to its port's object. -/
theorem State.object_assessPort (s : State) (n : PortNo) (o : ObjectId) : (s.assessPort n).object o =
    if o = .port n ∧ (s.port n).state = .isolated ∧ (s.port n).breakMark = true then s.penalized (.port n) else s.object o := by
  unfold State.assessPort
  dsimp only
  by_cases hi : (s.port n).state = .isolated
  · rw [if_pos hi, State.object_mapPort]
    by_cases hb : (s.port n).breakMark = true
    · rw [if_pos hb, State.object_probeFailure]
      exact if_congr ⟨fun h => ⟨h, hi, hb⟩, fun h => h.1⟩ rfl rfl
    · rw [if_neg hb, if_neg (fun h => hb h.2.2)]
  · rw [if_neg hi, State.object_mapPort, if_neg (fun h => hi h.2.1)]

theorem State.assessPort_portsJudged (s : State) (n : PortNo) : PortsJudged s (s.assessPort n) := by
  unfold State.assessPort
  dsimp only
  split
  · split
    · exact (s.probeFailure_portsJudged n).trans (.mapPort _ n _)
    · exact .mapPort s n _
  · exact .mapPort s n _

theorem State.port_assessPort_of_ne (hm : m ≠ n) : (s.assessPort n).port m = s.port m := by
  unfold State.assessPort
  dsimp only
  split
  · rw [State.port_mapPort_of_ne _ _ hm]
    split
    · exact (s.probeFailure_ordered (.port n)).port_of_ne hm
    · rfl
  · rw [State.port_mapPort_of_ne _ _ hm]

/-- The marks of an assessed port start afresh. -/
theorem State.port_assessPort (s : State) (n : PortNo) : ((s.assessPort n).port n).creditMark = false ∧
    (((s.assessPort n).port n).state = .isolated →
      ((s.assessPort n).port n).breakMark = (s.port n).inBreak ∨ (s.port n).state ≠ .isolated) := by
  have hbreak : ((if (s.port n).breakMark then s.probeFailure (.port n) else s).port n).inBreak = (s.port n).inBreak := by
    split
    · obtain ⟨hview, -⟩ := (s.probeFailure_ordered (.port n)).port_self
      exact congrArg (·.2.1) hview
    · rfl
  unfold State.assessPort
  dsimp only
  split
  · rw [State.port_mapPort]
    exact ⟨rfl, fun _ => .inl hbreak⟩
  · next hi =>
    rw [State.port_mapPort]
    exact ⟨rfl, fun _ => .inr hi⟩

/-- Two states agree on a port, its object and the settings it is judged by. -/
def PortAgrees (n : PortNo) (s t : State) : Prop :=
  t.port n = s.port n ∧ t.object (.port n) = s.object (.port n) ∧ HealthSettingsKept s t

theorem PortAgrees.assessPorts {l : List PortNo} (hn : n ∉ l) (s : State) : PortAgrees n s (l.foldl State.assessPort s) := by
  induction l generalizing s with
  | nil => exact ⟨rfl, rfl, (PortsJudged.refl s).settings⟩
  | cons m l ih =>
    simp only [List.mem_cons, not_or] at hn
    obtain ⟨hm, hl⟩ := hn
    obtain ⟨h1, h2, h3⟩ := ih hl (s.assessPort m)
    refine ⟨h1.trans (State.port_assessPort_of_ne hm), h2.trans ?_, (s.assessPort_portsJudged m).settings.trans h3⟩
    rw [State.object_assessPort, if_neg (fun h => hm (ObjectId.port.inj h.1))]

/-- Each port is assessed once, as it stood before (R156, R157). -/
theorem State.assessPorts_spec (s : State) (n : PortNo) : let t := (List.finRange 8).foldl State.assessPort s
    t.object (.port n) =
      (if (s.port n).state = .isolated ∧ (s.port n).breakMark = true then s.penalized (.port n) else s.object (.port n)) ∧
    (t.port n).creditMark = false ∧
    ((t.port n).state = .isolated → (t.port n).breakMark = (s.port n).inBreak ∨ (s.port n).state ≠ .isolated) := by
  intro t
  obtain ⟨l1, l2, hl⟩ := List.append_of_mem (List.mem_finRange n)
  have hnodup := List.nodup_finRange 8
  rw [hl, List.nodup_middle, List.nodup_cons, List.mem_append, not_or] at hnodup
  obtain ⟨⟨hn1, hn2⟩, -⟩ := hnodup
  have ht : t = l2.foldl State.assessPort ((l1.foldl State.assessPort s).assessPort n) := by
    simp only [t, hl, List.foldl_append, List.foldl_cons]
  obtain ⟨hport1, hobj1, hset1⟩ := PortAgrees.assessPorts hn1 s
  obtain ⟨hport2, hobj2, -⟩ := PortAgrees.assessPorts hn2 ((l1.foldl State.assessPort s).assessPort n)
  obtain ⟨hcredit, hbreak⟩ := (l1.foldl State.assessPort s).port_assessPort n
  rw [← ht] at hport2 hobj2
  rw [← hport2] at hcredit hbreak
  rw [hport1] at hbreak
  refine ⟨hobj2.trans ?_, hcredit, hbreak⟩
  rw [State.object_assessPort, hport1, hobj1, State.penalized_of_object hobj1 hset1 nofun]
  exact if_congr ⟨fun h => h.2, fun h => ⟨rfl, h⟩⟩ rfl rfl

/-! ### Segment B and the stations at an expiry (R150, R152) -/

theorem firstFrom_eq_none {pointer : Address} {p : Address → Bool} : firstFrom pointer p = none ↔ ∀ a, p a = false := by
  unfold firstFrom
  rw [List.find?_eq_none]
  constructor
  · intro h a
    have := h a (List.mem_map.mpr ⟨a - pointer, List.mem_finRange _, by abel⟩)
    simpa using this
  · intro h a _
    simp [h a]

/-- What the assessments of segment B and the choice of a station leave as it was. -/
def AssessmentKeeps (s t : State) : Prop :=
  t.sd = s.sd ∧ t.sm = s.sm ∧ t.ports = s.ports ∧ HealthSettingsKept s t

theorem ChargesOnly.assessment (h : ChargesOnly s t) : AssessmentKeeps s t :=
  ⟨h.alone.sd, by rw [h.alone], h.alone.ports, h.settings⟩

/-- The assessment of an ISOLATED segment B (R150). -/
theorem State.assessSegment_spec (s : State) :
    let isB (a : Address) : Bool := (s.entry a).location == .segB
    AssessmentKeeps s s.assessSegment ∧
    (∀ o, s.assessSegment.object o =
      if o = .segment .b then
        if s.hm.jabberMark = true then s.penalized (.segment .b)
        else if ∀ a, isB a = false then s.credited (.segment .b)
        else s.object (.segment .b)
      else s.object o) ∧
    (s.hm.probe = none → s.hm.jabberMark = false → ∀ a, firstFrom s.hm.segmentPointer isB = some a →
      s.assessSegment.hm.probe = some ⟨.pending, .segment, a⟩ ∧ s.assessSegment.hm.segmentPointer = a + 1) := by
  intro isB
  have hself (o : ObjectId) : (if o = .segment .b then s.object (.segment .b) else s.object o) = s.object o := by
    split
    next h => rw [h]
    next => rfl
  unfold State.assessSegment
  by_cases hj : s.hm.jabberMark = true
  · simp only [hj, if_true]
    exact ⟨((s.probeFailure_ordered (.segment .b)).charges nofun).assessment, fun o => s.object_probeFailure _ o, nofun⟩
  · simp only [hj, Bool.false_eq_true, if_false]
    cases hf : firstFrom s.hm.segmentPointer fun a => (s.entry a).location == .segB with
    | none =>
      have hall : ∀ a, isB a = false := firstFrom_eq_none.mp hf
      refine ⟨((s.probeCredit_ordered (.segment .b)).charges nofun).assessment, fun o => ?_, fun _ _ a ha => nomatch ha⟩
      rw [if_pos hall]
      exact s.object_probeCredit _ o
    | some b =>
      have hsome : ¬ ∀ a, isB a = false := fun h => nomatch hf.symm.trans (firstFrom_eq_none.mpr h)
      simp only [if_neg hsome]
      by_cases hp : s.hm.probe.isSome = true
      · simp only [hp, if_true]
        exact ⟨(ChargesOnly.refl s).assessment, fun o => (hself o).symm, fun h => by rw [h] at hp; exact nomatch hp⟩
      · simp only [hp, Bool.false_eq_true, if_false]
        refine ⟨⟨rfl, rfl, rfl, rfl, rfl, rfl, rfl, rfl, rfl, rfl⟩, fun o => ?_, fun _ _ a ha => ?_⟩
        · rw [hself]
          rcases o with (_ | _) | m | c <;> rfl
        · obtain rfl : b = a := Option.some.inj ha
          exact ⟨rfl, rfl⟩

/-- The choice of a station to probe (R152). -/
theorem State.chooseStation_spec (s : State) :
    let out (a : Address) : Bool := (s.entry a).location == .segB && (s.object (.station a)).state == .isolated
    s.chooseStation = { s with hm := { s.hm with probe := s.chooseStation.hm.probe } } ∧
    (s.hm.probe = none ∨ (∃ a, s.hm.probe = some ⟨.pending, .station, a⟩) →
      s.chooseStation.hm.probe = (firstFrom s.hm.stationPointer out).map fun a => ⟨.pending, .station, a⟩) ∧
    (∀ ph k a, s.hm.probe = some ⟨ph, k, a⟩ → ¬ (ph = .pending ∧ k = .station) → s.chooseStation.hm.probe = s.hm.probe) := by
  intro out
  let r := if s.hm.probe.any Probe.lapsed then s.setProbe none else s
  have hr : r = { s with hm := { s.hm with probe := r.hm.probe } } := by
    simp only [r]
    split <;> rfl
  have hout : (fun a => (r.entry a).location == .segB && (r.object (.station a)).state == .isolated) = out := by
    rw [hr]
    rfl
  have hpointer : r.hm.stationPointer = s.hm.stationPointer := by rw [hr]
  have hchoose : s.chooseStation = if r.hm.probe.isSome then r else
      match firstFrom s.hm.stationPointer out with
      | none => r
      | some t => r.setProbe (some ⟨.pending, .station, t⟩) := by
    rw [← hout, ← hpointer]
    rfl
  refine ⟨?_, fun hfree => ?_, fun ph k a hp hbusy => ?_⟩
  · rw [hchoose]
    split
    · exact hr
    · split
      · exact hr
      · rw [hr]
        rfl
  · have hnone : r.hm.probe = none := by
      simp only [r]
      obtain h | ⟨a, h⟩ := hfree
      · rw [h]; exact h
      · rw [h]; rfl
    rw [hchoose, hnone, if_neg (by decide)]
    cases firstFrom s.hm.stationPointer out with
    | none => exact hnone
    | some t => rfl
  · have hlapsed : s.hm.probe.any Probe.lapsed = false := by
      rw [hp]
      cases ph <;> cases k <;> simp [Probe.lapsed] at hbusy ⊢
    have hkept : r = s := if_neg (by rw [hlapsed]; nofun)
    rw [hchoose, hkept, if_pos (by rw [hp]; rfl)]

/-- The state in which the ports are assessed: segment B or the stations have been, the mark is clear and the timer restarted. -/
def State.assessed (s : State) : State :=
  let s1 := if s.segBIsolated then s.assessSegment else s.chooseStation
  { s1 with hm := { s1.hm with jabberMark := false, probeTimer := 1000 * s1.hm.probeInterval } }

theorem State.probeExpiry_eq (s : State) : s.probeExpiry = (List.finRange 8).foldl State.assessPort s.assessed := rfl

theorem State.assessed_keeps (s : State) : AssessmentKeeps s s.assessed := by
  unfold State.assessed
  dsimp only
  split
  · obtain ⟨h, -, -⟩ := s.assessSegment_spec
    exact h
  · obtain ⟨h, -, -⟩ := s.chooseStation_spec
    unfold AssessmentKeeps HealthSettingsKept
    rw [h]
    exact ⟨rfl, rfl, rfl, rfl, rfl, rfl, rfl, rfl, rfl, rfl⟩

theorem State.object_assessed (s : State) (o : ObjectId) : s.assessed.object o =
    if o = .segment .b then
      if s.segBIsolated = false then s.object (.segment .b)
      else if s.hm.jabberMark = true then s.penalized (.segment .b)
      else if ∀ a, ((s.entry a).location == .segB) = false then s.credited (.segment .b)
      else s.object (.segment .b)
    else s.object o := by
  have hrecord (v : State) : ({ v with hm := { v.hm with jabberMark := false, probeTimer := 1000 * v.hm.probeInterval } } : State).object o =
      v.object o := by
    rcases o with (_ | _) | m | c <;> rfl
  unfold State.assessed
  dsimp only
  rw [hrecord]
  by_cases hi : s.segBIsolated = true
  · obtain ⟨-, h, -⟩ := s.assessSegment_spec
    rw [if_pos hi, h]
    by_cases ho : o = .segment .b
    · rw [if_pos ho, if_pos ho]
      have hnot : ¬ s.segBIsolated = false := by simp [hi]
      exact (if_neg hnot).symm
    · rw [if_neg ho, if_neg ho]
  · obtain ⟨h, -, -⟩ := s.chooseStation_spec
    have hobj : s.chooseStation.object o = s.object o := by
      rw [h]
      rcases o with (_ | _) | m | c <;> rfl
    rw [if_neg hi, hobj]
    by_cases ho : o = .segment .b
    · rw [if_pos ho, if_pos (by simpa using hi), ho]
    · rw [if_neg ho]

/-- Settles O51: segment B and the stations first, and then each port once. -/
theorem probeTimerAssessesTheInterval : Obligations.ProbeTimerAssessesTheInterval := by
  refine ⟨fun n v pb sb kind payload s => fun hs hgood => frameComplete_evidence hs hgood, fun s => ?_⟩
  intro isB out
  obtain ⟨hsd, hsm, hports, hsettings⟩ := s.assessed_keeps
  have hfold : PortsJudged s.assessed s.probeExpiry := .foldl State.assessPort_portsJudged _ _
  have hobj (o : ObjectId) (ho : ∀ n, o ≠ .port n) : s.probeExpiry.object o = s.assessed.object o :=
    foldl_kept (fun t => t.object o) (fun t m => by rw [State.object_assessPort, if_neg (fun h => ho m h.1)]) _ _
  have hport (n : PortNo) := s.assessed.assessPorts_spec n
  have hfield {α : Type} (f : State → α) (hf : ∀ x y, PortsJudged x y → f y = f x) : f s.probeExpiry = f s.assessed := hf _ _ hfold
  have hprobe := hfield (fun t => (t.hm.probe, t.hm.segmentPointer, t.hm.stationPointer)) fun x y h => by
    unfold PortsJudged at h
    rw [h]
  obtain ⟨hpr, hsegP, hstP⟩ := Prod.mk.inj hprobe |>.imp_right Prod.mk.inj
  have hin (hi : s.segBIsolated = true) : s.assessed.hm.probe = s.assessSegment.hm.probe ∧
      s.assessed.hm.segmentPointer = s.assessSegment.hm.segmentPointer := by
    unfold State.assessed
    dsimp only
    rw [if_pos hi]
    exact ⟨rfl, rfl⟩
  have hout (hi : s.segBIsolated = false) : s.assessed.hm.probe = s.chooseStation.hm.probe ∧
      s.assessed.hm.stationPointer = s.hm.stationPointer ∧ s.assessed.hm.segmentPointer = s.hm.segmentPointer := by
    obtain ⟨h, -, -⟩ := s.chooseStation_spec
    unfold State.assessed
    dsimp only
    rw [if_neg (by rw [hi]; nofun), h]
    exact ⟨rfl, rfl, rfl⟩
  obtain ⟨-, -, htarget⟩ := s.assessSegment_spec
  obtain ⟨-, hchosen, hbusy⟩ := s.chooseStation_spec
  have hobjPort (n : PortNo) : s.assessed.object (.port n) = s.object (.port n) := by rw [State.object_assessed, if_neg nofun]
  refine ⟨_, rfl, ?mark, ?timer, hsettings.trans hfold.settings, by simp, ?sd, ?sm, fun a => ?station, ?segA, ?segB, fun n hi => ?isolated,
    fun n hi => ?other, fun n => ?credit, fun n hi => ?breakMark, fun hp hi hj a ha => ?target, fun hp hi => ?chosen,
    fun ph k a hp hb hi => ?busy, fun hi => ?pointers⟩
  case mark => exact hfield (fun t => t.hm.jabberMark) fun x y h => by unfold PortsJudged at h; rw [h]
  case timer =>
    obtain ⟨-, -, -, -, -, hinterval, -⟩ := hsettings
    have h := hfield (fun t => t.hm.probeTimer) fun x y h => by unfold PortsJudged at h; rw [h]
    rw [← hinterval]
    exact h
  case sd => exact (hfield State.sd fun x y h => by unfold PortsJudged at h; rw [h]).trans hsd
  case sm => exact (hfield State.sm fun x y h => by unfold PortsJudged at h; rw [h]).trans hsm
  case station => rw [hobj (.station a) nofun, State.object_assessed, if_neg nofun]
  case segA => rw [hobj (.segment .a) nofun, State.object_assessed, if_neg nofun]
  case segB => rw [hobj (.segment .b) nofun, State.object_assessed, if_pos rfl]
  case isolated =>
    obtain ⟨h, -, -⟩ := hport n
    rw [State.port_congr hports, State.penalized_of_object (hobjPort n) hsettings nofun, hobjPort] at h
    refine h.trans (if_congr ⟨fun e => e.2, fun e => ⟨hi, e⟩⟩ rfl rfl)
  case other =>
    obtain ⟨h, -, -⟩ := hport n
    rw [State.port_congr hports, if_neg (fun e => hi e.1), hobjPort] at h
    exact h
  case credit =>
    obtain ⟨-, h, -⟩ := hport n
    exact h
  case breakMark =>
    obtain ⟨-, -, h⟩ := hport n
    rw [State.port_congr hports] at h
    exact h hi
  case target =>
    obtain ⟨h1, h2⟩ := hin hi
    obtain ⟨h3, h4⟩ := htarget hp hj a ha
    exact ⟨(hpr.trans h1).trans h3, (hsegP.trans h2).trans h4⟩
  case chosen => exact (hpr.trans (hout hi).1).trans (hchosen hp)
  case busy => exact (hpr.trans (hout hi).1).trans (hbusy ph k a hp hb)
  case pointers =>
    obtain ⟨-, h1, h2⟩ := hout hi
    exact ⟨hstP.trans h1, hsegP.trans h2⟩

end Sys2Proof.Machine
end

section
/-! PROOF. The Print Engine's operations, each said once: what selection, the start of a copy, the end of a handshake, the end of a job and
its return do to the engine, the record of the job and the rest (R113 to R124). -/

namespace Sys2Proof.Machine

variable {s t u : State} {j k : Job}

/-! ### The records of the table -/

theorem State.job?_mapJob (s : State) (id : Nat) {f : Job → Job} (hf : ∀ j, (f j).id = j.id) (i : Nat) :
    (s.mapJob id f).job? i = (s.job? i).map fun j => if j.id = id then f j else j := by
  have hp : ((fun j : Job => j.id == i) ∘ fun j => if j.id = id then f j else j) = fun j => j.id == i := by
    funext j
    by_cases h : j.id = id <;> simp [h, hf]
  unfold State.job? State.mapJob
  rw [List.find?_map, hp]

theorem State.job?_mapJob_of_ne (s : State) {id i : Nat} {f : Job → Job} (hf : ∀ j, (f j).id = j.id) (hi : i ≠ id) :
    (s.mapJob id f).job? i = s.job? i := by
  rw [State.job?_mapJob s id hf]
  cases h : s.job? i with
  | none => rfl
  | some j => rw [Option.map_some, if_neg fun e => hi ((job?_id h).symm.trans e)]

theorem State.job?_mapJob_self {id : Nat} {f : Job → Job} (hf : ∀ j, (f j).id = j.id) (h : s.job? id = some j) :
    (s.mapJob id f).job? id = some (f j) := by
  rw [State.job?_mapJob s id hf, h, Option.map_some, if_pos (job?_id h)]

theorem printing?_of (hj : s.pe.job = some j.id) (h : s.job? j.id = some j) : s.printing? = some j := by
  rw [State.printing?, hj, Option.bind_some, h]

/-- Beside the engine, one record of the table has become k, and nothing else has changed. -/
structure Reworked (s t : State) (k : Job) : Prop where
  self : t.job? k.id = some k
  rest : ∀ i, i ≠ k.id → t.job? i = s.job? i
  frame : t = { s with pe := t.pe, sm := { s.sm with jobs := t.sm.jobs } }

theorem reworked_mapJob {f : Job → Job} (hf : ∀ j, (f j).id = j.id) (h : s.job? j.id = some j) : Reworked s (s.mapJob j.id f) (f j) where
  self := by rw [hf]; exact State.job?_mapJob_self hf h
  rest i hi := State.job?_mapJob_of_ne s hf (by rwa [hf] at hi)
  frame := rfl

theorem Reworked.refl (h : s.job? k.id = some k) : Reworked s s k := ⟨h, fun _ _ => rfl, rfl⟩

/-- The engine's record has no part in it. -/
theorem Reworked.withPe (h : Reworked s t k) (pe pe' : Engine) : Reworked { s with pe } { t with pe := pe' } k where
  self := h.self
  rest := h.rest
  frame := by
    have hf := h.frame
    generalize t.pe = e, t.sm.jobs = l at hf
    rw [hf]

theorem Reworked.trans (h1 : Reworked s t j) (h2 : Reworked t u k) (hid : k.id = j.id) : Reworked s u k where
  self := h2.self
  rest i hi := (h2.rest i hi).trans (h1.rest i (by rwa [hid] at hi))
  frame := by
    have hf1 := h1.frame
    have hf2 := h2.frame
    generalize u.pe = e, u.sm.jobs = l at hf2
    rw [hf2, hf1]

theorem Reworked.dueAt (h : Reworked s t k) : t.dueAt = s.dueAt := by
  have hf := h.frame
  generalize t.pe = e, t.sm.jobs = l at hf
  rw [hf]
  rfl

theorem Reworked.printing? (h : Reworked s t k) (hj : t.pe.job = some k.id) : t.printing? = some k := printing?_of hj h.self

/-! ### Reports (R125) -/

theorem EngineState.offline_eq (x : EngineState) : x.offline = x.answersOffline := by cases x <;> rfl

theorem State.reportEngine_of_off {b : EngineState} (hb : b ≠ s.pe.state) (h : b.answersOffline = true ∨ s.pe.state.answersOffline = true) :
    s.reportEngine b = { s with au := s.au.take .printer 0 (.engine s.pe.state) } := by
  rw [State.reportEngine, EngineState.offline_eq, EngineState.offline_eq, if_pos ⟨hb, h⟩]
  rfl

theorem State.reportEngine_of_same {b : EngineState} (hb : b = s.pe.state) : s.reportEngine b = s := if_neg fun h => h.1 hb

theorem State.reportEngine_of_on {b : EngineState} (hb : b.answersOffline = false) (h : s.pe.state.answersOffline = false) :
    s.reportEngine b = s := by
  rw [State.reportEngine, EngineState.offline_eq, EngineState.offline_eq, if_neg fun e => ?_]
  simp [hb, h] at e

theorem State.reportEngine_au (s : State) (b : EngineState) : (s.reportEngine b).au =
    if b ≠ s.pe.state ∧ (b.answersOffline = true ∨ s.pe.state.answersOffline = true) then s.au.take .printer 0 (.engine s.pe.state)
    else s.au := by
  rw [State.reportEngine, EngineState.offline_eq, EngineState.offline_eq]
  split <;> rfl

theorem State.reportEngine_frame (s : State) (b : EngineState) : s.reportEngine b = { s with au := (s.reportEngine b).au } := by
  unfold State.reportEngine
  split <;> rfl

/-! ### The start of a copy and the page mark (R115) -/

/-- The place from which a job prints when it is selected: its page mark, or the first character of its text. -/
def Job.printsFrom (j : Job) : Option Position := if j.pageMark = none then j.start else j.pageMark

theorem reworked_copyStart (h : s.job? j.id = some j) :
    Reworked s (s.copyStart j.id) { j with position := j.start, pageMark := j.start } :=
  (reworked_mapJob (f := fun j => { j with position := j.start, pageMark := j.start }) (fun _ => rfl) h).withPe s.pe _

theorem reworked_toPageMark (h : s.job? j.id = some j) : Reworked s (s.toPageMark j.id) { j with position := j.pageMark } :=
  (reworked_mapJob (f := fun j => { j with position := j.pageMark }) (fun _ => rfl) h).withPe s.pe _

/-- An engine in which the character c falls due in a copy phase (R116, R119). -/
def Engine.metBy (e : Engine) (phase : CopyPhase) (c : Byte) : Engine :=
  if e.hindered = true then e.stalledFor e.reason phase else e.runsWith phase c

/-- A character that falls due touches the engine alone. -/
theorem State.characterDue_of (hs : s.pe.state = .running) (hp : s.printing? = some k) :
    s.characterDue = { s with pe := s.pe.metBy s.pe.phase (s.dueAt s.pe.phase k.position) } := by
  rw [State.characterDue_eq hs, State.dueCharacter_eq hp, Engine.metBy]

theorem State.enterRunning_spec (hj : s.pe.job = some j.id) (h : s.job? j.id = some j) :
    Reworked s s.enterRunning { j with position := j.printsFrom, pageMark := j.printsFrom } ∧
    s.enterRunning.pe = s.pe.metBy .text (s.dueAt .text j.printsFrom) := by
  have hrun : s.enterRunning = (if j.pageMark.isNone then (s.mapPe fun e => { e with state := .running }).copyStart j.id
      else (s.mapPe fun e => { e with state := .running }).toPageMark j.id).characterDue := by
    unfold State.enterRunning
    rw [printing?_of hj h]
  have hpage : Reworked s (if j.pageMark.isNone then (s.mapPe fun e => { e with state := .running }).copyStart j.id
      else (s.mapPe fun e => { e with state := .running }).toPageMark j.id)
      { j with position := j.printsFrom, pageMark := j.printsFrom } := by
    unfold Job.printsFrom
    cases hm : j.pageMark with
    | none => exact (reworked_copyStart (s := s.mapPe fun e => { e with state := .running }) h).withPe s.pe _
    | some m =>
      have hr := (reworked_toPageMark (s := s.mapPe fun e => { e with state := .running }) h).withPe s.pe
        ((s.mapPe fun e => { e with state := .running }).toPageMark j.id).pe
      rwa [show ({ j with position := j.pageMark } : Job) = { j with position := some m, pageMark := some m } by rw [← hm]] at hr
  have hpe : (if j.pageMark.isNone then (s.mapPe fun e => { e with state := .running }).copyStart j.id
      else (s.mapPe fun e => { e with state := .running }).toPageMark j.id).pe = { s.pe with state := .running, phase := .text } := by
    split <;> rfl
  rw [hrun]
  generalize (if j.pageMark.isNone then (s.mapPe fun e => { e with state := .running }).copyStart j.id
      else (s.mapPe fun e => { e with state := .running }).toPageMark j.id) = u at hpage hpe
  rw [State.characterDue_of (by rw [hpe]) (hpage.printing? (by rw [hpe]; exact hj)), hpage.dueAt, hpe]
  exact ⟨hpage.withPe s.pe _, rfl⟩

end Sys2Proof.Machine
end

section
/-! PROOF. Selection, the end of a job and its return to the queue (R113, R114, R118, R123, R124). -/

namespace Sys2Proof.Machine

variable {s t u : State} {j k : Job}

/-! ### Selection -/

/-- The engine as it takes the selected job, in the cable mode read now. -/
def Engine.taking (e : Engine) (id : Nat) : Engine :=
  { e with job := some id, shared := e.profile.shared, preq := e.profile.shared || e.preq }

/-- What a selection leaves of the job. -/
def Job.selected (j : Job) : Job := { j with state := .printing, position := j.printsFrom, pageMark := j.printsFrom }

/-- All that a selection does. -/
theorem State.select_spec (h : s.job? j.id = some j) :
    (∀ i, i ≠ j.id → (s.select j).job? i = s.job? i) ∧
    (s.select j).ports = (s.notifyJob j.source j.id .printing (s.queuePosition j.id)).ports ∧
    s.select j = { s with
      sm := { s.sm with jobs := (s.select j).sm.jobs }, pe := (s.select j).pe, ports := (s.select j).ports } ∧
    if s.pe.profile.shared = true ∧ s.pe.pgnt = false then
      (s.select j).pe = { s.pe.taking j.id with state := .claiming } ∧ (s.select j).job? j.id = some { j with state := .printing }
    else
      (s.select j).pe = (s.pe.taking j.id).metBy .text (s.dueAt .text j.printsFrom) ∧ (s.select j).job? j.id = some j.selected := by
  have hmapped : Reworked s (s.mapJob j.id fun k => { k with state := .printing }) { j with state := .printing } :=
    reworked_mapJob (fun _ => rfl) h
  have hports : ({ s.mapJob j.id fun k => { k with state := .printing } with
      pe := { s.pe with job := some j.id, shared := s.pe.profile.shared } } : State).notifyJob j.source j.id .printing (s.queuePosition j.id) =
      { s.mapJob j.id fun k => { k with state := .printing } with
        pe := { s.pe with job := some j.id, shared := s.pe.profile.shared }
        ports := (s.notifyJob j.source j.id .printing (s.queuePosition j.id)).ports } := by
    unfold State.notifyJob State.notify
    cases j.source with
    | primary => rfl
    | desk a => (repeat' split) <;> simp_all [State.mapJob, State.entry, State.port, State.mapPort, State.setPort]
  generalize hl : (s.notifyJob j.source j.id .printing (s.queuePosition j.id)).ports = l at hports ⊢
  generalize hm : (s.mapJob j.id fun k => { k with state := .printing }) = m at hmapped hports
  have hselect : s.select j =
      if s.pe.profile.shared = true then
        if s.pe.pgnt = true then ({ m with pe := { s.pe.taking j.id with state := .claiming }, ports := l } : State).enterRunning
        else { m with pe := { s.pe.taking j.id with state := .claiming }, ports := l }
      else ({ m with pe := s.pe.taking j.id, ports := l } : State).enterRunning := by
    have hmpe : m.pe = s.pe := by rw [← hm]; rfl
    unfold State.select State.mapPe
    dsimp only
    rw [hm, hmpe, hports]
    by_cases hs : s.pe.profile.shared = true
    · simp [hs, Engine.taking]
    · simp [hs, Engine.taking]
  have hrun (e : Engine) (he : e.job = some j.id) (hst : ∀ c, e.metBy .text c = (s.pe.taking j.id).metBy .text c) :
      (∀ i, i ≠ j.id → ({ m with pe := e, ports := l } : State).enterRunning.job? i = s.job? i) ∧
      ({ m with pe := e, ports := l } : State).enterRunning.ports = l ∧
      ({ m with pe := e, ports := l } : State).enterRunning = { s with
        sm := { s.sm with jobs := ({ m with pe := e, ports := l } : State).enterRunning.sm.jobs }
        pe := ({ m with pe := e, ports := l } : State).enterRunning.pe
        ports := ({ m with pe := e, ports := l } : State).enterRunning.ports } ∧
      ({ m with pe := e, ports := l } : State).enterRunning.pe = (s.pe.taking j.id).metBy .text (s.dueAt .text j.printsFrom) ∧
      ({ m with pe := e, ports := l } : State).enterRunning.job? j.id = some j.selected := by
    obtain ⟨hr, hpe⟩ := State.enterRunning_spec (s := { m with pe := e, ports := l }) (j := { j with state := .printing }) he hmapped.self
    have hd : ({ m with pe := e, ports := l } : State).dueAt = s.dueAt := (show _ = m.dueAt from rfl).trans hmapped.dueAt
    generalize ({ m with pe := e, ports := l } : State).enterRunning = v at hr hpe
    have hf := hr.frame
    have hmf := hmapped.frame
    refine ⟨fun i hi => (hr.rest i hi).trans (hmapped.rest i hi), by rw [hf], ?_, by rw [hpe, hd]; exact hst _, hr.self⟩
    generalize v.pe = x, v.sm.jobs = y at hf
    rw [hf]
    generalize m.pe = x', m.sm.jobs = y' at hmf
    rw [hmf]
  rw [hselect]
  by_cases hs : s.pe.profile.shared = true
  · by_cases hg : s.pe.pgnt = true
    · rw [if_pos hs, if_pos hg, if_neg (by simp [hg])]
      exact hrun _ rfl fun _ => rfl
    · rw [if_pos hs, if_neg hg, if_pos ⟨hs, by simpa using hg⟩]
      refine ⟨hmapped.rest, rfl, ?_, rfl, hmapped.self⟩
      rw [← hm]
      rfl
  · rw [if_neg hs, if_neg fun e => hs e.1]
    exact hrun _ rfl fun _ => rfl

theorem Engine.hindered_of_ready {e : Engine} (hr : e.ready = true) : e.hindered = false := by
  rw [Engine.ready_eq, Bool.and_eq_true] at hr
  simpa using hr.2

/-- A ready engine that selects a job has selected it. -/
theorem selected_select (h : s.job? j.id = some j) (hr : s.pe.ready = true) : Selected s (s.select j) j := by
  obtain ⟨hrest, -, hframe, hcase⟩ := State.select_spec h
  have hh : (s.pe.taking j.id).hindered = false := Engine.hindered_of_ready hr
  have hd : (s.select j).dueAt = s.dueAt := by
    generalize (s.select j).pe = x, (s.select j).sm.jobs = y, (s.select j).ports = z at hframe
    rw [hframe]
    rfl
  refine ⟨hrest, ?_⟩
  dsimp only
  rw [hd]
  split at hcase
  next hc => rw [if_pos hc]; exact hcase
  next hc =>
    rw [if_neg hc]
    rw [Engine.metBy, if_neg (by simp [hh])] at hcase
    exact hcase

/-- Without a QUEUED job, or without a ready printer, nothing is selected on the way to a state without a job. -/
theorem State.enterByReadiness_of (h : s.pe.ready = false ∨ s.nextQueued = none) :
    s.enterByReadiness = s.mapPe fun e => { e with state := e.idleState } := by
  have hn : (s.mapPe fun e => { e with state := if e.ready then .idle else .notReady }).nextQueued = s.nextQueued := rfl
  unfold State.enterByReadiness State.selectIfIdle
  rw [hn]
  rcases h with h | h
  · rw [if_neg (by simp [State.mapPe, h])]
    rfl
  · rw [h]
    split <;> rfl

/-- A ready engine that enters IDLE selects the first QUEUED job. -/
theorem State.enterByReadiness_select (hr : s.pe.ready = true) (h : s.nextQueued = some j) :
    s.enterByReadiness = (s.mapPe fun e => { e with state := .idle }).select j := by
  have hi : (s.mapPe fun e => { e with state := if e.ready then .idle else .notReady }) = s.mapPe fun e => { e with state := .idle } := by
    simp [State.mapPe, hr]
  have hn : (s.mapPe fun e => { e with state := .idle }).nextQueued = s.nextQueued := rfl
  unfold State.enterByReadiness State.selectIfIdle
  rw [hi, if_pos (show (s.mapPe _).pe.state = .idle from rfl), hn, h]

theorem State.nextQueued_eq_none (h : ∀ k ∈ s.sm.jobs, k.state ≠ .queued) : s.nextQueued = none := by
  cases hn : s.nextQueued with
  | none => rfl
  | some j =>
    obtain ⟨hj, hq⟩ := nextQueued_spec hn
    exact absurd hq (h j (job?_mem hj))

/-! ### The end of a job -/

/-- The engine that has let its job go, in the state that follows. -/
def Engine.released (e : Engine) : Engine :=
  { e.letGo with state := if e.disablePending = true then .disabled else if e.shared = true then .gap else e.idleState }

theorem State.proceed_of (h : s.pe.shared = true ∨ s.pe.disablePending = true ∨ s.nextQueued = none) :
    s.proceed = s.mapPe Engine.released := by
  have hn : (s.mapPe Engine.letGo).nextQueued = s.nextQueued := rfl
  unfold State.proceed
  dsimp only
  by_cases hd : s.pe.disablePending = true
  · rw [if_pos hd]
    simp [State.mapPe, Engine.released, hd]
  · by_cases hs : s.pe.shared = true
    · rw [if_neg hd, if_pos hs]
      simp [State.mapPe, Engine.released, hd, hs]
    · rw [if_neg hd, if_neg hs, State.enterByReadiness_of (.inr (hn.trans (by simpa [hd, hs] using h)))]
      simp [State.mapPe, Engine.released, hd, hs]
      rfl

theorem not_queued_removeJob (h : ∀ k ∈ s.sm.jobs, k.state ≠ .queued) (j : Job) (x : Ending) : (s.removeJob j x).nextQueued = none := by
  refine State.nextQueued_eq_none fun k hk => h k ?_
  rw [State.removeJob_sm] at hk
  exact List.mem_of_mem_filter hk

/-- The end of a job, from a state whose handshake has ended with it or not. -/
theorem State.jobEnded_endJob (hj : s.printing? = some j) (x : Ending) (hs : Handshake) (timer : Option Nat) :
    JobEnded s ((({ s with pe := { s.pe with handshake := hs, ackTimer := timer } } : State).endJob x).reportEngine s.pe.state) j x := by
  intro hnext
  generalize hv : ({ s with pe := { s.pe with handshake := hs, ackTimer := timer } } : State) = v
  have hvp : v.printing? = some j := by rw [← hv]; exact hj
  have hpe : (v.removeJob j x).pe = { s.pe with handshake := hs, ackTimer := timer } := by
    rw [State.removeJob_frame, ← hv]
  have hend : v.endJob x = (v.removeJob j x).mapPe Engine.released := by
    unfold State.endJob
    rw [hvp]
    refine State.proceed_of ?_
    rw [hpe]
    exact hnext.imp_right (Or.imp_right fun h => not_queued_removeJob (s := v) (by rw [← hv]; exact h) j x)
  have hrel : (Engine.released { s.pe with handshake := hs, ackTimer := timer }) = s.pe.released := rfl
  have hacc := v.removeJob_accounts j x
  have hheld := (v.removed_removeJob j x).2.1
  have hports := v.port_removeJob j x
  have hsm := v.removeJob_sm j x
  have hframe := v.removeJob_frame j x
  rw [hend]
  unfold State.mapPe
  rw [hpe, hrel]
  generalize hu : v.removeJob j x = u at hacc hheld hports hsm hframe hpe ⊢
  have hau : u.au = s.au.take .jobEnd j.id (.ending x) := by rw [hframe, ← hv]
  rw [← hv] at hacc hheld hports hsm hframe
  refine ⟨by simpa using hsm, ⟨fun a => by rw [State.entry_congr (s := u) (by simp) a]; exact hacc.1 a, ?_⟩, fun src => ?_, (by rw [State.reportEngine_pe]; rfl), (by rw [State.reportEngine_pe]; rfl),
    (by rw [State.reportEngine_pe]; rfl), (by rw [State.reportEngine_pe]; rfl), ?_,
    fun n => ?_, ?_, ?_⟩
  · simpa using hacc.2
  · exact (State.heldOf_congr (s := u) (by simp) src).trans (hheld src)
  · intro hsh
    simp [Engine.released, Engine.letGo, hsh]
  · exact (State.port_congr (by simp) n).trans (hports n)
  · rw [State.reportEngine_au]
    simp [hau]
  · rw [State.reportEngine_frame]
    generalize (State.reportEngine _ _).au = w
    rw [hframe]

/-! ### The return of a job (R124) -/

/-- All that a return does with the record of the job that the engine holds. -/
theorem State.returnToQueue_of (hp : s.printing? = some k) : s.returnToQueue =
    (((s.toFront k).notifyJob k.source k.id .queued 1).mapPe Engine.letGo).mapPe fun e => { e with state := .disabled } := by
  unfold State.returnToQueue
  rw [hp]
  rfl

/-- A job whose record has become k in this event is returned with that record. -/
theorem Reworked.jobReturned (hr : Reworked s u k) (hj : u.pe.job = some k.id) (hsh : u.pe.shared = s.pe.shared)
    (hgap : u.pe.profile = s.pe.profile) (hb : s.pe.state ≠ .disabled) :
    JobReturned s (u.returnToQueue.reportEngine s.pe.state) k := by
  have hself : (u.toFront k).job? k.id = some { k with state := .queued } :=
    State.job?_mapJob_self (s := u) (f := fun k => { k with state := .queued }) (fun _ => rfl) hr.self
  have hrest (i : Nat) (hi : i ≠ k.id) : (u.toFront k).job? i = s.job? i :=
    (State.job?_mapJob_of_ne u (f := fun k => { k with state := .queued }) (fun _ => rfl) hi).trans (hr.rest i hi)
  have hports := State.notified_notifyJob (u.toFront k) k.source k.id .queued 1
  have hframe : (u.toFront k).notifyJob k.source k.id .queued 1 =
      { u.toFront k with ports := ((u.toFront k).notifyJob k.source k.id .queued 1).ports } := by
    unfold State.notifyJob State.notify
    (repeat' split) <;> rfl
  have huf := hr.frame
  have hfront : u.toFront k = { s with
      sm := { s.sm with jobs := (u.toFront k).sm.jobs, queue := k.id :: s.sm.queue.filter (· != k.id) }, pe := u.pe } := by
    generalize hx : u.pe = x, u.sm.jobs = y at huf
    rw [huf]
    rfl
  rw [State.returnToQueue_of (hr.printing? hj), State.reportEngine_of_off (by exact hb) (.inr rfl)]
  generalize hl : (u.toFront k).notifyJob k.source k.id .queued 1 = l at hports hframe
  generalize u.toFront k = v at hself hrest hports hframe hfront
  have hlpe : l.pe = u.pe := by rw [hframe, hfront]
  refine ⟨?_, fun i hi => ?_, ?_, rfl, rfl, rfl, rfl, fun hs => ?_, fun n => ?_, ?_, ?_⟩
  · rw [← hself]
    exact State.job?_congr (s := v) (by rw [hframe]; rfl) _
  · rw [← hrest i hi]
    exact State.job?_congr (s := v) (by rw [hframe]; rfl) _
  · show l.sm.queue = _
    rw [hframe, hfront]
  · simp [State.mapPe, Engine.letGo, hlpe, hsh, hs, hgap]
  · refine (State.port_congr (s := l) rfl n).trans ((hports n).trans ?_)
    rw [hfront]
    rfl
  · show l.au.take _ _ _ = _
    rw [hframe, hfront]
    rfl
  · rw [hframe, hfront]
    rfl

/-! ### The end of a handshake (R117, R119, R121, R122) -/

/-- The engine after a handshake with no disable pending. -/
def Engine.goesOn (e : Engine) (untaken : Option StallReason) (c : Byte) : Engine :=
  if e.hindered = true then e.stalledFor e.reason e.phase
  else if e.grantLost = true then e.stalledFor .grant e.phase
  else match untaken with
    | some r => e.stalledFor r e.phase
    | none => e.runsWith e.phase c

theorem State.afterHandshake_of (hs : s.pe.state = .running) (hd : s.pe.disablePending = false) (untaken : Option StallReason) :
    s.afterHandshake untaken = { s with pe := s.pe.goesOn untaken s.dueCharacter } := by
  unfold State.afterHandshake Engine.goesOn
  rw [if_neg (by simp [hd]), Engine.condition_eq]
  by_cases hh : s.pe.hindered = true
  · simp [hh, State.stall_eq]
  · simp only [hh, Bool.false_eq_true, if_false]
    by_cases hg : s.pe.grantLost = true
    · simp [hg, State.stall_eq]
    · simp only [hg, Bool.false_eq_true, if_false]
      cases untaken with
      | some r => rfl
      | none => rw [State.characterDue_eq hs]; simp [hh]

theorem State.afterHandshake_disable (hd : s.pe.disablePending = true) (untaken : Option StallReason) :
    s.afterHandshake untaken = s.returnToQueue := if_pos hd

end Sys2Proof.Machine
end

section
/-! PROOF. PRINTER_ENABLE, PRINTER_DISABLE, the release timer, and the selection of an engine that enters IDLE (R112 to R115, R124). -/

namespace Sys2Proof.Machine

variable {s t u : State} {j k : Job}

/-! ### Into and out of DISABLED -/

theorem State.enableEngine_of_gap (h : s.pe.state = .disabled) (ht : s.pe.releaseTimer.isSome = true) :
    s.enableEngine = (s.mapPe fun e => { e with state := .gap }).reportEngine .disabled := by
  rw [State.enableEngine, if_pos h, if_pos ht, h]

theorem State.enableEngine_of_free (h : s.pe.state = .disabled) (ht : s.pe.releaseTimer = none) :
    s.enableEngine = s.enterByReadiness.reportEngine .disabled := by
  rw [State.enableEngine, if_pos h, if_neg (by simp [ht]), h]

theorem Engine.idleState_cases (e : Engine) : e.idleState = .idle ∨ e.idleState = .notReady := by
  unfold Engine.idleState
  split
  exacts [.inl rfl, .inr rfl]

/-- PRINTER_ENABLE by what stands in its way (R112). -/
theorem printerEnable_accepts (cont : Bool) (s : State) :
    (s.pe.state ≠ .disabled → Accepts (.printerEnable cont) s cont fun t => SameBlocks s t) ∧
    (s.pe.state = .disabled → s.pe.releaseTimer.isSome = true → Accepts (.printerEnable cont) s cont fun t =>
      t.pe = { s.pe with state := .gap } ∧ t = { s with pe := t.pe, au := t.au, al := t.al }) ∧
    (s.pe.state = .disabled → s.pe.releaseTimer = none → s.pe.ready = false ∨ s.nextQueued = none →
      Accepts (.printerEnable cont) s cont fun t =>
        t.pe = { s.pe with state := s.pe.idleState } ∧ t.au = s.au.take .printer 0 (.engine s.pe.idleState) ∧
        t = { s with pe := t.pe, au := t.au, al := t.al }) := by
  refine ⟨fun h => ?_, fun h ht => ?_, fun h ht hn => ?_⟩
  · refine accepts_of (s1 := s) rfl ?_ rfl fun _ => rfl
    rw [printerEnableCommand, State.enableEngine, if_neg h]
  · refine accepts_of rfl (congrArg accept (State.enableEngine_of_gap h ht)) (by simp) fun al => ⟨by simp [State.mapPe], ?_⟩
    rw [State.reportEngine_frame]
    rfl
  · have hi := s.pe.idleState_cases
    refine accepts_of (s1 := { s with
      pe := { s.pe with state := s.pe.idleState }, au := s.au.take .printer 0 (.engine s.pe.idleState) }) rfl ?_ rfl
      fun al => ⟨rfl, rfl, rfl⟩
    rw [printerEnableCommand, State.enableEngine_of_free h ht, State.enterByReadiness_of hn,
      State.reportEngine_of_off (by rcases hi with hi | hi <;> simp [State.mapPe, hi]) (.inl rfl)]
    rfl

/-- The release timer leaves GAP by the printer's readiness (R114). -/
theorem releaseTimerExpiry_leads (ht : s.pe.releaseTimer.isSome = true) (h : s.pe.state = .gap)
    (hn : s.pe.ready = false ∨ s.nextQueued = none) : Leads .releaseTimerExpiry s fun t =>
      t.pe = { s.pe with state := s.pe.idleState, releaseTimer := none } ∧ t = { s with pe := t.pe, au := t.au } := by
  have hexp : s.releaseExpired = { s with pe := { s.pe with state := s.pe.idleState, releaseTimer := none } } := by
    unfold State.releaseExpired
    dsimp only
    rw [if_pos h, State.enterByReadiness_of (s := s.mapPe fun e => { e with releaseTimer := none }) hn]
    rfl
  refine ⟨_, congrArg Host.Outcome.next (if_pos ht), ?_⟩
  rw [hexp, State.reportEngine_frame]
  exact ⟨by simp, rfl⟩

/-! ### PRINTER_DISABLE (R112, R124) -/

theorem Engine.inAck_iff {e : Engine} : e.inAck = true ↔ e.state = .running ∧ e.handshake = .ack := by
  simp [Engine.inAck]

theorem State.disableEngine_of_job (h : s.pe.state.hasJob = true) : s.disableEngine =
    if s.pe.inAck = true then s.mapPe fun e => { e with disablePending := true } else s.returnToQueue.reportEngine s.pe.state := by
  unfold State.disableEngine
  cases hst : s.pe.state <;> simp [hst, EngineState.hasJob] at h ⊢

/-- PRINTER_DISABLE by what the engine is at (R112, R124). -/
theorem printerDisable_accepts (cont : Bool) (s : State) :
    (s.pe.state = .disabled → Accepts (.printerDisable cont) s cont fun t => SameBlocks s t) ∧
    (s.pe.state = .idle ∨ s.pe.state = .notReady ∨ s.pe.state = .gap → Accepts (.printerDisable cont) s cont fun t =>
      t.pe = { s.pe with state := .disabled } ∧ t = { s with pe := t.pe, au := t.au, al := t.al }) ∧
    (s.pe.state = .running → s.pe.handshake = .ack → Accepts (.printerDisable cont) s cont fun t =>
      t = { s with pe := { s.pe with disablePending := true }, al := t.al }) := by
  refine ⟨fun h => ?_, fun h => ?_, fun h ha => ?_⟩
  · refine accepts_of (s1 := s) rfl ?_ rfl fun _ => rfl
    rw [printerDisableCommand, State.disableEngine, h]
  · have hd : s.disableEngine = (s.mapPe fun e => { e with state := .disabled }).reportEngine s.pe.state := by
      unfold State.disableEngine
      rcases h with h | h | h <;> rw [h]
    refine accepts_of rfl (congrArg accept hd) (by simp) fun al => ⟨by simp [State.mapPe], ?_⟩
    rw [State.reportEngine_frame]
    rfl
  · refine accepts_of (s1 := s.mapPe fun e => { e with disablePending := true }) rfl ?_ rfl fun _ => rfl
    rw [printerDisableCommand, State.disableEngine_of_job (by rw [h]; rfl), if_pos (Engine.inAck_iff.mpr ⟨h, ha⟩)]

/-- Settles O53: each state that PRINTER_ENABLE, PRINTER_DISABLE and the release timer meet, the return of a job by its record. -/
theorem enableAndDisableTheEngine : Obligations.EnableAndDisableTheEngine := by
  refine ⟨fun cont s => ?_, fun cont s => ?_⟩
  · obtain ⟨h1, h2, h3⟩ := printerEnable_accepts cont s
    refine ⟨h1, h2, h3, releaseTimerExpiry_leads, fun ht hg => ?_⟩
    have hexp : s.releaseExpired = { s with pe := { s.pe with releaseTimer := none } } := if_neg hg
    refine congrArg Host.Outcome.next ((if_pos ht).trans ?_)
    rw [hexp, State.reportEngine_of_same rfl]
  · obtain ⟨h1, h2, h3⟩ := printerDisable_accepts cont s
    refine ⟨h1, h2, h3, fun j hjob hack hj h => ?_⟩
    have hret := (Reworked.refl h).jobReturned hj rfl rfl (by rintro e; simp [e, EngineState.hasJob] at hjob)
    have hd : s.disableEngine = s.returnToQueue.reportEngine s.pe.state := by
      rw [State.disableEngine_of_job hjob, if_neg (fun e => hack (Engine.inAck_iff.mp e))]
    obtain ⟨hself, hrest, hqueue, hstate, hnone, hhand, htimer, hcable, -, -, hframe⟩ := hret
    rw [← hd] at hself hrest hqueue hstate hnone hhand htimer hcable hframe
    refine accepts_of (s1 := s.disableEngine) rfl rfl (by rw [hframe])
      fun al => ⟨hstate, hnone, hhand, htimer, hcable, hqueue, hself, hrest, ?_⟩
    generalize s.disableEngine.pe = x1, s.disableEngine.sm.jobs = x2, s.disableEngine.sm.queue = x3, s.disableEngine.ports = x4,
      s.disableEngine.au = x5 at hframe
    rw [hframe]

/-! ### Selection (R113 to R116) -/

/-- The first character of a text with a block stands at the block's start. -/
theorem Job.start_of_chain {b : Fin 512} {rest : List (Fin 512)} (h : j.chain = b :: rest) : j.start = some ⟨b, 0⟩ := by
  rw [Job.start, Job.place, h]
  rfl

theorem Engine.metBy_of {e : Engine} (h : e.hindered = false) (phase : CopyPhase) (c : Byte) : e.metBy phase c = e.runsWith phase c :=
  if_neg (by simp [h])

theorem Engine.strobes_taking {e : Engine} (hr : e.ready = true) (hg : e.profile.shared = false ∨ e.pgnt = true) (id : Nat) :
    (e.taking id).strobes = !e.pbusy := by
  rw [Engine.ready_eq, Bool.and_eq_true] at hr
  have hc : (!e.profile.shared || e.pgnt) = true := by simpa using hg
  show (!e.pbusy && e.psel && (!e.profile.shared || e.pgnt)) = _
  rw [hr.1, hc, Bool.and_true, Bool.and_true]

theorem Engine.runsWith_wait {e : Engine} (h : e.strobes = false) {phase : CopyPhase} {c : Byte} :
    (e.runsWith phase c).handshake = .wait ∧ (e.runsWith phase c).pd = e.pd := by
  simp [Engine.runsWith, h]

theorem Engine.runsWith_ack {e : Engine} (h : e.strobes = true) {phase : CopyPhase} {c : Byte} :
    (e.runsWith phase c).handshake = .ack ∧ (e.runsWith phase c).pd = c := by
  simp [Engine.runsWith, h]

/-- The engine of a ready printer with a job just selected, and its record (R114 to R116). -/
theorem State.select_of_ready (h : s.job? j.id = some j) (hr : s.pe.ready = true) {place : Position} (hp : j.printsFrom = some place) :
    let t := s.select j
    t.pe.job = some j.id ∧ t.pe.shared = s.pe.profile.shared ∧ (s.pe.profile.shared = true → t.pe.preq = true) ∧
    (s.pe.profile.shared = true → s.pe.pgnt = false →
      t.pe.state = .claiming ∧ t.job? j.id = some { j with state := .printing }) ∧
    (s.pe.profile.shared = false ∨ s.pe.pgnt = true →
      t.pe.state = .running ∧ t.pe.phase = .text ∧ t.pe.ackTimer = some (1000 * s.pe.profile.ackTimeout) ∧
      t.job? j.id = some { j with state := .printing, position := some place, pageMark := some place } ∧
      (s.pe.pbusy = true → t.pe.handshake = .wait ∧ t.pe.pd = s.pe.pd) ∧
      (s.pe.pbusy = false → t.pe.handshake = .ack ∧ t.pe.pd = s.sm.memory.read place.address)) := by
  intro t
  obtain ⟨-, -, -, hcase⟩ := State.select_spec h
  rw [Engine.metBy_of (e := s.pe.taking j.id) (Engine.hindered_of_ready hr), hp] at hcase
  change if _ then t.pe = _ ∧ t.job? _ = _ else t.pe = _ ∧ t.job? _ = _ at hcase
  generalize t.job? j.id = record at hcase ⊢
  split at hcase
  next hc =>
    obtain ⟨hpe, hself⟩ := hcase
    rw [hpe]
    refine ⟨rfl, rfl, fun hs => ?_, fun _ _ => ⟨rfl, hself⟩, fun e => ?_⟩
    · simp [Engine.taking, hs]
    · simp [hc.1, hc.2] at e
  next hc =>
    obtain ⟨hpe, hself⟩ := hcase
    rw [hpe]
    refine ⟨rfl, rfl, fun hs => ?_, fun hs hg => absurd ⟨hs, hg⟩ hc, fun hg => ⟨rfl, rfl, rfl, ?_, fun hb => ?_, fun hb => ?_⟩⟩
    · simp [Engine.runsWith, Engine.taking, hs]
    · rw [hself, Job.selected, hp]
    · exact Engine.runsWith_wait (by simp [Engine.strobes_taking hr hg, hb])
    · exact Engine.runsWith_ack (by simp [Engine.strobes_taking hr hg, hb])

/-- Settles O54: the engine that leaves DISABLED for IDLE, with the selection of the first QUEUED job. -/
theorem idleEngineSelectsTheFirstQueuedJob : Obligations.IdleEngineSelectsTheFirstQueuedJob := by
  intro cont j b rest s _ hst ht hr hn hchain place
  have hprints : j.printsFrom = some place := by
    unfold Job.printsFrom
    cases hm : j.pageMark with
    | none => simp [Job.start_of_chain hchain, place, hm]
    | some m => simp [place, hm]
  have hd : s.enableEngine = ((s.mapPe fun e => { e with state := .idle }).select j).reportEngine .disabled := by
    rw [State.enableEngine_of_free hst ht, State.enterByReadiness_select hr hn]
  have hj : (s.mapPe fun e => { e with state := .idle }).job? j.id = some j := (nextQueued_spec hn).1
  obtain ⟨hrest, -, hframe, -⟩ := State.select_spec hj
  obtain ⟨hjob, hshared, hpreq, hclaim, hrun⟩ := State.select_of_ready hj hr hprints
  generalize (s.mapPe fun e => { e with state := .idle }).select j = u at hd hrest hframe hjob hshared hpreq hclaim hrun
  refine accepts_of rfl (congrArg accept hd) (by rw [State.reportEngine_al, hframe]; rfl) fun al => ?_
  simp only [State.reportEngine_pe, State.reportEngine_sm]
  refine ⟨hjob, hshared, by rw [hframe]; rfl, hrest, hpreq, hclaim, hrun⟩

end Sys2Proof.Machine
end

section
/-! PROOF. The printer's lines (R109, R110, R113, R116, R119 to R122). -/

namespace Sys2Proof.Machine

variable {s t u : State} {j k : Job}

/-! ### What the engine leaves alone -/

/-- The levels that the engine reads are the same, and beside its record nothing but the jobs' records and the desks' notices differ. -/
structure EngineActs (s t : State) : Prop where
  line : ∀ m, t.pe.line m = s.pe.line m
  faultFirst : t.pe.faultFirst = s.pe.faultFirst
  frame : t = { s with pe := t.pe, sm := { s.sm with jobs := t.sm.jobs }, ports := t.ports }

theorem EngineActs.refl (s : State) : EngineActs s s := ⟨fun _ => rfl, rfl, rfl⟩

theorem EngineActs.trans (h1 : EngineActs s t) (h2 : EngineActs t u) : EngineActs s u where
  line m := (h2.line m).trans (h1.line m)
  faultFirst := h2.faultFirst.trans h1.faultFirst
  frame := by
    have hf1 := h1.frame
    have hf2 := h2.frame
    generalize u.pe = x, u.sm.jobs = y, u.ports = z at hf2
    rw [hf2, hf1]

theorem engineActs_mapPe {f : Engine → Engine} (hl : ∀ m, (f s.pe).line m = s.pe.line m) (hf : (f s.pe).faultFirst = s.pe.faultFirst) :
    EngineActs s (s.mapPe f) := ⟨hl, hf, rfl⟩

theorem engineActs_stall (s : State) (r : StallReason) : EngineActs s (s.stall r) := engineActs_mapPe (fun m => by cases m <;> rfl) rfl

theorem engineActs_tryStrobe (s : State) : EngineActs s s.tryStrobe := by
  unfold State.tryStrobe
  split
  exacts [engineActs_mapPe (fun m => by cases m <;> rfl) rfl, .refl s]

theorem engineActs_characterDue (s : State) : EngineActs s s.characterDue := by
  unfold State.characterDue
  split
  · exact engineActs_stall s _
  · exact (engineActs_mapPe (f := fun e => { e with handshake := .wait, ackTimer := some (1000 * e.profile.ackTimeout) })
      (fun m => by cases m <;> rfl) rfl).trans (engineActs_tryStrobe _)

theorem engineActs_toPageMark (s : State) (id : Nat) : EngineActs s (s.toPageMark id) := ⟨fun m => by cases m <;> rfl, rfl, rfl⟩

theorem engineActs_rewind (s : State) : EngineActs s s.rewind := by
  unfold State.rewind
  split
  exacts [engineActs_toPageMark s _, .refl s]

theorem engineActs_resume (s : State) : EngineActs s s.resume := by
  unfold State.resume
  split
  · exact engineActs_stall s _
  · exact (engineActs_mapPe (f := fun e => { e with state := .running }) (fun m => by cases m <;> rfl) rfl).trans (engineActs_characterDue _)

theorem Engine.line_metBy (e : Engine) (phase : CopyPhase) (c : Byte) (m : PrinterLine) : (e.metBy phase c).line m = e.line m := by
  unfold Engine.metBy
  split <;> cases m <;> rfl

theorem Engine.faultFirst_metBy (e : Engine) (phase : CopyPhase) (c : Byte) : (e.metBy phase c).faultFirst = e.faultFirst := by
  unfold Engine.metBy
  split <;> rfl

theorem engineActs_select (h : s.job? j.id = some j) : EngineActs s (s.select j) := by
  obtain ⟨-, -, hframe, hcase⟩ := State.select_spec h
  split at hcase
  · exact ⟨fun m => by rw [hcase.1]; cases m <;> rfl, by rw [hcase.1]; rfl, hframe⟩
  · exact ⟨fun m => by rw [hcase.1, Engine.line_metBy]; cases m <;> rfl, by rw [hcase.1, Engine.faultFirst_metBy]; rfl, hframe⟩

theorem engineActs_enterByReadiness (s : State) : EngineActs s s.enterByReadiness := by
  have hset : EngineActs s (s.mapPe fun e => { e with state := if e.ready then .idle else .notReady }) :=
    engineActs_mapPe (fun m => by cases m <;> rfl) rfl
  refine hset.trans ?_
  unfold State.enterByReadiness State.selectIfIdle
  split
  · cases hn : (s.mapPe fun e => { e with state := if e.ready then .idle else .notReady }).nextQueued with
    | none => exact .refl _
    | some j => exact engineActs_select (nextQueued_spec hn).1
  · exact .refl _

/-! ### A changed level -/

/-- The state with the changed level, before the engine acts on it. -/
def State.withLine (s : State) (l : PrinterLine) (high : Bool) : State := { s with pe := s.pe.setLine l high }

theorem Engine.line_setLine (e : Engine) (l : PrinterLine) (high : Bool) (m : PrinterLine) :
    (e.setLine l high).line m = if m = l then high else e.line m := by
  cases l <;> cases m <;> rfl

theorem Engine.faultFirst_setLine (e : Engine) (l : PrinterLine) (high : Bool) : (e.setLine l high).faultFirst =
    if (e.setLine l high).ppe = true ∧ (e.setLine l high).pfltN = true then false
    else if (e.setLine l high).ppe = false ∧ (e.setLine l high).pfltN = false then true else e.faultFirst := by
  cases l <;> simp [Engine.setLine]

/-- The changed level touches no more than the four lines and their order. -/
theorem Engine.setLine_frame (e : Engine) (l : PrinterLine) (high : Bool) : e.setLine l high = { e with
    psel := (e.setLine l high).psel, ppe := (e.setLine l high).ppe, pfltN := (e.setLine l high).pfltN
    pbusy := (e.setLine l high).pbusy, faultFirst := (e.setLine l high).faultFirst } := by
  cases l <;> rfl

theorem State.lineChanged_still (h : s.pe.state = .disabled ∨ s.pe.state = .claiming ∨ s.pe.state = .gap ∨ s.pe.state = .stalled .grant)
    (l : PrinterLine) (high : Bool) : s.lineChanged l high = s.withLine l high := by
  unfold State.lineChanged
  rcases h with h | h | h | h <;> rw [h] <;> rfl

theorem State.lineChanged_idle (h : s.pe.state = .idle) (l : PrinterLine) (high : Bool) : s.lineChanged l high =
    if (s.withLine l high).pe.ready = true then s.withLine l high
    else (s.withLine l high).mapPe fun e => { e with state := .notReady } := by
  unfold State.lineChanged
  rw [h]
  rfl

theorem State.lineChanged_notReady (h : s.pe.state = .notReady) (l : PrinterLine) (high : Bool) : s.lineChanged l high =
    if (s.withLine l high).pe.ready = true then (s.withLine l high).enterByReadiness else s.withLine l high := by
  unfold State.lineChanged
  rw [h]
  rfl

theorem State.lineChanged_wait (h : s.pe.state = .running) (hw : s.pe.handshake = .wait) (l : PrinterLine) (high : Bool) :
    s.lineChanged l high =
    if (s.withLine l high).pe.hindered = true then (s.withLine l high).stall (s.withLine l high).pe.reason
    else (s.withLine l high).tryStrobe := by
  have hc := @Engine.condition_eq (s.withLine l high).pe
  unfold State.lineChanged
  rw [h]
  dsimp only
  rw [if_pos hw]
  split
  next r hr =>
    have hr' := hc.symm.trans hr
    split at hr'
    next hh => rw [if_pos hh, Option.some.inj hr']; rfl
    next => cases hr'
  next hr =>
    have hr' := hc.symm.trans hr
    split at hr'
    next => cases hr'
    next hh => rw [if_neg hh]; rfl

theorem State.lineChanged_ack (h : s.pe.state = .running) (hw : s.pe.handshake ≠ .wait) (l : PrinterLine) (high : Bool) :
    s.lineChanged l high = s.withLine l high := by
  unfold State.lineChanged
  rw [h]
  dsimp only
  rw [if_neg hw]
  rfl

theorem State.lineChanged_condition (h : s.pe.state = .stalled .paper ∨ s.pe.state = .stalled .fault) (l : PrinterLine) (high : Bool) :
    s.lineChanged l high =
    if s.pe.ready = false ∧ (s.withLine l high).pe.ready = true then (s.withLine l high).resumeByPolicy else s.withLine l high := by
  unfold State.lineChanged
  rcases h with h | h <;> rw [h] <;> rfl

theorem State.lineChanged_noResponse (h : s.pe.state = .stalled .noResponse) (l : PrinterLine) (high : Bool) : s.lineChanged l high =
    if l = .psel ∧ high = true then (s.withLine l high).resumeFromMark else s.withLine l high := by
  unfold State.lineChanged
  rw [h]
  rfl

theorem engineActs_resumeFromMark (s : State) : EngineActs s s.resumeFromMark := (engineActs_rewind s).trans (engineActs_resume _)

theorem engineActs_resumeByPolicy (s : State) : EngineActs s s.resumeByPolicy := by
  unfold State.resumeByPolicy
  split
  exacts [engineActs_resume s, engineActs_resumeFromMark s]

/-- Whatever the engine does at a changed level, the levels stand as they then are. -/
theorem engineActs_lineChanged (s : State) (l : PrinterLine) (high : Bool) : EngineActs (s.withLine l high) (s.lineChanged l high) := by
  cases h : s.pe.state with
  | disabled | claiming | gap =>
    rw [State.lineChanged_still (by simp [h])]
    exact .refl _
  | idle =>
    rw [State.lineChanged_idle h]
    split
    exacts [.refl _, engineActs_mapPe (fun m => by cases m <;> rfl) rfl]
  | notReady =>
    rw [State.lineChanged_notReady h]
    split
    exacts [engineActs_enterByReadiness _, .refl _]
  | running =>
    by_cases hw : s.pe.handshake = .wait
    · rw [State.lineChanged_wait h hw]
      split
      exacts [engineActs_stall _ _, engineActs_tryStrobe _]
    · rw [State.lineChanged_ack h hw]
      exact .refl _
  | stalled r =>
    cases r with
    | paper | fault =>
      rw [State.lineChanged_condition (by simp [h])]
      split
      exacts [engineActs_resumeByPolicy _, .refl _]
    | grant =>
      rw [State.lineChanged_still (by simp [h])]
      exact .refl _
    | noResponse =>
      rw [State.lineChanged_noResponse h]
      split
      exacts [engineActs_resumeFromMark _, .refl _]

/-! ### The end of a stall (R120, R121) -/

theorem State.resume_of (hp : s.printing? = some k) :
    s.resume = { s with pe := s.pe.resumed s.pe.phase (s.dueAt s.pe.phase k.position) } := by
  rw [State.resume_eq, State.dueCharacter_eq hp]

/-- Printing goes on from the page mark. -/
theorem State.resumeFromMark_spec (hj : s.pe.job = some j.id) (h : s.job? j.id = some j) :
    Reworked s s.resumeFromMark { j with position := j.pageMark } ∧
    s.resumeFromMark.pe = s.pe.resumed .text (s.dueAt .text j.pageMark) := by
  have hr := reworked_toPageMark h
  have hrw : s.resumeFromMark = (s.toPageMark j.id).resume := by rw [State.resumeFromMark, State.rewind, hj]
  rw [hrw, State.resume_of (hr.printing? hj), hr.dueAt]
  exact ⟨hr.withPe s.pe _, rfl⟩

/-- Printing goes on at the character due. -/
theorem State.resume_spec (hj : s.pe.job = some j.id) (h : s.job? j.id = some j) :
    Reworked s s.resume j ∧ s.resume.pe = s.pe.resumed s.pe.phase (s.dueAt s.pe.phase j.position) := by
  rw [State.resume_of (printing?_of hj h)]
  exact ⟨(Reworked.refl h).withPe s.pe _, rfl⟩

/-- What the engine that leaves a stall passes to. -/
theorem Engine.resumed_state (e : Engine) (phase : CopyPhase) (c : Byte) :
    (e.resumed phase c).state = .stalled .grant ∨ (e.hindered = true ∧ (e.resumed phase c).state = .stalled e.reason) ∨
      (e.resumed phase c).state = .running := by
  unfold Engine.resumed
  by_cases hg : e.shared = true ∧ e.pgnt = false
  · rw [if_pos hg]; exact .inl rfl
  · rw [if_neg hg]
    by_cases hh : e.hindered = true
    · rw [if_pos hh]; exact .inr (.inl ⟨hh, rfl⟩)
    · rw [if_neg hh]; exact .inr (.inr rfl)

theorem Engine.reason_cases (e : Engine) : e.reason = .paper ∨ e.reason = .fault := by
  unfold Engine.reason
  split
  · exact .inl rfl
  · split
    · exact .inr rfl
    · split
      exacts [.inr rfl, .inl rfl]

/-- The report of an engine that has left a stall for another state, with the record of its job as printing goes on (R125). -/
theorem resumes_reportEngine {v : State} {e : Engine} {b : EngineState} (hr : Reworked { s with pe := e } v k) (hb : b.answersOffline = true)
    (hne : b ≠ v.pe.state) :
    let t := v.reportEngine b
    t.job? k.id = some k ∧ (∀ i, i ≠ k.id → t.job? i = s.job? i) ∧ t.pe = v.pe ∧
    t.au = s.au.take .printer 0 (.engine t.pe.state) ∧ t = { s with pe := t.pe, sm := { s.sm with jobs := t.sm.jobs }, au := t.au } := by
  intro t
  have ht : t = { v with au := v.au.take .printer 0 (.engine v.pe.state) } := State.reportEngine_of_off hne (.inl hb)
  have hf := hr.frame
  have hau : v.au = s.au := by rw [hf]
  rw [ht]
  refine ⟨hr.self, hr.rest, rfl, by rw [hau], ?_⟩
  generalize v.au.take .printer 0 (.engine v.pe.state) = x
  generalize v.pe = y, v.sm.jobs = z at hf
  rw [hf]

end Sys2Proof.Machine
end

section
/-! PROOF. Each engine state's answer to a changed level of the printer (R110, R113, R116, R119 to R121). -/

namespace Sys2Proof.Machine

variable {s t u : State} {j k : Job}

/-- A changed level leaves the rest of the engine's record. -/
theorem Engine.setLine_kept (e : Engine) (l : PrinterLine) (high : Bool) :
    (e.setLine l high).state = e.state ∧ (e.setLine l high).job = e.job ∧ (e.setLine l high).phase = e.phase ∧
    (e.setLine l high).handshake = e.handshake ∧ (e.setLine l high).profile = e.profile := by
  cases l <;> exact ⟨rfl, rfl, rfl, rfl, rfl⟩

theorem State.dueCharacter_withLine (s : State) (l : PrinterLine) (high : Bool) : (s.withLine l high).dueCharacter = s.dueCharacter := by
  cases l <;> rfl

/-- The state after a change of a level, with its report. -/
def State.followed (s : State) (l : PrinterLine) (high : Bool) : State := (s.lineChanged l high).reportEngine s.pe.state

theorem exec_printerLineChange {l : PrinterLine} {high : Bool} (h : s.pe.line l ≠ high) :
    exec (.printerLineChange l high) s = .next (s.followed l high) := congrArg Host.Outcome.next (if_neg h)

theorem State.followed_of_unchanged {l : PrinterLine} {high : Bool} (h : s.lineChanged l high = s.withLine l high) :
    s.followed l high = s.withLine l high := by
  rw [State.followed, h, State.reportEngine_of_same (s.pe.setLine_kept l high).1.symm]

variable {l : PrinterLine} {high : Bool}

theorem followed_levels : (∀ m, (s.followed l high).pe.line m = if m = l then high else s.pe.line m) ∧
    (s.followed l high).pe.faultFirst = (s.pe.setLine l high).faultFirst ∧
    s.followed l high = { s with pe := (s.followed l high).pe, sm := { s.sm with jobs := (s.followed l high).sm.jobs }
                                 ports := (s.followed l high).ports, au := (s.followed l high).au } := by
  have ha := engineActs_lineChanged s l high
  have hf := ha.frame
  have hpe : (s.followed l high).pe = (s.lineChanged l high).pe := State.reportEngine_pe ..
  rw [hpe]
  refine ⟨fun m => (ha.line m).trans (Engine.line_setLine ..), ha.faultFirst, ?_⟩
  unfold State.followed
  rw [State.reportEngine_frame]
  generalize ((s.lineChanged l high).reportEngine s.pe.state).au = w
  generalize (s.lineChanged l high).pe = x, (s.lineChanged l high).sm.jobs = y, (s.lineChanged l high).ports = z at hf
  rw [hf]
  rfl

/-- An engine without a job goes by the printer's readiness. -/
theorem followed_idle (h : s.pe.state = .idle) :
    (s.followed l high).pe = { s.pe.setLine l high with state := if (s.pe.setLine l high).ready then .idle else .notReady } ∧
    s.followed l high = { s with pe := (s.followed l high).pe, au := (s.followed l high).au } := by
  have hl : s.lineChanged l high =
      { s with pe := { s.pe.setLine l high with state := if (s.pe.setLine l high).ready then .idle else .notReady } } := by
    rw [State.lineChanged_idle h]
    cases hr : (s.pe.setLine l high).ready with
    | true =>
      rw [if_pos (show (s.withLine l high).pe.ready = true from hr)]
      have hst := (s.pe.setLine_kept l high).1.trans h
      simp only [if_true]
      rw [← hst]
      rfl
    | false => rw [if_neg (by rw [State.withLine, hr]; decide)]; rfl
  unfold State.followed
  rw [State.reportEngine_frame, hl]
  exact ⟨rfl, rfl⟩

theorem followed_notReady (h : s.pe.state = .notReady) (hn : (s.pe.setLine l high).ready = false ∨ s.nextQueued = none) :
    (s.followed l high).pe = { s.pe.setLine l high with state := (s.pe.setLine l high).idleState } ∧
    s.followed l high = { s with pe := (s.followed l high).pe, au := (s.followed l high).au } := by
  have hst := (s.pe.setLine_kept l high).1.trans h
  have hl : s.lineChanged l high = { s with pe := { s.pe.setLine l high with state := (s.pe.setLine l high).idleState } } := by
    rw [State.lineChanged_notReady h]
    split
    · rw [State.enterByReadiness_of (s := s.withLine l high) hn]
      rfl
    next hr =>
      have hi : (s.pe.setLine l high).idleState = .notReady := if_neg hr
      rw [hi, ← hst]
      rfl
  unfold State.followed
  rw [State.reportEngine_frame, hl]
  exact ⟨rfl, rfl⟩

/-- In WAIT with no condition, a character is strobed when the printer and the grant allow it. -/
theorem State.tryStrobe_of (hs : s.pe.state = .running) (hw : s.pe.handshake = .wait) (hh : s.pe.hindered = false) : s.tryStrobe =
    { s with pe := if s.pe.strobes = true then { s.pe with handshake := .ack, pd := s.dueCharacter } else s.pe } := by
  have hm : s.pe.mayStrobe = s.pe.strobes := by
    simp only [Engine.mayStrobe, Engine.strobes, Engine.ready_eq, hs, hw, hh]
    simp
  unfold State.tryStrobe
  rw [hm]
  split <;> rfl

theorem followed_wait (h : s.pe.state = .running) (hw : s.pe.handshake = .wait) :
    ((s.pe.setLine l high).hindered = true →
      (s.followed l high).pe = (s.pe.setLine l high).stalledFor (s.pe.setLine l high).reason s.pe.phase ∧
      s.followed l high = { s with
        pe := (s.followed l high).pe, au := s.au.take .printer 0 (.engine (s.followed l high).pe.state) }) ∧
    ((s.pe.setLine l high).hindered = false →
      (s.followed l high).pe = (if (s.pe.setLine l high).strobes = true then
        { s.pe.setLine l high with handshake := .ack, pd := s.dueCharacter } else s.pe.setLine l high) ∧
      s.followed l high = { s with pe := (s.followed l high).pe }) := by
  obtain ⟨hst, -, hph, hha, -⟩ := s.pe.setLine_kept l high
  refine ⟨fun hh => ?_, fun hh => ?_⟩
  · have hl : s.lineChanged l high =
        { s with pe := (s.pe.setLine l high).stalledFor (s.pe.setLine l high).reason s.pe.phase } := by
      rw [State.lineChanged_wait h hw, if_pos (by exact hh), State.stall_eq, ← hph]
      rfl
    unfold State.followed
    rw [hl, State.reportEngine_of_off (by rw [h]; simp [Engine.stalledFor]) (.inr rfl)]
    exact ⟨rfl, rfl⟩
  · have hl := State.lineChanged_wait h hw l high
    rw [if_neg (by rw [State.withLine, hh]; decide), State.tryStrobe_of (s := s.withLine l high) (hst.trans h) (hha.trans hw) hh,
      State.dueCharacter_withLine] at hl
    unfold State.followed
    have hpe : (if (s.withLine l high).pe.strobes = true then { (s.withLine l high).pe with handshake := .ack, pd := s.dueCharacter }
        else (s.withLine l high).pe).state = s.pe.state := by
      split <;> exact hst
    rw [hl, State.reportEngine_of_same hpe.symm]
    exact ⟨rfl, rfl⟩

/-- What a stall that a level ends leaves of the job's record (R120, R121). -/
theorem followed_resumes {b : EngineState} (hb : s.pe.state = b)
    (hoff : b.answersOffline = true) {phase : CopyPhase} {place : Option Position}
    (hl : Reworked (s.withLine l high) (s.lineChanged l high) { j with position := place })
    (hpe : (s.lineChanged l high).pe = (s.pe.setLine l high).resumed phase (s.dueAt phase place))
    (hne : b ≠ .stalled .grant ∧ b ≠ .running ∧ ((s.pe.setLine l high).hindered = true → b ≠ .stalled .paper ∧ b ≠ .stalled .fault)) :
    let t := s.followed l high
    t.job? j.id = some { j with position := place } ∧ (∀ i, i ≠ j.id → t.job? i = s.job? i) ∧
    t.pe = (s.pe.setLine l high).resumed phase (s.dueAt phase place) ∧ t.au = s.au.take .printer 0 (.engine t.pe.state) ∧
    t = { s with pe := t.pe, sm := { s.sm with jobs := t.sm.jobs }, au := t.au } := by
  have hb' : b ≠ (s.lineChanged l high).pe.state := by
    rw [hpe]
    rcases (s.pe.setLine l high).resumed_state phase (s.dueAt phase place) with e | ⟨hh, e⟩ | e
    · rw [e]; exact hne.1
    · rw [e]
      rcases (s.pe.setLine l high).reason_cases with r | r <;> rw [r]
      exacts [(hne.2.2 hh).1, (hne.2.2 hh).2]
    · rw [e]; exact hne.2.1
  obtain ⟨h1, h2, h3, h4, h5⟩ := resumes_reportEngine hl hoff hb'
  unfold State.followed
  rw [hb]
  exact ⟨h1, h2, h3.trans hpe, h4, h5⟩

theorem followed_condition (hj : s.pe.job = some j.id) (h : s.job? j.id = some j)
    (hst : s.pe.state = .stalled .paper ∨ s.pe.state = .stalled .fault) (h1 : s.pe.ready = false) (h2 : (s.pe.setLine l high).ready = true) :
    ∃ phase place, (phase, place) = (if s.pe.profile.resumeChar = true then (s.pe.phase, j.position) else (.text, j.pageMark)) ∧
    Reworked (s.withLine l high) (s.lineChanged l high) { j with position := place } ∧
    (s.lineChanged l high).pe = (s.pe.setLine l high).resumed phase (s.dueAt phase place) := by
  obtain ⟨-, hjob, hph, -, hprof⟩ := s.pe.setLine_kept l high
  have hl := (State.lineChanged_condition hst l high).trans (if_pos ⟨h1, h2⟩)
  rw [hl, State.resumeByPolicy]
  by_cases hp : s.pe.profile.resumeChar = true
  · rw [if_pos (show (s.withLine l high).pe.profile.resumeChar = true from hprof ▸ hp), if_pos hp]
    refine ⟨_, _, rfl, ?_⟩
    rw [← hph]
    exact State.resume_spec (s := s.withLine l high) (hjob.trans hj) h
  · rw [if_neg (show ¬ (s.withLine l high).pe.profile.resumeChar = true from hprof ▸ hp), if_neg hp]
    exact ⟨_, _, rfl, State.resumeFromMark_spec (s := s.withLine l high) (hjob.trans hj) h⟩

/-- Settles O57: the pins by the handshake, and the engine's answer by its state. -/
theorem printerLinesAreFollowed : Obligations.PrinterLinesAreFollowed := by
  refine ⟨fun e => ⟨fun h => ?_, fun h => by rw [Engine.strobeLine, h], rfl⟩, ?_⟩
  · unfold Engine.strobeLine
    cases hh : e.handshake <;> simp [hh] at h ⊢
  intro l high s hne e resumes
  have hstill (h : s.lineChanged l high = s.withLine l high) : s.followed l high = { s with pe := e } := State.followed_of_unchanged h
  obtain ⟨hline, hfirst, hframe⟩ := followed_levels (s := s) (l := l) (high := high)
  refine ⟨_, exec_printerLineChange hne, hfirst.trans (Engine.faultFirst_setLine ..), ?_, fun j hj h => ⟨fun hst h1 h2 => ?_, fun hst h1 h2 => ?_⟩,
    hline, ?_, followed_idle, followed_notReady, fun hst hw => ?_, hframe⟩
  · rintro (hst | ⟨hst, hr⟩ | ⟨hst, hr⟩)
    · exact hstill (State.lineChanged_still (by simp [hst]) l high)
    · refine hstill ((State.lineChanged_condition hst l high).trans (if_neg fun ⟨h1, h2⟩ => ?_))
      rcases hr with hr | hr
      · exact absurd (h1.symm.trans hr) (by decide)
      · exact absurd (hr.symm.trans h2) (by decide)
    · exact hstill ((State.lineChanged_noResponse hst l high).trans (if_neg hr))
  · obtain ⟨phase, place, hcase, hr, hpe⟩ := followed_condition hj h hst h1 h2
    have hres : resumes j phase place (s.followed l high) := followed_resumes rfl (by rcases hst with e | e <;> rw [e] <;> rfl) hr hpe
      ⟨by rcases hst with e | e <;> rw [e] <;> simp, by rcases hst with e | e <;> rw [e] <;> simp,
        fun hh => absurd hh (by simp [Engine.hindered_of_ready (e := s.pe.setLine l high) h2])⟩
    split at hcase <;> cases hcase
    next hp => rw [if_pos hp]; exact hres
    next hp => rw [if_neg hp]; exact hres
  · have hl := (State.lineChanged_noResponse hst l high).trans (if_pos ⟨h1, h2⟩)
    obtain ⟨-, hjob, -⟩ := s.pe.setLine_kept l high
    obtain ⟨hr, hpe⟩ := State.resumeFromMark_spec (s := s.withLine l high) (hjob.trans hj) h
    rw [← hl] at hr hpe
    exact followed_resumes hst rfl hr hpe ⟨by simp, by simp, fun _ => ⟨by simp, by simp⟩⟩
  · rintro (hst | hst | hst | ⟨hst, hack⟩)
    · exact hstill (State.lineChanged_still (by simp [hst]) l high)
    · exact hstill (State.lineChanged_still (by simp [hst]) l high)
    · exact hstill (State.lineChanged_still (by simp [hst]) l high)
    · exact hstill (State.lineChanged_ack hst (by simp [hack]) l high)
  · obtain ⟨h1, h2⟩ := followed_wait (l := l) (high := high) hst hw
    refine ⟨h1, fun hh => ⟨(h2 hh).1, fun j hj h => State.dueCharacter_eq (printing?_of hj h), (h2 hh).2⟩⟩

end Sys2Proof.Machine
end

section
/-! PROOF. The ack timer, RESUME_PRINTER and PGNT (R114, R116, R119 to R124). -/

namespace Sys2Proof.Machine

variable {s t u : State} {j k : Job}

/-! ### An untaken character (R116, R121) -/

/-- The reason of the stall that an untaken character leads to. -/
def Engine.lostReason (e : Engine) : StallReason :=
  if e.hindered = true then e.reason else if e.grantLost = true then .grant else .noResponse

theorem Engine.goesOn_noResponse (e : Engine) (c : Byte) : e.goesOn (some .noResponse) c = e.stalledFor e.lostReason e.phase := by
  unfold Engine.goesOn Engine.lostReason
  split
  · rfl
  · split <;> rfl

theorem exec_ackTimerExpiry (hs : s.pe.state = .running) (hh : s.pe.handshake ≠ .none) (ht : s.pe.ackTimer.isSome = true) :
    exec .ackTimerExpiry s = .next (s.characterLost.reportEngine .running) :=
  congrArg Host.Outcome.next ((if_pos ⟨hs, hh, ht⟩).trans (by rw [hs]))

theorem Reworked.handshakeEnds (h : s.job? j.id = some j) : Reworked s s.handshakeEnds j := (Reworked.refl h).withPe s.pe _

/-- An untaken character with a stop pending ends the job. -/
theorem characterLost_ended (hj : s.pe.job = some j.id) (h : s.job? j.id = some j) (hs : s.pe.state = .running)
    (hstop : s.pe.stopPending = true) : JobEnded s (s.characterLost.reportEngine .running) j .cancelled := by
  have hl : s.characterLost = s.handshakeEnds.endJob .cancelled := if_pos hstop
  rw [hl, ← hs]
  exact State.jobEnded_endJob (printing?_of hj h) .cancelled .none none

/-- An untaken character with a disable pending returns the job. -/
theorem characterLost_returned (hj : s.pe.job = some j.id) (h : s.job? j.id = some j) (hs : s.pe.state = .running)
    (hstop : s.pe.stopPending = false) (hd : s.pe.disablePending = true) :
    JobReturned s (s.characterLost.reportEngine .running) j := by
  have hl : s.characterLost = s.handshakeEnds.returnToQueue :=
    (if_neg (by simp [hstop])).trans (State.afterHandshake_disable (s := s.handshakeEnds) hd _)
  rw [hl, ← hs]
  exact (Reworked.handshakeEnds h).jobReturned hj rfl rfl (by rw [hs]; simp)

/-- An untaken character with neither pending stalls the engine. -/
theorem characterLost_stalls (hs : s.pe.state = .running) (hstop : s.pe.stopPending = false) (hd : s.pe.disablePending = false) :
    s.characterLost = { s with pe := s.pe.stalledFor s.pe.lostReason s.pe.phase } := by
  have hl : s.characterLost = s.handshakeEnds.afterHandshake (some .noResponse) := if_neg (by simp [hstop])
  rw [hl, State.afterHandshake_of (s := s.handshakeEnds) hs hd, Engine.goesOn_noResponse]
  rfl

/-! ### RESUME_PRINTER (R121) -/

theorem resumePrinter_accepts (cont : Bool) (hst : s.pe.state = .stalled .noResponse) (hj : s.pe.job = some j.id) (h : s.job? j.id = some j) :
    Accepts (.resumePrinter cont) s cont fun t =>
      t.pe = s.pe.resumed .text (s.dueAt .text j.pageMark) ∧
      t.job? j.id = some { j with position := j.pageMark } ∧ (∀ i, i ≠ j.id → t.job? i = s.job? i) ∧
      t.au = s.au.take .printer 0 (.engine t.pe.state) ∧
      t = { s with pe := t.pe, sm := { s.sm with jobs := t.sm.jobs }, au := t.au, al := t.al } := by
  obtain ⟨hr, hpe⟩ := State.resumeFromMark_spec hj h
  have hne : EngineState.stalled .noResponse ≠ s.resumeFromMark.pe.state := by
    rw [hpe]
    rcases s.pe.resumed_state .text (s.dueAt .text j.pageMark) with e | ⟨-, e⟩ | e <;> rw [e]
    · simp
    · rcases s.pe.reason_cases with r | r <;> rw [r] <;> simp
    · simp
  obtain ⟨h1, h2, h3, h4, h5⟩ := resumes_reportEngine (s := s) (e := s.pe) hr rfl hne
  have hc : s.resumePrinter = s.resumeFromMark.reportEngine (.stalled .noResponse) := by rw [State.resumePrinter, if_pos hst, hst]
  rw [← hc] at h1 h2 h3 h4 h5
  refine accepts_of (s1 := s.resumePrinter) rfl rfl (by rw [h5]) fun al => ⟨h3.trans hpe, h1, h2, h4, ?_⟩
  generalize s.resumePrinter.pe = x, s.resumePrinter.sm.jobs = y, s.resumePrinter.au = z at h5
  rw [h5]

/-! ### PGNT (R114, R122) -/

/-- The state with the changed level, before the engine acts on it. -/
def State.withGrant (s : State) (high : Bool) : State := { s with pe := { s.pe with pgnt := high } }

/-- An engine that has PGNT, or needs none, meets the character due at once. -/
theorem Engine.resumed_of_grant {e : Engine} (h : e.pgnt = true) (phase : CopyPhase) (c : Byte) : e.resumed phase c = e.metBy phase c :=
  if_neg (by simp [h])

theorem State.characterDue_pe_kept (s : State) : s.characterDue.pe.pgnt = s.pe.pgnt ∧ s.characterDue.pe.job = s.pe.job := by
  unfold State.characterDue State.tryStrobe
  (repeat' split) <;> exact ⟨rfl, rfl⟩

theorem State.enterRunning_pe_kept (s : State) : s.enterRunning.pe.pgnt = s.pe.pgnt ∧ s.enterRunning.pe.job = s.pe.job := by
  unfold State.enterRunning
  dsimp only
  split
  · exact ⟨rfl, rfl⟩
  · split
    · exact State.characterDue_pe_kept (State.copyStart _ _)
    · exact State.characterDue_pe_kept (State.toPageMark _ _)

theorem State.tryStrobe_pe_kept (s : State) : s.tryStrobe.pe.pgnt = s.pe.pgnt ∧ s.tryStrobe.pe.job = s.pe.job := by
  unfold State.tryStrobe
  split <;> exact ⟨rfl, rfl⟩

/-- A change of PGNT in each state of an engine with a SHARED job. -/
theorem State.grantChanged_shared (hs : s.pe.shared = true) (high : Bool) :
    (s.pe.state = .claiming → s.grantChanged high = if high = true then (s.withGrant high).enterRunning else s.withGrant high) ∧
    (s.pe.state = .running → s.grantChanged high = if high = true then (s.withGrant high).tryStrobe
      else if s.pe.handshake = .ack then (s.withGrant high).mapPe fun e => { e with grantLost := true }
      else (s.withGrant high).stall .grant) ∧
    (s.pe.state = .stalled .grant → s.grantChanged high =
      if high = true then ((s.withGrant high).mapPe fun e => { e with state := .running }).characterDue else s.withGrant high) ∧
    (s.pe.state ≠ .claiming → s.pe.state ≠ .running → s.pe.state ≠ .stalled .grant → s.grantChanged high = s.withGrant high) := by
  unfold State.grantChanged
  dsimp only
  rw [if_pos hs]
  refine ⟨fun h => by rw [h]; rfl, fun h => by rw [h]; rfl, fun h => by rw [h]; rfl, fun h1 h2 h3 => ?_⟩
  split <;> simp_all [State.withGrant, State.mapPe]

theorem State.grantChanged_of_not_shared (hs : s.pe.shared = false) (high : Bool) : s.grantChanged high = s.withGrant high := by
  unfold State.grantChanged
  dsimp only
  rw [if_neg (by simp [hs])]
  rfl

theorem grantChanged_pe_kept (s : State) (high : Bool) : (s.grantChanged high).pe.pgnt = high ∧ (s.grantChanged high).pe.job = s.pe.job := by
  by_cases hs : s.pe.shared = true
  · obtain ⟨hclaim, hrun, hgrant, hother⟩ := State.grantChanged_shared hs high
    by_cases h1 : s.pe.state = .claiming
    · rw [hclaim h1]
      split
      exacts [State.enterRunning_pe_kept (s.withGrant high), ⟨rfl, rfl⟩]
    · by_cases h2 : s.pe.state = .running
      · rw [hrun h2]
        split
        · exact State.tryStrobe_pe_kept (s.withGrant high)
        · split <;> exact ⟨rfl, rfl⟩
      · by_cases h3 : s.pe.state = .stalled .grant
        · rw [hgrant h3]
          split
          exacts [State.characterDue_pe_kept ((s.withGrant high).mapPe fun e => { e with state := .running }), ⟨rfl, rfl⟩]
        · rw [hother h1 h2 h3]
          exact ⟨rfl, rfl⟩
  · rw [State.grantChanged_of_not_shared (by simpa using hs)]
    exact ⟨rfl, rfl⟩

/-- The state after a change of PGNT, with its report. -/
def State.granted (s : State) (high : Bool) : State := (s.grantChanged high).reportEngine s.pe.state

theorem exec_pgntChange {high : Bool} (h : s.pe.pgnt ≠ high) : exec (.pgntChange high) s = .next (s.granted high) :=
  congrArg Host.Outcome.next (if_neg h)

theorem State.granted_of_unchanged {high : Bool} (h : s.grantChanged high = s.withGrant high) : s.granted high = s.withGrant high := by
  rw [State.granted, h]
  exact State.reportEngine_of_same (s := s.withGrant high) rfl

/-- A grant that returns ends STALLED(GRANT) at the character due. -/
theorem granted_resumes (hs : s.pe.shared = true) (hst : s.pe.state = .stalled .grant) (hj : s.pe.job = some j.id) (h : s.job? j.id = some j) :
    (s.granted true).pe = ({ s.pe with pgnt := true } : Engine).resumed s.pe.phase (s.dueAt s.pe.phase j.position) ∧
    s.granted true = { s with pe := (s.granted true).pe, au := s.au.take .printer 0 (.engine (s.granted true).pe.state) } := by
  have hg : s.grantChanged true =
      { s with pe := ({ s.pe with pgnt := true } : Engine).metBy s.pe.phase (s.dueAt s.pe.phase j.position) } := by
    rw [(State.grantChanged_shared hs true).2.2.1 hst, if_pos rfl,
      State.characterDue_of (s := (s.withGrant true).mapPe fun e => { e with state := .running }) rfl (printing?_of hj h)]
    rfl
  have hres := Engine.resumed_of_grant (e := { s.pe with pgnt := true }) rfl s.pe.phase (s.dueAt s.pe.phase j.position)
  have hne : EngineState.stalled .grant ≠ (({ s.pe with pgnt := true } : Engine).metBy s.pe.phase (s.dueAt s.pe.phase j.position)).state := by
    unfold Engine.metBy
    split
    · rcases ({ s.pe with pgnt := true } : Engine).reason_cases with r | r <;> rw [r] <;> simp [Engine.stalledFor]
    · simp [Engine.runsWith]
  have ht : s.granted true = { s.grantChanged true with au := s.au.take .printer 0 (.engine (s.grantChanged true).pe.state) } := by
    rw [State.granted, hst, State.reportEngine_of_off (by rw [hg]; exact hne) (.inl rfl), hg]
  rw [ht, hg, hres]
  exact ⟨rfl, rfl⟩

/-- A claim that is granted runs from the first character of the text, or from the page mark. -/
theorem granted_runs (hs : s.pe.shared = true) (hst : s.pe.state = .claiming) (hj : s.pe.job = some j.id) (h : s.job? j.id = some j) :
    let t := s.granted true
    let e : Engine := { s.pe with pgnt := true }
    t.pe = e.resumed .text (s.dueAt .text j.printsFrom) ∧
    t.job? j.id = some { j with position := j.printsFrom, pageMark := j.printsFrom } ∧ (∀ i, i ≠ j.id → t.job? i = s.job? i) ∧
    t.au = (if e.hindered = true then s.au.take .printer 0 (.engine t.pe.state) else s.au) ∧
    t = { s with pe := t.pe, sm := { s.sm with jobs := t.sm.jobs }, au := t.au } := by
  intro t e
  have hg : s.grantChanged true = (s.withGrant true).enterRunning := (State.grantChanged_shared hs true).1 hst
  obtain ⟨hr, hpe⟩ := State.enterRunning_spec (s := s.withGrant true) hj h
  rw [← hg] at hr hpe
  have htpe : t.pe = (s.grantChanged true).pe := State.reportEngine_pe ..
  have hpe' : t.pe = e.metBy .text (s.dueAt .text j.printsFrom) := htpe.trans hpe
  have hf := hr.frame
  have hau : (s.grantChanged true).au = s.au := by rw [hf]; rfl
  refine ⟨hpe'.trans (Engine.resumed_of_grant (e := e) rfl _ _).symm, ?_, fun i hi => ?_, ?_, ?_⟩
  · exact (State.job?_reportEngine ..).trans hr.self
  · exact (State.job?_reportEngine ..).trans (hr.rest i hi)
  · show ((s.grantChanged true).reportEngine s.pe.state).au = _
    rw [State.reportEngine_au, hst, hau, ← htpe, hpe']
    unfold Engine.metBy
    by_cases hh : e.hindered = true
    · rw [if_pos hh, if_pos hh, if_pos ⟨by simp [Engine.stalledFor], .inr rfl⟩]
    · rw [if_neg hh, if_neg hh, if_neg fun x => ?_]
      simp [EngineState.answersOffline, Engine.runsWith] at x
  · rw [htpe]
    show (s.grantChanged true).reportEngine s.pe.state = _
    rw [State.reportEngine_frame]
    have hsm : t.sm = (s.grantChanged true).sm := State.reportEngine_sm ..
    rw [hsm]
    change _ = { s with pe := (s.grantChanged true).pe, sm := { s.sm with jobs := (s.grantChanged true).sm.jobs }
                        au := ((s.grantChanged true).reportEngine s.pe.state).au }
    generalize ((s.grantChanged true).reportEngine s.pe.state).au = w
    generalize (s.grantChanged true).pe = x, (s.grantChanged true).sm.jobs = y at hf
    rw [hf]
    rfl

/-- Settles O59: the untaken character by what is pending, RESUME_PRINTER, and PGNT by the state of the engine. -/
theorem stallsAndGrants : Obligations.StallsAndGrants := by
  refine ⟨fun cont s => ⟨fun hs hh ht hstop hd => ?_, fun j hs hh ht hj h => ?_, fun hst => ?_, fun j hst hj h => ?_⟩, ?_⟩
  · refine ⟨_, exec_ackTimerExpiry hs hh ht, ?_⟩
    rw [characterLost_stalls hs hstop hd, State.reportEngine_of_off (by simp [Engine.stalledFor]) (.inr rfl)]
    exact ⟨rfl, rfl, rfl⟩
  · exact ⟨_, exec_ackTimerExpiry hs hh ht, characterLost_ended hj h hs, characterLost_returned hj h hs⟩
  · refine accepts_of (s1 := s) rfl ?_ rfl fun _ => rfl
    rw [resumePrinterCommand, State.resumePrinter, if_neg hst]
  · exact resumePrinter_accepts cont hst hj h
  intro high s hne e
  have hstill (h : s.grantChanged high = s.withGrant high) : s.granted high = { s with pe := e } := State.granted_of_unchanged h
  have hkept := grantChanged_pe_kept s high
  have hpe : (s.granted high).pe = (s.grantChanged high).pe := State.reportEngine_pe ..
  refine ⟨_, exec_pgntChange hne, by rw [hpe]; exact hkept.1, by rw [hpe]; exact hkept.2, ?_, fun hs hst hack hh => ?_,
    fun hs hst hw hh => ?_, fun j hs hh hj h => ⟨fun hst => ?_, fun hst => ?_⟩⟩
  · by_cases hs : s.pe.shared = true
    · obtain ⟨hclaim, -, hgrant, hother⟩ := State.grantChanged_shared hs high
      rintro (h | ⟨hst, hh⟩ | ⟨h1, h2, h3⟩)
      · exact absurd (hs.symm.trans h) (by decide)
      · exact hstill ((hclaim hst).trans (if_neg (by simp [hh])))
      · by_cases hst : s.pe.state = .stalled .grant
        · exact hstill ((hgrant hst).trans (if_neg fun hh => h3 ⟨hst, hh⟩))
        · exact hstill (hother h1 h2 hst)
    · exact fun _ => hstill (State.grantChanged_of_not_shared (by simpa using hs) high)
  · have hg := ((State.grantChanged_shared hs high).2.1 hst).trans ((if_neg (by simp [hh])).trans (if_pos hack))
    rw [State.granted, hg]
    exact State.reportEngine_of_same (s := (s.withGrant high).mapPe fun e => { e with grantLost := true }) rfl
  · have hg := ((State.grantChanged_shared hs high).2.1 hst).trans ((if_neg (by simp [hh])).trans (if_neg (by simp [hw])))
    rw [State.granted, hg, State.reportEngine_of_off (by rw [hst]; simp [State.stall_eq, Engine.stalledFor]) (.inr rfl)]
    rfl
  · subst hh
    exact granted_resumes hs hst hj h
  · subst hh
    exact granted_runs hs hst hj h

end Sys2Proof.Machine
end

section
/-! PROOF. An acknowledged character: the next character, the end-of-copy form feed, the next copy or the job's end, and what is pending
then (R116 to R119, R122 to R124). -/

namespace Sys2Proof.Machine

variable {s t u : State} {j k : Job} {p q : Position}

/-! ### The position moves on (R117, R118) -/

/-- The record of the job has become k and the copy phase x, and the handshake's end goes on from there. -/
structure MovedOn (s u : State) (k : Job) (x : CopyPhase) : Prop where
  record : Reworked s u k
  pe : u.pe = { s.pe with phase := x }

theorem movedOn_mapJob {f : Job → Job} (hf : ∀ j, (f j).id = j.id) (h : s.job? j.id = some j) (x : CopyPhase) :
    MovedOn s ((s.mapJob j.id f).mapPe fun e => { e with phase := x }) (f j) x :=
  ⟨(reworked_mapJob hf h).withPe s.pe _, rfl⟩

/-- The end of a copy is the start of the next one, or the end of the job. -/
theorem State.copyEnd_spec (h : s.job? j.id = some j) :
    (j.copiesDone + 1 < j.copies → ∃ u, s.copyEnd j = u.afterHandshake none ∧
      MovedOn s u { j with copiesDone := j.copiesDone + 1, position := j.start, pageMark := j.start } .text) ∧
    (¬ j.copiesDone + 1 < j.copies → s.copyEnd j = s.endJob .done) := by
  refine ⟨fun hc => ⟨_, if_pos hc, ?_⟩, fun hc => if_neg hc⟩
  have h1 : Reworked s (s.mapJob j.id fun k => { k with copiesDone := j.copiesDone + 1 }) { j with copiesDone := j.copiesDone + 1 } :=
    reworked_mapJob (f := fun k => { k with copiesDone := j.copiesDone + 1 }) (fun _ => rfl) h
  exact ⟨h1.trans (reworked_copyStart (j := { j with copiesDone := j.copiesDone + 1 }) h1.self) rfl, rfl⟩

/-- What the taking of a character leads to, by what it leaves of the job. -/
theorem State.characterTaken_spec (hj : s.pe.job = some j.id) (h : s.job? j.id = some j) (hp : s.pe.phase = .text → j.position = some p)
    (hstop : s.pe.stopPending = false) :
    let rest := j.afterTaken s.pe.profile.formFeedAtEnd s.pe.phase p (s.sm.memory.read p.address)
    (rest = none → s.characterTaken = s.handshakeEnds.endJob .done) ∧
    ∀ x, rest = some x → x.1.id = j.id ∧ ∃ u, s.characterTaken = u.afterHandshake none ∧ MovedOn s.handshakeEnds u x.1 x.2 := by
  intro rest
  obtain ⟨hnext, hdone⟩ := State.copyEnd_spec (s := s.handshakeEnds) h
  have hprinting : s.handshakeEnds.printing? = some j := printing?_of hj h
  have hcopy (hr : rest = if j.copiesDone + 1 < j.copies then
        some ({ j with copiesDone := j.copiesDone + 1, position := j.start, pageMark := j.start }, .text) else none)
      (ht : s.characterTaken = s.handshakeEnds.copyEnd j) : (rest = none → s.characterTaken = s.handshakeEnds.endJob .done) ∧
      ∀ x, rest = some x → x.1.id = j.id ∧ ∃ u, s.characterTaken = u.afterHandshake none ∧ MovedOn s.handshakeEnds u x.1 x.2 := by
    by_cases hc : j.copiesDone + 1 < j.copies
    · rw [if_pos hc] at hr
      refine ⟨fun hn => (nomatch hr.symm.trans hn), fun x hx => ?_⟩
      obtain rfl := Option.some.inj (hr.symm.trans hx)
      obtain ⟨u, hu, hm⟩ := hnext hc
      exact ⟨rfl, u, ht.trans hu, hm⟩
    · rw [if_neg hc] at hr
      exact ⟨fun _ => ht.trans (hdone hc), fun x hx => (nomatch hr.symm.trans hx)⟩
  have hendFF (hph : s.pe.phase = .endFF) : s.characterTaken = s.handshakeEnds.copyEnd j := by
    unfold State.characterTaken
    dsimp only
    rw [if_neg (by simp [hstop]), hprinting, hph]
  have htaken (hph : s.pe.phase = .text) : s.characterTaken = s.handshakeEnds.textTaken j p := by
    unfold State.characterTaken
    dsimp only
    rw [if_neg (by simp [hstop]), hprinting]
    dsimp only
    rw [hph, hp hph]
  cases hph : s.pe.phase with
  | endFF =>
    refine hcopy ?_ (hendFF hph)
    simp only [rest, Job.afterTaken, hph]
  | text =>
    have htext := htaken hph
    by_cases hl : j.lastPlace = some p
    · by_cases hff : s.pe.profile.formFeedAtEnd = true ∧ s.sm.memory.read p.address ≠ 0x0C
      · have hr : rest = some (j, .endFF) := by
          simp only [rest, Job.afterTaken, hph]
          rw [if_neg (not_not.mpr hl), if_pos hff]
        have ht : s.handshakeEnds.textTaken j p = (s.handshakeEnds.mapPe fun e => { e with phase := .endFF }).afterHandshake none := by
          unfold State.textTaken
          dsimp only
          rw [if_pos hl]
          exact if_pos hff
        refine ⟨fun hn => (nomatch hr.symm.trans hn), fun x hx => ?_⟩
        obtain rfl := Option.some.inj (hr.symm.trans hx)
        exact ⟨rfl, _, htext.trans ht, (Reworked.refl (s := s.handshakeEnds) h).withPe s.handshakeEnds.pe _, rfl⟩
      · refine hcopy ?_ ?_
        · simp only [rest, Job.afterTaken, hph, hl, ne_eq, not_true_eq_false, if_false, if_neg hff]
        · rw [htext]
          unfold State.textTaken
          dsimp only
          rw [if_pos hl]
          exact if_neg hff
    · have hr : rest = some ({ j with
          position := j.after p, pageMark := if s.sm.memory.read p.address = 0x0C then j.after p else j.pageMark }, .text) := by
        simp [rest, Job.afterTaken, hph, hl]
      have ht : s.handshakeEnds.textTaken j p = (s.handshakeEnds.mapJob j.id fun k => { k with
          position := j.after p, pageMark := if s.sm.memory.read p.address = 0x0C then j.after p else k.pageMark }).afterHandshake none :=
        if_neg hl
      refine ⟨fun hn => (nomatch hr.symm.trans hn), fun x hx => ?_⟩
      obtain rfl := Option.some.inj (hr.symm.trans hx)
      refine ⟨rfl, _, htext.trans ht, reworked_mapJob (f := fun k => { k with
          position := j.after p, pageMark := if s.sm.memory.read p.address = 0x0C then j.after p else k.pageMark }) (fun _ => rfl) h, ?_⟩
      show s.handshakeEnds.pe = _
      rw [← hph]
      rfl

/-! ### What is pending then (R119, R122, R124) -/

/-- The state after an acknowledgement in ACK, with its report. -/
def State.acknowledged (s : State) : State := s.characterTaken.reportEngine .running

theorem exec_packEdge (hs : s.pe.state = .running) (hh : s.pe.handshake = .ack) : exec .packEdge s = .next s.acknowledged :=
  congrArg Host.Outcome.next ((if_pos (Engine.inAck_iff.mpr ⟨hs, hh⟩)).trans (by rw [hs]; rfl))

/-- The job's record is k and the engine e; beside them the Alert Unit alone may differ. -/
structure Stands (s t : State) (k : Job) (e : Engine) : Prop where
  record : t.job? k.id = some k
  rest : ∀ i, i ≠ k.id → t.job? i = s.job? i
  pe : t.pe = e
  frame : t = { s with pe := t.pe, sm := { s.sm with jobs := t.sm.jobs }, au := t.au }

theorem stands_reportEngine (hr : Reworked s u k) (e : Engine) (b : EngineState) : Stands s (({ u with pe := e } : State).reportEngine b) k e where
  record := (State.job?_reportEngine ..).trans hr.self
  rest i hi := (State.job?_reportEngine ..).trans (hr.rest i hi)
  pe := State.reportEngine_pe ..
  frame := by
    have hsm : (({ u with pe := e } : State).reportEngine b).sm = u.sm := State.reportEngine_sm ..
    have hpe : (({ u with pe := e } : State).reportEngine b).pe = e := State.reportEngine_pe ..
    have hf := hr.frame
    rw [hsm, hpe]
    conv => lhs; rw [State.reportEngine_frame]
    generalize (({ u with pe := e } : State).reportEngine b).au = w
    generalize u.pe = x, u.sm.jobs = y at hf
    rw [hf]

/-- The engine after an acknowledgement that leaves the job, by what is pending. -/
theorem acknowledged_goesOn {x : CopyPhase} (hm : MovedOn s.handshakeEnds u k x) (hj : s.pe.job = some k.id) (hs : s.pe.state = .running)
    (ht : s.characterTaken = u.afterHandshake none) (hd : s.pe.disablePending = false) :
    (s.pe.hindered = true → Stands s s.acknowledged k (s.pe.stalledFor s.pe.reason x) ∧
      s.acknowledged.au = s.au.take .printer 0 (.engine (.stalled s.pe.reason))) ∧
    (s.pe.hindered = false → s.pe.grantLost = true → Stands s s.acknowledged k (s.pe.stalledFor .grant x) ∧
      s.acknowledged.au = s.au.take .printer 0 (.engine (.stalled .grant))) ∧
    (s.pe.hindered = false → s.pe.grantLost = false →
      Stands s s.acknowledged k (s.pe.runsWith x (s.dueAt x k.position)) ∧ s.acknowledged.au = s.au) := by
  have hr : Reworked s u k := hm.record.withPe s.pe u.pe
  have hpe : u.pe = { s.pe with handshake := .none, ackTimer := none, phase := x } := hm.pe
  have hau : u.au = s.au := by rw [hr.frame]
  have hdue : u.dueCharacter = s.dueAt x k.position := by
    rw [State.dueCharacter_eq (hr.printing? (by rw [hpe]; exact hj)), hr.dueAt, hpe]
  have hack : s.acknowledged = ({ u with pe := u.pe.goesOn none (s.dueAt x k.position) } : State).reportEngine .running := by
    rw [State.acknowledged, ht, State.afterHandshake_of (by rw [hpe]; exact hs) (by rw [hpe]; exact hd), hdue]
  have hgo : u.pe.goesOn none (s.dueAt x k.position) =
      if s.pe.hindered = true then s.pe.stalledFor s.pe.reason x
      else if s.pe.grantLost = true then s.pe.stalledFor .grant x else s.pe.runsWith x (s.dueAt x k.position) := by
    rw [hpe]
    rfl
  have hstands := stands_reportEngine hr (u.pe.goesOn none (s.dueAt x k.position)) .running
  have hreport : s.acknowledged.au = _ := (congrArg State.au hack).trans (State.reportEngine_au ..)
  rw [← hack] at hstands
  rw [hgo] at hstands hreport
  refine ⟨fun hh => ?_, fun hh hg => ?_, fun hh hg => ?_⟩
  · simp only [hh, if_true] at hstands hreport
    exact ⟨hstands, by rw [hreport, if_pos ⟨by simp [Engine.stalledFor], .inr rfl⟩, ← hau]; rfl⟩
  · simp only [hh, hg, if_true, Bool.false_eq_true, if_false] at hstands hreport
    exact ⟨hstands, by rw [hreport, if_pos ⟨by simp [Engine.stalledFor], .inr rfl⟩, ← hau]; rfl⟩
  · simp only [hh, hg, Bool.false_eq_true, if_false] at hstands hreport
    exact ⟨hstands, by rw [hreport, if_neg fun e => e.1 rfl, hau]⟩

theorem acknowledged_stopped (hj : s.pe.job = some j.id) (h : s.job? j.id = some j) (hs : s.pe.state = .running)
    (hstop : s.pe.stopPending = true) : JobEnded s s.acknowledged j .cancelled := by
  have ht : s.characterTaken = s.handshakeEnds.endJob .cancelled := if_pos hstop
  rw [State.acknowledged, ht, ← hs]
  exact State.jobEnded_endJob (printing?_of hj h) .cancelled .none none

theorem acknowledged_done (hj : s.pe.job = some j.id) (h : s.job? j.id = some j) (hs : s.pe.state = .running)
    (ht : s.characterTaken = s.handshakeEnds.endJob .done) : JobEnded s s.acknowledged j .done := by
  rw [State.acknowledged, ht, ← hs]
  exact State.jobEnded_endJob (printing?_of hj h) .done .none none

theorem acknowledged_returned {x : CopyPhase} (hm : MovedOn s.handshakeEnds u k x) (hj : s.pe.job = some k.id) (hs : s.pe.state = .running)
    (ht : s.characterTaken = u.afterHandshake none) (hd : s.pe.disablePending = true) : JobReturned s s.acknowledged k := by
  have hr : Reworked s u k := hm.record.withPe s.pe u.pe
  have hpe := hm.pe
  rw [State.acknowledged, ht, State.afterHandshake_disable (by rw [hpe]; exact hd), ← hs]
  exact hr.jobReturned (by rw [hpe]; exact hj) (by rw [hpe]; rfl) (by rw [hpe]; rfl) (by rw [hs]; simp)

/-- An ended job's occurrence latches its flag. -/
theorem JobEnded.flag {x : Ending} (h : JobEnded s t j x)
    (hn : s.pe.shared = true ∨ s.pe.disablePending = true ∨ ∀ k ∈ s.sm.jobs, k.state ≠ .queued) : t.au.flags &&& Cause.jobEnd.bit ≠ 0 := by
  obtain ⟨-, -, -, -, -, -, -, -, -, hau, -⟩ := h hn
  have hend := AlertUnit.take_flag s.au .jobEnd j.id (.ending x)
  have hflag : t.au.flags &&& Cause.jobEnd.bit = Cause.jobEnd.bit := by
    rw [hau]
    split
    · exact (Raised.take .printer 0 (.engine t.pe.state) (.refl _)).flag .jobEnd hend
    · exact hend
  rw [hflag]
  decide

/-! ### A character in the middle of the text (R116, R117) -/

/-- The engine that goes on with a character, its strobe by the printer and the grant. -/
theorem Engine.runsWith_text {e : Engine} (hs : e.state = .running) (hp : e.phase = .text) (c : Byte) : e.runsWith .text c = { e with
    ackTimer := some (1000 * e.profile.ackTimeout)
    handshake := if e.pbusy = false ∧ e.psel = true ∧ (e.shared = true → e.pgnt = true) then .ack else .wait
    pd := if e.pbusy = false ∧ e.psel = true ∧ (e.shared = true → e.pgnt = true) then c else e.pd } := by
  have hb : e.strobes = true ↔ e.pbusy = false ∧ e.psel = true ∧ (e.shared = true → e.pgnt = true) := by
    cases hs : e.shared <;> simp [Engine.strobes, hs, and_assoc]
  unfold Engine.runsWith
  simp only [hb, ← hs, ← hp]

/-- Settles O58: the acknowledgement by what it leaves of the job and by what is pending. -/
theorem acknowledgedCharactersAdvance : Obligations.AcknowledgedCharactersAdvance := by
  refine ⟨fun j p q s => ⟨fun h => ?_, fun hs hh hph hstop hd hg hppe hpf hj h hp hl hq => ?_⟩,
    fun j s hs hh hph hstop hd hsh hj h hc hn => ?_, fun j p s hs hh hj h hp => ?_⟩
  · exact congrArg Host.Outcome.next (if_neg fun e => h (Engine.inAck_iff.mp e))
  · have hindered : s.pe.hindered = false := by simp [Engine.hindered, hppe, hpf]
    obtain ⟨-, hnext⟩ := State.characterTaken_spec hj h (fun _ => hp) hstop
    have hrest : j.afterTaken s.pe.profile.formFeedAtEnd s.pe.phase p (s.sm.memory.read p.address) = some ({ j with
        position := some q, pageMark := if s.sm.memory.read p.address = 0x0C then some q else j.pageMark }, .text) := by
      unfold Job.afterTaken
      rw [hph]
      dsimp only
      rw [if_pos hl, hq]
    obtain ⟨-, u, ht, hm⟩ := hnext _ hrest
    obtain ⟨-, -, hgo⟩ := acknowledged_goesOn hm hj hs ht hd
    obtain ⟨hstands, hau⟩ := hgo hindered hg
    have hdue : s.dueAt .text (some q) = s.sm.memory.read q.address := rfl
    refine ⟨_, exec_packEdge hs hh, hstands.record, hstands.rest, ?_, ?_⟩
    · rw [hstands.pe, Engine.runsWith_text hs hph, hdue]
    · have hf := hstands.frame
      rw [hau] at hf
      exact hf
  · have hrest : j.afterTaken s.pe.profile.formFeedAtEnd s.pe.phase ⟨0, 0⟩ (s.sm.memory.read (Position.address ⟨0, 0⟩)) = none := by
      simp [Job.afterTaken, hph, Nat.not_lt.mpr hc]
    obtain ⟨hdone, -⟩ := State.characterTaken_spec hj h (fun e => nomatch hph.symm.trans e) hstop
    have hend := acknowledged_done hj h hs (hdone hrest)
    obtain ⟨hsm, -, hheld, hjob, hhand, htimer, hstate, -⟩ := hend (.inr (.inr hn))
    rw [if_neg (by simp [hd]), if_neg (by simp [hsh])] at hstate
    refine ⟨_, exec_packEdge hs hh, hsm, ?_, hjob, hhand, htimer, hstate, hend.flag (.inr (.inr hn))⟩
    rw [hheld, if_pos rfl]
  · intro rest moved
    refine ⟨_, exec_packEdge hs hh, acknowledged_stopped hj h hs, fun hstop hr => ?_, fun x hr hstop hd => ?_, fun x hr hstop hd => ?_⟩
    · exact acknowledged_done hj h hs ((State.characterTaken_spec hj h hp hstop).1 hr)
    · obtain ⟨hid, u, ht, hm⟩ := (State.characterTaken_spec hj h hp hstop).2 x hr
      exact ⟨hid, acknowledged_returned hm (by rw [hid]; exact hj) hs ht hd⟩
    · obtain ⟨hid, u, ht, hm⟩ := (State.characterTaken_spec hj h hp hstop).2 x hr
      obtain ⟨h1, h2, h3⟩ := acknowledged_goesOn hm (by rw [hid]; exact hj) hs ht hd
      have hmoved {e : Engine} (hst : Stands s s.acknowledged x.1 e) : moved x.1 e s.acknowledged :=
        ⟨hid ▸ hst.record, hid ▸ hst.rest, hst.pe, hst.frame⟩
      exact ⟨fun hh => ⟨hmoved (h1 hh).1, (h1 hh).2⟩, fun hh hg => ⟨hmoved (h2 hh hg).1, (h2 hh hg).2⟩,
        fun hh hg => ⟨hmoved (h3 hh hg).1, (h3 hh hg).2⟩⟩

end Sys2Proof.Machine
end

section
/-! PROOF. The job queue: the place of a closed or promoted job, the changes of a job's state with their notices, and the selection by an
IDLE engine of a job that became QUEUED (R90, R100, R103, R104, R113). -/

namespace Sys2Proof.Machine

variable {s t u : State} {j k : Job}

/-! ### The place in the queue (R90, R104) -/

/-- No URGENT job stands behind the last one, which ends the part before. -/
theorem lastUrgent_spec (urgent : Nat → Bool) (q : List Nat) : (∀ i ∈ q.drop (lastUrgent urgent q), urgent i = false) ∧
    ∀ i, (q.take (lastUrgent urgent q)).getLast? = some i → urgent i = true := by
  induction q with
  | nil => simp [lastUrgent]
  | cons x q ih =>
    obtain ⟨hback, hfront⟩ := ih
    unfold lastUrgent
    by_cases h0 : lastUrgent urgent q = 0
    · rw [if_pos h0]
      rw [h0] at hback
      by_cases hx : urgent x = true
      · rw [if_pos hx]
        exact ⟨hback, fun i hi => by obtain rfl : x = i := by simpa using hi
                                     exact hx⟩
      · rw [if_neg hx]
        refine ⟨fun i hi => ?_, fun i hi => by simp at hi⟩
        rcases List.mem_cons.mp hi with rfl | hi
        exacts [by simpa using hx, hback i hi]
    · rw [if_neg h0]
      refine ⟨hback, fun i hi => hfront i ?_⟩
      have hne : q.take (lastUrgent urgent q) ≠ [] := by
        cases q with
        | nil => simp [lastUrgent] at h0
        | cons y q => simpa using h0
      rw [List.take_succ_cons, List.getLast?_cons_of_ne_nil hne] at hi
      exact hi

theorem State.isUrgent_eq_true {i : Nat} : s.isUrgent i = true ↔ ∃ k, s.job? i = some k ∧ k.priority = .urgent := by
  unfold State.isUrgent
  cases s.job? i <;> simp

/-- An URGENT job's place: directly after the last URGENT job. -/
theorem placeInQueue_urgent (s : State) (q : List Nat) (id : Nat) : ∃ front back, q = front ++ back ∧
    placeInQueue s.isUrgent q id .urgent = front ++ id :: back ∧
    (∀ i ∈ back, ∀ k, s.job? i = some k → k.priority = .normal) ∧
    ∀ i, front.getLast? = some i → ∃ k, s.job? i = some k ∧ k.priority = .urgent := by
  obtain ⟨hback, hfront⟩ := lastUrgent_spec s.isUrgent q
  refine ⟨_, _, (List.take_append_drop (lastUrgent s.isUrgent q) q).symm, rfl, fun i hi k hk => ?_,
    fun i hi => State.isUrgent_eq_true.mp (hfront i hi)⟩
  have hn := hback i hi
  cases hp : k.priority with
  | normal => rfl
  | urgent => exact absurd (State.isUrgent_eq_true.mpr ⟨k, hk, hp⟩) (by simp [hn])

theorem State.isUrgent_mapJob (s : State) (id : Nat) {f : Job → Job} (hf : ∀ j, (f j).id = j.id) (hp : ∀ j, (f j).priority = j.priority) :
    (s.mapJob id f).isUrgent = s.isUrgent := by
  funext i
  unfold State.isUrgent
  rw [State.job?_mapJob s id hf]
  cases s.job? i with
  | none => rfl
  | some j => by_cases h : j.id = id <;> simp [h, hp]

/-! ### A record with its notice -/

/-- One record of the table has become k; beside it the job queue and the desks' notices alone may differ. -/
structure Requeued (s t : State) (k : Job) : Prop where
  self : t.job? k.id = some k
  rest : ∀ i, i ≠ k.id → t.job? i = s.job? i
  frame : t = { s with sm := { s.sm with jobs := t.sm.jobs, queue := t.sm.queue }, ports := t.ports }

theorem State.notifyJob_frame (s : State) (src : Source) (id : Nat) (st : NoticeState) (pos : Nat) :
    s.notifyJob src id st pos = { s with ports := (s.notifyJob src id st pos).ports } := by
  unfold State.notifyJob State.notify
  (repeat' split) <;> rfl

theorem State.queuePosition_congr (h : t.sm.queue = s.sm.queue) (id : Nat) : t.queuePosition id = s.queuePosition id := by
  unfold State.queuePosition
  rw [h]

/-- A change of a record and of the queue, with its notice. -/
theorem requeued_notifyJob {f : Job → Job} (hf : ∀ j, (f j).id = j.id) (h : s.job? j.id = some j) {v : State}
    (hv : v = { s with sm := { s.sm with jobs := (s.mapJob j.id f).sm.jobs, queue := v.sm.queue } }) (src : Source) (id : Nat)
    (st : NoticeState) (pos : Nat) :
    Requeued s (v.notifyJob src id st pos) (f j) ∧ (v.notifyJob src id st pos).sm.queue = v.sm.queue ∧
    Notified s (v.notifyJob src id st pos) src (.printState id st pos) := by
  have hjobs : v.sm.jobs = (s.mapJob j.id f).sm.jobs := by rw [hv]
  have hjob (i : Nat) : (v.notifyJob src id st pos).job? i = (s.mapJob j.id f).job? i :=
    (State.job?_notifyJob ..).trans (State.job?_congr' hjobs i)
  have hports := State.notified_notifyJob v src id st pos
  have hframe := v.notifyJob_frame src id st pos
  refine ⟨⟨?_, fun i hi => ?_, ?_⟩, by rw [hframe], fun n => ?_⟩
  · rw [hjob, hf, State.job?_mapJob_self hf h]
  · rw [hjob, State.job?_mapJob_of_ne s hf (by rwa [hf] at hi)]
  · generalize v.notifyJob src id st pos = w at hframe
    generalize v.sm.queue = q at hv
    rw [hframe]
    dsimp only
    rw [hv]
  · rw [hports n]
    generalize v.sm.queue = q at hv
    rw [hv]
    rfl

/-- A QUEUED or HELD job takes the other state in its place (R103). -/
theorem State.setJobState_spec (h : s.job? j.id = some j) (st : JobState) (x : NoticeState) :
    Requeued s (s.setJobState j st x) { j with state := st } ∧ (s.setJobState j st x).sm.queue = s.sm.queue ∧
    Notified s (s.setJobState j st x) j.source (.printState j.id x ((s.setJobState j st x).queuePosition j.id)) := by
  obtain ⟨h1, h2, h3⟩ := requeued_notifyJob (f := fun k => { k with state := st }) (fun _ => rfl) h
    (v := s.mapJob j.id fun k => { k with state := st }) rfl j.source j.id x (s.queuePosition j.id)
  have hq : (s.setJobState j st x).sm.queue = s.sm.queue := h2
  exact ⟨h1, hq, by rw [State.queuePosition_congr hq]; exact h3⟩

/-- An OPEN job that closes with text takes its place in the queue (R90, R95). -/
theorem State.enqueue_spec (h : s.job? j.id = some j) :
    Requeued s (s.enqueue j) { j with state := .queued, idleTimer := none } ∧
    (s.enqueue j).sm.queue = placeInQueue s.isUrgent s.sm.queue j.id j.priority ∧ JoinsQueue s (s.enqueue j) j ∧
    Notified s (s.enqueue j) j.source (.printState j.id .queued ((s.enqueue j).queuePosition j.id)) := by
  have hu : (s.mapJob j.id fun k => { k with state := .queued, idleTimer := none }).isUrgent = s.isUrgent :=
    State.isUrgent_mapJob s j.id (f := fun k => { k with state := .queued, idleTimer := none }) (fun _ => rfl) fun _ => rfl
  have hen : s.enqueue j = State.notifyJob { s with sm := { s.sm with
      jobs := (s.mapJob j.id fun k => { k with state := .queued, idleTimer := none }).sm.jobs
      queue := placeInQueue s.isUrgent s.sm.queue j.id j.priority } } j.source j.id .queued
      (State.queuePosition { s with sm := { s.sm with
        jobs := (s.mapJob j.id fun k => { k with state := .queued, idleTimer := none }).sm.jobs
        queue := placeInQueue s.isUrgent s.sm.queue j.id j.priority } } j.id) := by
    unfold State.enqueue
    dsimp only
    rw [hu]
    rfl
  obtain ⟨h1, h2, h3⟩ := requeued_notifyJob (f := fun k => { k with state := .queued, idleTimer := none }) (fun _ => rfl) h
    (v := { s with sm := { s.sm with
      jobs := (s.mapJob j.id fun k => { k with state := .queued, idleTimer := none }).sm.jobs
      queue := placeInQueue s.isUrgent s.sm.queue j.id j.priority } }) rfl j.source j.id .queued
    (State.queuePosition { s with sm := { s.sm with
        jobs := (s.mapJob j.id fun k => { k with state := .queued, idleTimer := none }).sm.jobs
        queue := placeInQueue s.isUrgent s.sm.queue j.id j.priority } } j.id)
  rw [← hen] at h1 h2 h3
  refine ⟨h1, h2, ⟨fun hp => by rw [h2, hp]; rfl, fun hp => ?_⟩, by rw [State.queuePosition_congr h2]; exact h3⟩
  rw [h2, hp]
  exact placeInQueue_urgent s s.sm.queue j.id

/-! ### An IDLE engine and a job that became QUEUED (R113) -/

theorem State.offerJobs_of_not_idle (h : s.pe.state ≠ .idle) : s.offerJobs = s := by
  rw [State.offerJobs, State.selectIfIdle, if_neg h, State.reportEngine_of_same rfl]

theorem State.offerJobs_of_idle (h : s.pe.state = .idle) (hn : s.nextQueued = some k) : s.offerJobs = (s.select k).reportEngine .idle := by
  rw [State.offerJobs, State.selectIfIdle, if_pos h, hn, h]

/-- The job that an IDLE engine selects is the first of the queue whose record is QUEUED. -/
theorem State.nextQueued_of_find {i : Nat} (h : (s.sm.queue.find? fun i => (s.job? i).any fun k => k.state == .queued) = some i) :
    ∃ k, s.job? i = some k ∧ k.state = .queued ∧ s.nextQueued = some k := by
  unfold State.nextQueued
  generalize s.sm.queue = q at h
  induction q with
  | nil => cases h
  | cons x q ih =>
    rw [List.find?_cons] at h
    rw [List.findSome?_cons]
    cases hx : s.job? x with
    | none =>
      rw [hx] at h
      obtain ⟨k', h1, h2, h3⟩ := ih h
      exact ⟨k', h1, h2, h3⟩
    | some k =>
      rw [hx] at h
      by_cases hk : k.state = .queued
      · simp only [Option.any_some, hk, beq_self_eq_true] at h
        obtain rfl := Option.some.inj h
        refine ⟨k, hx, hk, ?_⟩
        simp [Option.filter, hk]
      · have hb : (k.state == .queued) = false := by simpa using hk
        simp only [Option.any_some, hb] at h
        obtain ⟨k', h1, h2, h3⟩ := ih h
        exact ⟨k', h1, h2, by simpa [Option.filter, hb] using h3⟩

/-- The only QUEUED job of the queue is the one selected. -/
theorem State.nextQueued_of_only (h : s.job? k.id = some k) (hk : k.state = .queued) (hmem : k.id ∈ s.sm.queue)
    (honly : ∀ i, i ≠ k.id → ∀ x, s.job? i = some x → x.state ≠ .queued) : s.nextQueued = some k := by
  have hex : (s.sm.queue.find? fun i => (s.job? i).any fun k => k.state == .queued).isSome = true := by
    rw [List.find?_isSome]
    exact ⟨k.id, hmem, by simp [h, hk]⟩
  obtain ⟨i, hi⟩ := Option.isSome_iff_exists.mp hex
  obtain ⟨x, hx, hxq, hn⟩ := State.nextQueued_of_find hi
  by_cases e : i = k.id
  · rw [e, h] at hx
    rw [hn, hx]
  · exact absurd hxq (honly i e x hx)

/-- A ready engine that is IDLE selects without a report. -/
theorem State.offerJobs_of_ready (h : s.pe.state = .idle) (hr : s.pe.ready = true) (hk : s.job? k.id = some k) (hn : s.nextQueued = some k) :
    s.offerJobs = s.select k := by
  obtain ⟨-, -, -, hcase⟩ := State.select_spec hk
  rw [State.offerJobs_of_idle h hn]
  refine State.reportEngine_of_on rfl ?_
  split at hcase
  · rw [hcase.1]
    rfl
  · rw [hcase.1, Engine.metBy_of (e := s.pe.taking k.id) (Engine.hindered_of_ready hr)]
    rfl

theorem onJob_of {id : Byte} {f : Job → Command} (hid : id ≠ 0) (h : s.job? id.toNat = some j) : onJob id f s = f j s := by
  rw [onJob, if_neg hid, h]

end Sys2Proof.Machine
end

section
/-! PROOF. The ends of jobs by cancel and idle timeout, and the administration of jobs (R98, R99, R103 to R105, R123). -/

namespace Sys2Proof.Machine

variable {s t u : State} {j k : Job}

/-! ### Cancels and timeouts -/

theorem State.cancelJob_of_not_printing (h : j.state ≠ .printing) : s.cancelJob j = s.removeJob j .cancelled := if_neg h

theorem State.cancelJob_of_ack (h : j.state = .printing) (hs : s.pe.state = .running) (hh : s.pe.handshake = .ack) :
    s.cancelJob j = s.mapPe fun e => { e with stopPending := true } :=
  (if_pos h).trans (if_pos (Engine.inAck_iff.mpr ⟨hs, hh⟩))

theorem State.cancelJob_of_printing (h : j.state = .printing) (hack : ¬ (s.pe.state = .running ∧ s.pe.handshake = .ack)) :
    s.cancelJob j = (s.endJob .cancelled).reportEngine s.pe.state :=
  (if_pos h).trans (if_neg fun e => hack (Engine.inAck_iff.mp e))

/-- Nothing that follows the end of a job brings a record back that is not in the table. -/
theorem State.proceed_job?_none {id : Nat} (h : s.job? id = none) : s.proceed.job? id = none := by
  have hselect (v : State) (hv : v.job? id = none) : v.selectIfIdle.job? id = none := by
    unfold State.selectIfIdle
    split
    · cases hn : v.nextQueued with
      | none => exact hv
      | some k =>
        have hk := (nextQueued_spec hn).1
        exact ((State.select_spec hk).1 id (by rintro rfl; simp [hk] at hv)).trans hv
    · exact hv
  unfold State.proceed
  dsimp only
  split
  · exact h
  · split
    · exact h
    · exact hselect _ h

theorem State.removeJob_job?_self (s : State) (j : Job) (x : Ending) : (s.removeJob j x).job? j.id = none := by
  unfold State.job?
  rw [State.removeJob_sm, List.find?_eq_none]
  intro k hk
  simpa using List.of_mem_filter hk

/-- The end of the PRINTING job, whatever is selected next: the job is out of the table and its charge returned (R99). -/
theorem State.endJob_removed (hp : s.printing? = some j) (x : Ending) :
    (s.endJob x).job? j.id = none ∧ (s.endJob x).heldOf j.source = s.heldOf j.source - j.chain.length := by
  have he : s.endJob x = (s.removeJob j x).proceed := by rw [State.endJob, hp]
  rw [he]
  refine ⟨State.proceed_job?_none (s.removeJob_job?_self j x), ?_⟩
  rw [State.heldOf_congr (s := s.removeJob j x) (by simp), State.heldOf_removeJob, if_pos rfl]
  rfl

/-- The record that is PRINTING is the engine's job. -/
theorem PrintingLaw.printing?_eq (h : PrintingLaw s) (hj : s.job? j.id = some j) (hst : j.state = .printing) : s.printing? = some j :=
  printing?_of ((h.1 j (job?_mem hj)).mp hst) hj

theorem exec_jobIdleTimeout {id : Byte} (h : s.job? id.toNat = some j) (ho : j.state = .opened) (ht : j.idleTimer = some 0) :
    exec (.jobIdleTimeout id) s = .next (s.idleExpired j) := by
  refine congrArg Host.Outcome.next ?_
  rw [h]
  exact if_pos ⟨ho, ht⟩

/-- The removal of a job of the primary is told to no desk. -/
theorem State.removeJob_primary (h : j.source = .primary) (x : Ending) : (s.removeJob j x).ports = s.ports := by
  unfold State.removeJob
  dsimp only
  rw [State.notifyJob_of_deskOf_none (by rw [h]; rfl)]
  simp

/-- The ports are the same when no desk hears of the job. -/
theorem Notified.ports_eq {src : Source} {x : Notice} (h : Notified s t src x) (hd : s.deskOf src = none) : t.ports = s.ports := by
  have hp : ∀ n, t.port n = s.port n := fun n => (h n).trans (if_neg fun e => by simp [hd] at e)
  exact Vector.ext fun i hi => hp ⟨i, hi⟩

/-- A job of the primary that closes with text: QUEUED at its place, no desk told (R97, R98). -/
theorem State.enqueue_primary (h : s.job? j.id = some j) (hsrc : j.source = .primary) :
    s.enqueue j = { s with sm := { s.sm with jobs := (s.enqueue j).sm.jobs, queue := (s.enqueue j).sm.queue } } := by
  obtain ⟨⟨-, -, hframe⟩, -, -, hnotified⟩ := State.enqueue_spec h
  have hports : (s.enqueue j).ports = s.ports := hnotified.ports_eq (by rw [hsrc]; rfl)
  rw [hports] at hframe
  exact hframe

theorem Selected.of_same {v : State} (h : Selected v t k) (hpe : v.pe = s.pe) (hjobs : ∀ i, i ≠ k.id → v.job? i = s.job? i) :
    Selected s t k := by
  obtain ⟨hrest, hcase⟩ := h
  refine ⟨fun i hi => (hrest i hi).trans (hjobs i hi), ?_⟩
  rw [hpe] at hcase
  exact hcase

/-- A selection passes the engine out of IDLE (R113, R114). -/
theorem State.select_engine (h : s.job? k.id = some k) : (s.select k).pe.job = some k.id ∧ (s.select k).pe.state ≠ .idle ∧
    ((s.select k).job? k.id).map Job.state = some .printing := by
  obtain ⟨-, -, -, hcase⟩ := State.select_spec h
  split at hcase
  · rw [hcase.1, hcase.2]
    exact ⟨rfl, by simp, rfl⟩
  · rw [hcase.1, hcase.2]
    unfold Engine.metBy
    split
    · exact ⟨rfl, by simp [Engine.stalledFor], rfl⟩
    · exact ⟨rfl, by simp [Engine.runsWith], rfl⟩

/-- A job that joins the queue is the next to be selected when no other is QUEUED. -/
theorem State.nextQueued_enqueue (h : s.job? j.id = some j) (hn : ∀ i ∈ s.sm.jobs, i.state ≠ .queued) :
    (s.enqueue j).nextQueued = some { j with state := .queued, idleTimer := none } := by
  obtain ⟨⟨hself, hrest, -⟩, hqueue, -, -⟩ := State.enqueue_spec h
  refine State.nextQueued_of_only hself rfl ?_ fun i hi x hx => hn x (job?_mem ((hrest i hi).symm.trans hx))
  rw [hqueue]
  exact (perm_placeInQueue _ _ _ _).symm.subset List.mem_cons_self

/-- An IDLE engine selects the only QUEUED job, which has just closed. -/
theorem State.offerJobs_enqueue_job (h : s.job? j.id = some j) (hst : s.pe.state = .idle) (hn : ∀ i ∈ s.sm.jobs, i.state ≠ .queued) :
    (s.enqueue j).offerJobs.pe.job = some j.id := by
  have hpe : (s.enqueue j).pe = s.pe := State.enqueue_pe ..
  obtain ⟨⟨hself, -, -⟩, -, -, -⟩ := State.enqueue_spec h
  rw [State.offerJobs_of_idle (by rw [hpe]; exact hst) (State.nextQueued_enqueue h hn)]
  exact (congrArg Engine.job (State.reportEngine_pe ..)).trans (State.select_engine hself).1

/-- It is selected by a ready engine without a report (R113 to R115). -/
theorem State.offerJobs_enqueue (h : s.job? j.id = some j) (hst : s.pe.state = .idle) (hr : s.pe.ready = true)
    (hn : ∀ i ∈ s.sm.jobs, i.state ≠ .queued) :
    (s.enqueue j).offerJobs = (s.enqueue j).select { j with state := .queued, idleTimer := none } := by
  have hpe : (s.enqueue j).pe = s.pe := State.enqueue_pe ..
  obtain ⟨⟨hself, -, -⟩, -, -, -⟩ := State.enqueue_spec h
  exact State.offerJobs_of_ready (by rw [hpe, hst]) (by rw [hpe, hr]) hself (State.nextQueued_enqueue h hn)

/-- A closed job that is selected in the same event: the desk hears both notices in their order (R80, R100). -/
theorem notifiedSelected_enqueue (h : s.job? j.id = some j) (hst : s.pe.state = .idle) (hr : s.pe.ready = true)
    (hn : ∀ i ∈ s.sm.jobs, i.state ≠ .queued) :
    let t := (s.enqueue j).offerJobs
    Selected s t { j with state := .queued, idleTimer := none } ∧ JoinsQueue s t j ∧ NotifiedSelected s t j ∧
    t = { s with sm := { s.sm with jobs := t.sm.jobs, queue := t.sm.queue }, pe := t.pe, ports := t.ports } := by
  intro t
  have ht : t = (s.enqueue j).select { j with state := .queued, idleTimer := none } := State.offerJobs_enqueue h hst hr hn
  obtain ⟨⟨hself, hrest, hrequeued⟩, -, hjoins, hnotified⟩ := State.enqueue_spec h
  have hpe : (s.enqueue j).pe = s.pe := State.enqueue_pe ..
  have hsd : (s.enqueue j).sd = s.sd := State.enqueue_sd ..
  have hsel := selected_select hself (by rw [hpe, hr])
  obtain ⟨-, hports, hframe, -⟩ := State.select_spec hself
  rw [← ht] at hsel hports hframe
  have hq : t.sm.queue = (s.enqueue j).sm.queue := by rw [hframe]
  refine ⟨hsel.of_same hpe hrest, by unfold JoinsQueue; rw [hq]; exact hjoins, fun n => ?_, ?_⟩
  · have hdesk : (s.enqueue j).deskOf j.source = s.deskOf j.source := State.deskOf_congr (fun a => by rw [State.entry_congr hsd]) _
    rw [State.port_congr hports, State.port_notifyJob, State.queuePosition_congr hq]
    dsimp only
    rw [hdesk, hnotified n]
    by_cases hc : s.deskOf j.source = some n ∧ (s.port n).state = .online
    · simp only [if_pos hc]
      exact if_pos ⟨hc.1, (Port.state_queueNotice ..).trans hc.2⟩
    · simp only [if_neg hc]
  · rw [hq]
    generalize (s.enqueue j).sm.queue = q, (s.enqueue j).sm.jobs = l, (s.enqueue j).ports = p at hrequeued
    generalize t.pe = x, t.sm.jobs = y, t.ports = z at hframe
    rw [hframe, hrequeued]

/-- A job of the primary that closes with text at an IDLE engine is selected in the same event, and no desk is told. -/
theorem selected_enqueue_primary (h : s.job? j.id = some j) (hsrc : j.source = .primary) (hst : s.pe.state = .idle)
    (hr : s.pe.ready = true) (hn : ∀ i ∈ s.sm.jobs, i.state ≠ .queued) :
    let t := (s.enqueue j).offerJobs
    Selected s t { j with state := .queued, idleTimer := none } ∧ JoinsQueue s t j ∧
    t = { s with sm := { s.sm with jobs := t.sm.jobs, queue := t.sm.queue }, pe := t.pe } := by
  intro t
  obtain ⟨hsel, hjoins, hnotified, hframe⟩ := notifiedSelected_enqueue h hst hr hn
  have hports : t.ports = s.ports := Vector.ext fun i hi => (hnotified ⟨i, hi⟩).trans (if_neg fun e => by simp [hsrc, State.deskOf] at e)
  refine ⟨hsel, hjoins, ?_⟩
  change t = { s with sm := { s.sm with jobs := t.sm.jobs, queue := t.sm.queue }, pe := t.pe, ports := t.ports } at hframe
  rwa [hports] at hframe

/-- Settles O56: the cancel by the job's state and the handshake, the idle timeout by source and text. -/
theorem jobsEndByCancelAndTimeout : Obligations.JobsEndByCancelAndTimeout := by
  intro cont id j s hid hj
  have hself : s.job? j.id = some j := job?_self hj
  have hcancel : cancelJobCommand id s = accept (s.cancelJob j) := onJob_of hid hj
  refine ⟨fun h => ?_, fun h hs hh => ?_, fun h _ hl hack => ?_, fun a ho ht hsrc => ?_, fun ho ht hsrc hc => ?_,
    fun ho ht hsrc hc hp hst => ?_, fun ho ht hsrc hc _ hst hr hn => ?_, fun h => ?_⟩
  · rw [State.cancelJob_of_not_printing h] at hcancel
    have hframe := s.removeJob_frame j .cancelled
    refine accepts_of rfl hcancel (by rw [hframe]) fun al => ⟨?_, ?_, ?_⟩
    · exact s.removed_removeJob j .cancelled
    · exact s.removeJob_accounts j .cancelled
    · conv => lhs; rw [hframe]
      rw [(s.removed_removeJob j .cancelled).2.2]
  · rw [State.cancelJob_of_ack h hs hh] at hcancel
    exact accepts_of rfl hcancel rfl fun _ => rfl
  · have hp := hl.printing?_eq hself h
    have hend := State.jobEnded_endJob hp .cancelled s.pe.handshake s.pe.ackTimer
    obtain ⟨hnone, hheld⟩ := State.endJob_removed hp .cancelled
    rw [State.cancelJob_of_printing h hack] at hcancel
    have hal : ((s.endJob .cancelled).reportEngine s.pe.state).al = s.al := by
      rw [State.reportEngine_al, State.endJob, hp]
      simp
    refine accepts_of rfl hcancel hal fun al => ⟨?_, ?_, ?_⟩
    · exact (State.job?_reportEngine ..).trans hnone
    · refine (State.heldOf_congr (s := s.endJob .cancelled) ?_ _).trans hheld
      exact State.reportEngine_sd ..
    · rw [← hal]
      exact hend
  · have hi : s.idleExpired j = s.removeJob j .timeout := by rw [State.idleExpired, hsrc]
    refine ⟨_, exec_jobIdleTimeout hj ho ht, ?_⟩
    rw [hi]
    refine ⟨s.removed_removeJob j .timeout, s.removeJob_accounts j .timeout, ?_⟩
    conv => lhs; rw [s.removeJob_frame j .timeout]
    rw [(s.removed_removeJob j .timeout).2.2]
  · have hi : s.idleExpired j = s.removeJob j .empty := by rw [State.idleExpired, hsrc, State.closeJob, if_pos hc]
    have hports := State.removeJob_primary (s := s) hsrc .empty
    refine ⟨_, exec_jobIdleTimeout hj ho ht, ?_⟩
    rw [hi]
    refine ⟨s.removed_removeJob j .empty, s.removeJob_accounts j .empty, ?_⟩
    conv => lhs; rw [s.removeJob_frame j .empty, hports]
    rw [(s.removed_removeJob j .empty).2.2]
  · have hi : s.idleExpired j = s.enqueue j := by
      rw [State.idleExpired, hsrc, State.closeJob, if_neg hc, State.offerJobs_of_not_idle (by rw [State.enqueue_pe]; exact hst)]
    obtain ⟨⟨hrec, -, -⟩, hqueue, -, -⟩ := State.enqueue_spec hself
    refine ⟨_, exec_jobIdleTimeout hj ho ht, ?_⟩
    rw [hi]
    exact ⟨hrec, by rw [hqueue, hp]; rfl, State.enqueue_primary hself hsrc⟩
  · have hi : s.idleExpired j = (s.enqueue j).offerJobs := by rw [State.idleExpired, hsrc, State.closeJob, if_neg hc]
    refine ⟨_, exec_jobIdleTimeout hj ho ht, ?_⟩
    rw [hi]
    exact selected_enqueue_primary hself hsrc hst hr hn
  · refine congrArg Host.Outcome.next ?_
    rw [hj]
    exact if_neg fun e => h.elim (fun x => x e.1) fun x => x e.2

/-! ### HOLD_JOB, RELEASE_JOB and PROMOTE_JOB (R103, R104) -/

theorem State.promote_of_urgent (h : j.priority = .urgent) : s.promote j = s := if_pos h

theorem State.promote_of_opened (hp : j.priority = .normal) (hst : j.state = .opened) :
    s.promote j = s.mapJob j.id fun k => { k with priority := .urgent } := by
  unfold State.promote
  rw [if_neg (by simp [hp])]
  exact if_pos hst

/-- A closed job that is promoted takes the place after the last URGENT job. -/
theorem State.promote_spec (h : s.job? j.id = some j) (hp : j.priority = .normal) (hst : j.state ≠ .opened) :
    Requeued s (s.promote j) { j with priority := .urgent } ∧
    (s.promote j).sm.queue = placeInQueue s.isUrgent (s.sm.queue.filter (· != j.id)) j.id .urgent ∧
    Notified s (s.promote j) j.source (.printState j.id j.state.notice ((s.promote j).queuePosition j.id)) := by
  have hpr : s.promote j = State.notifyJob { s with sm := { s.sm with
      jobs := (s.mapJob j.id fun k => { k with priority := .urgent }).sm.jobs
      queue := placeInQueue s.isUrgent (s.sm.queue.filter (· != j.id)) j.id .urgent } } j.source j.id j.state.notice
      (State.queuePosition { s with sm := { s.sm with
        jobs := (s.mapJob j.id fun k => { k with priority := .urgent }).sm.jobs
        queue := placeInQueue s.isUrgent (s.sm.queue.filter (· != j.id)) j.id .urgent } } j.id) := by
    unfold State.promote
    rw [if_neg (by simp [hp])]
    exact if_neg hst
  obtain ⟨h1, h2, h3⟩ := requeued_notifyJob (f := fun k => { k with priority := .urgent }) (fun _ => rfl) h
    (v := { s with sm := { s.sm with
      jobs := (s.mapJob j.id fun k => { k with priority := .urgent }).sm.jobs
      queue := placeInQueue s.isUrgent (s.sm.queue.filter (· != j.id)) j.id .urgent } }) rfl j.source j.id j.state.notice
    (State.queuePosition { s with sm := { s.sm with
        jobs := (s.mapJob j.id fun k => { k with priority := .urgent }).sm.jobs
        queue := placeInQueue s.isUrgent (s.sm.queue.filter (· != j.id)) j.id .urgent } } j.id)
  rw [← hpr] at h1 h2 h3
  exact ⟨h1, h2, by rw [State.queuePosition_congr h2]; exact h3⟩

/-- A selection is heard at the port of the job's desk alone (R100). -/
theorem State.select_port_of_ne (h : s.job? k.id = some k) {n : PortNo} (hn : s.deskOf k.source ≠ some n) :
    (s.select k).port n = s.port n := by
  obtain ⟨-, hports, -, -⟩ := State.select_spec h
  rw [State.port_congr hports, State.port_notifyJob, if_neg fun e => hn e.1]

/-- A HELD job that is released while the engine is IDLE: the first QUEUED job is selected in the same event (R103, R113). -/
theorem releaseJob_selects {i : Nat} (h : s.job? j.id = some j) (hst : s.pe.state = .idle)
    (hi : (s.sm.queue.find? fun i => i == j.id || (s.job? i).any fun k => k.state == .queued) = some i) :
    let t := (s.setJobState j .queued .queued).offerJobs
    t.pe.job = some i ∧ t.pe.state ≠ .idle ∧ (t.job? i).map Job.state = some .printing ∧
    (i ≠ j.id → t.job? j.id = some { j with state := .queued }) ∧
    (∀ x, x ≠ i → x ≠ j.id → t.job? x = s.job? x) ∧ t.sm.queue = s.sm.queue ∧
    (∀ n, s.deskOf j.source ≠ some n → (∀ x, s.job? i = some x → s.deskOf x.source ≠ some n) → t.port n = s.port n) ∧
    t = { s with sm := { s.sm with jobs := t.sm.jobs }, pe := t.pe, ports := t.ports, au := t.au } := by
  intro t
  obtain ⟨⟨hself, hrest, hframe⟩, hqueue, hnotified⟩ := State.setJobState_spec h .queued .queued
  have hpe : (s.setJobState j .queued .queued).pe = s.pe := State.setJobState_pe ..
  have hdesk : (s.setJobState j .queued .queued).deskOf = s.deskOf :=
    funext fun src => State.deskOf_congr (fun a => by rw [State.entry_congr (State.setJobState_sd ..)]) src
  have hfind : ((s.setJobState j .queued .queued).sm.queue.find? fun i =>
      ((s.setJobState j .queued .queued).job? i).any fun k => k.state == .queued) = some i := by
    rw [hqueue, ← hi]
    congr 1
    funext x
    by_cases hx : x = j.id
    · subst hx
      rw [hself]
      simp
    · rw [hrest x hx]
      simp [hx]
  have ht : t = (s.setJobState j .queued .queued).offerJobs := rfl
  generalize s.setJobState j .queued .queued = u at ht hself hrest hframe hqueue hnotified hpe hdesk hfind
  obtain ⟨k, hk, -, hn⟩ := State.nextQueued_of_find hfind
  obtain rfl : k.id = i := job?_id hk
  obtain ⟨hjob, hne, hprint⟩ := State.select_engine hk
  obtain ⟨hothers, -, hselect, -⟩ := State.select_spec hk
  rw [State.offerJobs_of_idle (hpe ▸ hst) hn] at ht
  have htjob (x : Nat) : t.job? x = (u.select k).job? x := by rw [ht]; exact State.job?_reportEngine ..
  have htpe : t.pe = (u.select k).pe := by rw [ht]; exact State.reportEngine_pe ..
  have htsm : t.sm = (u.select k).sm := by rw [ht]; exact State.reportEngine_sm ..
  have htports : t.ports = (u.select k).ports := by rw [ht]; exact State.reportEngine_ports ..
  refine ⟨htpe ▸ hjob, htpe ▸ hne, by rw [htjob]; exact hprint, fun hx => ?_, fun x h1 h2 => ?_, ?_, fun n h1 h2 => ?_, ?_⟩
  · rw [htjob, hothers j.id (Ne.symm hx)]
    exact hself
  · rw [htjob, hothers x h1]
    exact hrest x h2
  · rw [htsm, hselect]
    exact hqueue
  · have hnk : u.deskOf k.source ≠ some n := by
      rw [hdesk]
      by_cases e : k.id = j.id
      · have hkj : k = { j with state := .queued } := Option.some.inj (hk.symm.trans ((congrArg u.job? e).trans hself))
        rw [hkj]
        exact h1
      · exact h2 k ((hrest k.id e).symm.trans hk)
    rw [State.port_congr htports, State.select_port_of_ne hk hnk, hnotified n, if_neg fun e => h1 e.1]
  · rw [htpe, htsm, htports]
    conv => lhs; rw [ht, State.reportEngine_frame]
    have hau : ((u.select k).reportEngine .idle).au = t.au := by rw [ht]
    rw [hau]
    generalize (u.select k).pe = x1, (u.select k).sm.jobs = x2, (u.select k).ports = x3 at hselect
    rw [hqueue] at hframe
    generalize u.sm.jobs = y1, u.ports = y2 at hframe
    rw [hselect, hframe]

/-- Settles O55: each command by the job's state, the release at an IDLE engine with the selection that follows. -/
theorem jobsAreHeldReleasedAndPromoted : Obligations.JobsAreHeldReleasedAndPromoted := by
  intro cont id j s hid hj becomes tells
  have h : s.job? j.id = some j := job?_self hj
  have hhold : holdJobCommand id s = _ := onJob_of hid hj
  have hrelease : releaseJobCommand id s = _ := onJob_of hid hj
  have hpromote : promoteJobCommand id s = accept (s.promote j) := onJob_of hid hj
  refine ⟨fun hst => ⟨?_, ?_⟩, fun hst => ?_, fun hst => ?_, fun hst => ?_, fun hst hpe => ?_, fun i _ hst hpe hi => ?_,
    fun hp => ?_, fun hp hst => ?_, fun hp hst => ?_⟩
  · refine refuses_of rfl (hhold.trans ?_) (by decide)
    rcases hst with e | e <;> rw [e]
  · refine refuses_of rfl (hrelease.trans ?_) (by decide)
    rcases hst with e | e <;> rw [e]
  · exact accepts_of (s1 := s) rfl (hhold.trans (by rw [hst])) rfl fun _ => rfl
  · exact accepts_of (s1 := s) rfl (hrelease.trans (by rw [hst])) rfl fun _ => rfl
  · obtain ⟨⟨hself, hrest, hframe⟩, hqueue, hnotified⟩ := State.setJobState_spec h .held .held
    refine accepts_of (s1 := s.setJobState j .held .held) rfl (hhold.trans (by rw [hst])) (State.setJobState_al ..)
      fun al => ⟨⟨hself, hrest, ?_⟩, hqueue, hnotified⟩
    exact congrArg (fun x : State => { x with al }) hframe
  · obtain ⟨⟨hself, hrest, hframe⟩, hqueue, hnotified⟩ := State.setJobState_spec h .queued .queued
    have hoffer : (s.setJobState j .queued .queued).offerJobs = s.setJobState j .queued .queued :=
      State.offerJobs_of_not_idle (by rw [State.setJobState_pe]; exact hpe)
    refine accepts_of (s1 := s.setJobState j .queued .queued) rfl (hrelease.trans (by rw [hst, hoffer])) (State.setJobState_al ..)
      fun al => ⟨⟨hself, hrest, ?_⟩, hqueue, hnotified⟩
    exact congrArg (fun x : State => { x with al }) hframe
  · obtain ⟨h1, h2, h3, h4, h5, h6, h7, h8⟩ := releaseJob_selects h hpe hi
    refine accepts_of (s1 := (s.setJobState j .queued .queued).offerJobs) rfl (hrelease.trans (by rw [hst])) (by rw [h8])
      fun al => ⟨h1, h2, h3, h4, h5, h6, h7, ?_⟩
    exact congrArg (fun x : State => { x with al }) h8
  · exact accepts_of (s1 := s) rfl (hpromote.trans (by rw [State.promote_of_urgent hp])) rfl fun _ => rfl
  · have hr := reworked_mapJob (f := fun k => { k with priority := .urgent }) (fun _ => rfl) h
    exact accepts_of (s1 := s.mapJob j.id fun k => { k with priority := .urgent }) rfl
      (hpromote.trans (by rw [State.promote_of_opened hp hst])) rfl fun al => ⟨⟨hr.self, hr.rest, rfl⟩, rfl, rfl⟩
  · obtain ⟨⟨hself, hrest, hframe⟩, hqueue, hnotified⟩ := State.promote_spec h hp hst
    refine accepts_of (s1 := s.promote j) rfl hpromote (State.promote_al ..) fun al => ⟨⟨hself, hrest, ?_⟩, hnotified, ?_⟩
    · exact congrArg (fun x : State => { x with al }) hframe
    · obtain ⟨front, back, hsplit, hplace, hback, hfront⟩ := placeInQueue_urgent s (s.sm.queue.filter (· != j.id)) j.id
      exact ⟨front, back, hsplit, hqueue.trans hplace, hback, hfront⟩

end Sys2Proof.Machine
end

section
/-! PROOF. The start point of a reply to a poll (R44, R45, R48 to R51, R57, R58). -/

namespace Sys2Proof.Machine

variable {s t u : State} {k : Taking}

/-! ### The reply begins (R28, R43 to R45) -/

/-- What the start point leaves with a decision, from the state that the decision left. -/
def State.gives (s : State) (k : Taking) : Decision → State
  | .noReply => { s with pr := .idle }
  | .fill => { s.beginReply k.station [] with pr := .filling k 0 }
  | .reply c m => { s.beginReply k.station (replyTail c m) with pr := .sending k c m }

theorem State.startReply_of {d : Decision} (h : s.decideReply k = (d, u)) : s.startReply k = u.gives k d := by
  unfold State.startReply
  rw [h]
  cases d <;> rfl

/-- The reply context and transmitter A alone follow a decision. -/
theorem State.gives_frame (s : State) (k : Taking) (d : Decision) :
    s.gives k d = { s with pr := (s.gives k d).pr, ti := { s.ti with segA := (s.gives k d).ti.segA } } := by
  cases d <;> rfl

theorem State.gives_reply (s : State) (k : Taking) (c : ReplyCode) (m : List Byte) :
    (s.gives k (.reply c m)).pr = .sending k c m ∧ (s.gives k (.reply c m)).ti.segA.tx = .reply ∧
    (s.gives k (.reply c m)).ti.segA.line = replyHead s.ti.segA.profile k.station ++ burstBody (c.code :: m) := ⟨rfl, rfl, rfl⟩

theorem State.gives_fill (s : State) (k : Taking) :
    (s.gives k .fill).pr = .filling k 0 ∧ (s.gives k .fill).ti.segA.tx = .reply ∧
    (s.gives k .fill).ti.segA.line = replyHead s.ti.segA.profile k.station := ⟨rfl, rfl, List.append_nil _⟩

/-- The start point of a waiting reply on an available line. -/
theorem exec_replyStartPoint {quiet : Nat} (hpr : s.pr = .waiting k) (htx : s.ti.segA.tx = .idle) (ha : s.ti.segA.activity = none)
    (hq : 1 ≤ quiet) {d : Decision} (hd : s.decideReply k = (d, u)) : exec (.replyStartPoint quiet) s = .next (u.gives k d) := by
  have hav : s.ti.segA.available quiet = true := by simp [Segment.available, htx, ha, hq]
  refine congrArg Host.Outcome.next ?_
  rw [hpr]
  exact (if_pos hav).trans (State.startReply_of hd)

/-! ### A desk's poll (R48 to R51, R57) -/

/-- The decision for a desk's poll touches the port only where its upstream head is sent. -/
theorem State.decideReply_poll {n : PortNo} {code : Byte} (hh : k.handling = .desk n) (hr : k.request = .poll code) {d : Decision}
    (hd : (s.port n).pollReply code k.standIn s.ti.segA.profile.fill = d) :
    (∀ m, d = .reply .data m → s.decideReply k = (d, s.mapPort n fun p => { p with headSent := true })) ∧
    ((∀ m, d ≠ .reply .data m) → s.decideReply k = (d, s)) := by
  unfold State.decideReply
  rw [hh, hr]
  dsimp only
  rw [hd]
  refine ⟨fun m hm => by rw [hm], fun hm => ?_⟩
  cases d with
  | noReply | fill => rfl
  | reply c m =>
    cases c with
    | data => exact absurd rfl (hm m)
    | nil | offline | accept | refuse => rfl

theorem Port.pollReply_next {p : Port} {code : Byte} (h : code = 0 ∨ code = 2) (x : StandIn) (fill : Nat) :
    p.pollReply code x fill = p.nextReply x fill := if_pos h

theorem Port.pollReply_status {p : Port} {code : Byte} (h : ¬ (code = 0 ∨ code = 2)) (x : StandIn) (fill : Nat) :
    p.pollReply code x fill = p.statusReply x := if_neg h

/-- A port out of service answers every poll alike. -/
theorem Port.pollReply_out {p : Port} (code : Byte) (x : StandIn) (fill : Nat) :
    (p.state = .stopping ∨ p.state = .standby → p.pollReply code x fill = .reply .offline []) ∧
    (p.state = .isolated → p.pollReply code x fill = x.decision) := by
  unfold Port.pollReply Port.nextReply Port.statusReply
  refine ⟨fun h => ?_, fun h => ?_⟩
  · rcases h with h | h <;> simp only [h, ite_self]
  · simp only [h, ite_self]

/-- A port in service answers by what its desk has waiting (R48 to R51). -/
theorem Port.pollReply_service {p : Port} (code : Byte) (x : StandIn) (fill : Nat) (h : p.state = .online ∨ p.state = .detached) :
    (code = 0 ∨ code = 2 → ∀ m rest, p.upstream = m :: rest → p.pollReply code x fill = .reply .data m) ∧
    (code = 0 ∨ code = 2 → p.upstream = [] → p.state = .detached → p.pollReply code x fill = .reply .offline []) ∧
    (code = 0 ∨ code = 2 → p.upstream = [] → p.state = .online →
      p.pollReply code x fill = if p.receivingMsg = true ∧ 1 ≤ fill then .fill else .reply .nil []) ∧
    (¬ (code = 0 ∨ code = 2) →
      p.pollReply code x fill = .reply (if p.state = .detached ∧ p.upstream = [] then .offline else .nil) []) := by
  refine ⟨fun hn m rest hu => ?_, fun hn hu hst => ?_, fun hn hu hst => ?_, fun hn => ?_⟩
  · rw [Port.pollReply_next hn, Port.nextReply]
    rcases h with h | h <;> simp only [h, hu]
  · rw [Port.pollReply_next hn, Port.nextReply]
    simp only [hst, hu]
  · rw [Port.pollReply_next hn, Port.nextReply]
    simp only [hst, hu, Bool.and_eq_true, decide_eq_true_eq]
  · rw [Port.pollReply_status hn, Port.statusReply]
    rcases h with h | h
    · simp [h]
    · by_cases hu : p.upstream = [] <;> simp [h, hu]

/-- Settles O37: the decision by the handling, the port's state and the poll's code. -/
theorem pollsAreAnsweredAtTheStartPoint : Obligations.PollsAreAnsweredAtTheStartPoint := by
  intro k code quiet s hpr hreq htx ha hq sends standsIn next
  have hframe (d : Decision) : s.gives k d =
      { s with pr := (s.gives k d).pr, ports := (s.gives k d).ports, ti := { s.ti with segA := (s.gives k d).ti.segA } } := by
    cases d <;> rfl
  have hports (d : Decision) : (s.gives k d).ports = s.ports := by cases d <;> rfl
  cases hh : k.handling with
  | standIn =>
    have hd : s.decideReply k = (.reply .offline [], s) := by unfold State.decideReply; rw [hh]
    exact ⟨_, exec_replyStartPoint hpr htx ha hq hd, hframe _, fun _ => ⟨s.gives_reply .., hports _⟩, nofun, fun n => nofun⟩
  | printer =>
    have hd : s.decideReply k = (.reply s.pe.state.pollReply [], s) := by unfold State.decideReply; rw [hh, hreq]
    refine ⟨_, exec_replyStartPoint hpr htx ha hq hd, hframe _, nofun, fun _ => ⟨?_, hports _⟩, fun n => nofun⟩
    rw [← EngineState.offline_eq]
    exact s.gives_reply ..
  | desk n =>
    obtain ⟨hout, hisolated⟩ := Port.pollReply_out (p := s.port n) code k.standIn s.ti.segA.profile.fill
    obtain ⟨t, ht, hdata, hother⟩ : ∃ t, exec (.replyStartPoint quiet) s = .next t ∧
        (∀ m, (s.port n).pollReply code k.standIn s.ti.segA.profile.fill = .reply .data m →
          t = (s.mapPort n fun p => { p with headSent := true }).gives k (.reply .data m)) ∧
        ∀ d, (s.port n).pollReply code k.standIn s.ti.segA.profile.fill = d → (∀ m, d ≠ .reply .data m) → t = s.gives k d := by
      obtain ⟨h1, h2⟩ := State.decideReply_poll hh hreq rfl
      by_cases hd : ∃ m, (s.port n).pollReply code k.standIn s.ti.segA.profile.fill = .reply .data m
      · obtain ⟨m, hm⟩ := hd
        refine ⟨_, exec_replyStartPoint hpr htx ha hq (h1 m hm), fun m' hm' => by rw [hm'], fun d hd hne => absurd (hd.symm.trans hm) (hne m)⟩
      · exact ⟨_, exec_replyStartPoint hpr htx ha hq (h2 fun m hm => hd ⟨m, hm⟩), fun m hm => absurd ⟨m, hm⟩ hd, fun d hd _ => by rw [hd]⟩
    refine ⟨t, ht, ?_, nofun, nofun, fun _ e => ?_⟩
    · by_cases hd : ∃ m, (s.port n).pollReply code k.standIn s.ti.segA.profile.fill = .reply .data m
      · obtain ⟨m, hm⟩ := hd
        rw [hdata m hm]
        rfl
      · rw [hother _ rfl fun m hm => hd ⟨m, hm⟩]
        exact hframe _
    cases e
    refine ⟨fun i hi => ?_, fun hst => ?_, fun hst => ?_, fun hst => ?_⟩
    · by_cases hd : ∃ m, (s.port n).pollReply code k.standIn s.ti.segA.profile.fill = .reply .data m
      · obtain ⟨m, hm⟩ := hd
        rw [hdata m hm]
        exact State.port_mapPort_of_ne s (fun p => { p with headSent := true }) (by simpa using hi)
      · rw [hother _ rfl fun m hm => hd ⟨m, hm⟩]
        exact State.port_congr (hports _) i
    · rw [hother _ (hout hst) nofun]
      exact ⟨s.gives_reply .., hports _⟩
    · rw [hother _ (hisolated hst) (by cases k.standIn <;> nofun)]
      refine ⟨?_, hports _⟩
      cases hx : k.standIn with
      | silent => exact (if_neg (by simp [hx])).mpr ⟨rfl, rfl⟩
      | offline => exact (if_pos hx).mpr (s.gives_reply ..)
    · obtain ⟨h1, h2, h3, h4⟩ := Port.pollReply_service (p := s.port n) code k.standIn s.ti.segA.profile.fill hst
      refine ⟨fun hn m rest hu => ?_, fun hn hu hd => ?_, fun hn hu ho => ?_, fun hn => ?_⟩
      · rw [hdata m (h1 hn m rest hu)]
        exact ⟨State.gives_reply .., State.port_mapPort s n fun p => { p with headSent := true }⟩
      · rw [hother _ (h2 hn hu hd) nofun]
        exact ⟨s.gives_reply .., hports _⟩
      · by_cases hf : (s.port n).receivingMsg = true ∧ 1 ≤ s.ti.segA.profile.fill
        · rw [hother _ ((h3 hn hu ho).trans (if_pos hf)) nofun, if_pos hf]
          exact ⟨hports _, s.gives_fill k⟩
        · rw [hother _ ((h3 hn hu ho).trans (if_neg hf)) nofun, if_neg hf]
          exact ⟨hports _, s.gives_reply ..⟩
      · rw [hother _ (h4 hn) (by split <;> nofun)]
        exact ⟨hports _, s.gives_reply ..⟩

end Sys2Proof.Machine
end

section
/-! PROOF. The admission of a text, said once: its blocks, its characters, its charge and its report (R84, R85, R91, R92, R106). -/

namespace Sys2Proof.Machine

variable {s t u : State} {j k : Job} {text : List Byte}

/-! ### The two tests (R91) -/

theorem admission_iff {src : Source} {c n : Nat} : s.admission src c n = none ↔ Fits s src c n := by
  refine ⟨admission_eq_none, fun ⟨h1, h2⟩ => ?_⟩
  unfold State.admission
  rw [if_neg (by omega), if_neg (by omega)]

theorem admission_isSome_iff {src : Source} {c n : Nat} : (s.admission src c n).isSome = true ↔ ¬ Fits s src c n := by
  rw [← admission_iff, Option.isSome_iff_ne_none]

theorem roomFor_iff {src : Source} : s.tableRoom src = true ↔ RoomFor s src := by
  simp [State.tableRoom, RoomFor]

/-! ### What an admission leaves -/

theorem State.admitText_frame (s : State) (j : Job) (text : List Byte) : s.admitText j text =
    { s with sd := (s.admitText j text).sd, sm := (s.admitText j text).sm, au := (s.admitText j text).au } := by
  unfold State.admitText State.raiseLow
  dsimp only
  split <;> cases j.source <;> rfl

theorem State.admitText_accounts (s : State) (j : Job) (text : List Byte) : AccountsAlone s (s.admitText j text) := by
  have h := s.setHeld_accounts j.source (s.heldOf j.source + blocksNeeded j.count text.length)
  have hsd : (s.admitText j text).sd = (s.setHeld j.source (s.heldOf j.source + blocksNeeded j.count text.length)).sd := by
    unfold State.admitText
    dsimp only
    rw [State.raiseLow_sd]
    cases j.source <;> rfl
  unfold AccountsAlone
  simp only [State.entry_congr hsd, hsd]
  exact h

theorem State.admitText_au (s : State) (j : Job) (text : List Byte) : (s.admitText j text).au =
    if s.sm.lowMark ≤ s.sm.free.length ∧ (s.admitText j text).sm.free.length < s.sm.lowMark then
      s.au.take .spoolLow 0 (.free (s.admitText j text).sm.free.length) else s.au := by
  rw [State.admitText_sm]
  unfold State.admitText State.raiseLow
  dsimp only
  simp only [State.setHeld_sm, State.mapJob]
  split <;> cases j.source <;> rfl

/-- The places of an admitted text are all different, so each character reads back (R84, R85, R91). -/
theorem SpoolLaw.read_admitText (h : SpoolLaw s) (hm : MemoryLaw s) (hj : j ∈ s.sm.jobs) (hf : Fits s j.source j.count text.length)
    {i : Nat} {c : Byte} (hc : text[i]? = some c) :
    (s.admitText j text).sm.memory.read (chainAddress (j.admitted s text).chain (j.count + i)) = c := by
  obtain ⟨hi, hc⟩ := List.getElem?_eq_some_iff.mp hc
  have hlen := h.grown_length (.inl hj) hf.2
  rw [State.admitText_memory, ← hc]
  refine Memory.read_writeText _ _ _ _ _ hm hi fun k l _ hkl hl => ?_
  refine chainAddress_ne (h.grown_nodup (.inl hj) _) hkl ?_
  rw [hlen]
  omega

/-- All that an admission does beside the record. -/
theorem State.textTaken_admitText (hj : j ∈ s.sm.jobs) (hf : Fits s j.source j.count text.length) :
    TextTaken s (s.admitText j text) j text := by
  refine ⟨by rw [State.admitText_sm], s.admitText_accounts j text, fun src => ?_, s.admitText_au j text,
    fun h hm i c hc => h.read_admitText hm hj hf hc, fun hm a ha => s.read_admitText_other j text a hm ha⟩
  rw [State.heldOf_admitText]
  split
  next e => rw [e]
  next => rfl

theorem Job.admitted_eq (s : State) (j : Job) (text : List Byte) : j.admitted s text = { j with
    chain := j.chain ++ s.sm.free.take (blocksNeeded j.count text.length), count := j.count + text.length
    idleTimer := some (1000 * s.sm.idleTimeout) } := rfl

theorem State.job?_admitText_self (h : s.job? j.id = some j) : (s.admitText j text).job? j.id = some (j.admitted s text) := by
  refine (State.job?_congr' ?_ _).trans (State.job?_mapJob_self (f := fun k => { k with
    chain := j.chain ++ s.sm.free.take (blocksNeeded j.count text.length), count := j.count + text.length
    idleTimer := some (1000 * s.sm.idleTimeout) }) (fun _ => rfl) h)
  rw [State.admitText_sm]
  rfl

theorem State.job?_admitText_of_ne {i : Nat} (hi : i ≠ j.id) : (s.admitText j text).job? i = s.job? i := by
  refine (State.job?_congr' ?_ _).trans (State.job?_mapJob_of_ne s (f := fun k => { k with
    chain := j.chain ++ s.sm.free.take (blocksNeeded j.count text.length), count := j.count + text.length
    idleTimer := some (1000 * s.sm.idleTimeout) }) (fun _ => rfl) hi)
  rw [State.admitText_sm]
  rfl

/-- The job that a source has OPEN is the same one after its text is admitted. -/
theorem State.openJob?_admitText {src : Source} (h : s.openJob? src = some j) :
    (s.admitText j text).openJob? src = some (j.admitted s text) := by
  have hp : ((fun i : Job => i.state == .opened && i.source == src) ∘ fun k => if k.id = j.id then { k with
      chain := j.chain ++ s.sm.free.take (blocksNeeded j.count text.length), count := j.count + text.length
      idleTimer := some (1000 * s.sm.idleTimeout) } else k) = fun i => i.state == .opened && i.source == src := by
    funext k
    by_cases hk : k.id = j.id <;> simp [hk]
  unfold State.openJob?
  rw [State.admitText_sm, List.find?_map, hp, show s.sm.jobs.find? _ = some j from h, Option.map_some, if_pos rfl]
  rfl

/-! ### What the laws of an admission and of the queue read -/

theorem TextTaken.congr (h : TextTaken s t j text) (hsd : u.sd = t.sd) (hfree : u.sm.free = t.sm.free) (hmem : u.sm.memory = t.sm.memory)
    (hau : u.au = t.au) : TextTaken s u j text := by
  obtain ⟨h1, ⟨h2, h3⟩, h4, h5, h6, h7⟩ := h
  refine ⟨hfree.trans h1, ⟨fun a => ?_, by rw [hsd]; exact h3⟩, fun src => (State.heldOf_congr hsd src).trans (h4 src), ?_,
    fun hs hm i c hc => hmem ▸ h6 hs hm i c hc, fun hm a ha => hmem ▸ h7 hm a ha⟩
  · rw [State.entry_congr hsd]
    exact h2 a
  · rw [hau, h5, hfree]

/-- Only the ids and priorities of the table, and the queue before, are read of the state before. -/
theorem JoinsQueue.of_same (h : JoinsQueue s t k) (hid : k.id = j.id) (hp : k.priority = j.priority) (hq : s.sm.queue = u.sm.queue)
    (hjob : ∀ i, (s.job? i).map Job.priority = (u.job? i).map Job.priority) : JoinsQueue u t j := by
  have hsome {i : Nat} {x : Job} (hx : u.job? i = some x) : ∃ y, s.job? i = some y ∧ y.priority = x.priority := by
    have e := hjob i
    rw [hx] at e
    exact Option.map_eq_some_iff.mp e
  have hsome' {i : Nat} {x : Job} (hx : s.job? i = some x) : ∃ y, u.job? i = some y ∧ y.priority = x.priority := by
    have e := hjob i
    rw [hx] at e
    exact Option.map_eq_some_iff.mp e.symm
  unfold JoinsQueue at *
  rw [← hid, ← hp, ← hq]
  refine ⟨h.1, fun hu => ?_⟩
  obtain ⟨front, back, h1, h2, h3, h4⟩ := h.2 hu
  refine ⟨front, back, h1, h2, fun i hi x hx => ?_, fun i hi => ?_⟩
  · obtain ⟨y, hy, hyx⟩ := hsome hx
    exact hyx.symm.trans (h3 i hi y hy)
  · obtain ⟨x, hx, hxu⟩ := h4 i hi
    obtain ⟨y, hy, hyx⟩ := hsome' hx
    exact ⟨y, hy, hyx.trans hxu⟩

end Sys2Proof.Machine
end

section
/-! PROOF. Submissions from the primary: ABORT, a text, and LAST (R97). -/

namespace Sys2Proof.Machine

variable {s t u v : State} {j k : Job} {m text : List Byte}

/-! ### What a submission is taken as -/

/-- The text of a submission: LAST at the head is taken off. -/
def submittedText (m : List Byte) : List Byte := if m.head? = some 0x10 then m.drop 1 else m

theorem primaryText_eq (m : List Byte) : primaryText m = (submittedText m, decide (m.head? = some 0x10)) := by
  unfold submittedText
  cases m with
  | nil => rfl
  | cons c cs =>
    by_cases h : c = 0x10
    · subst h
      rfl
    · rw [if_neg (by simpa using h), primaryText, if_neg (show ¬ c = printLast from h)]
      simpa using h

theorem submitPrimary_abort (h : m.head? = some 0x18) :
    (s.openJob? .primary = none → s.submitPrimary m = (true, s)) ∧
    ∀ j, s.openJob? .primary = some j → s.submitPrimary m = (true, s.removeJob j .discarded) := by
  unfold State.submitPrimary
  rw [if_pos (show m.head? = some printAbort from h)]
  exact ⟨fun e => by rw [e], fun j e => by rw [e]⟩

/-- A submission that is not ABORT: its text is admitted or refused, and LAST closes the job. -/
theorem submitPrimary_text (h : m.head? ≠ some 0x18) : s.submitPrimary m =
    (if submittedText m = [] then some s else s.primaryAdmit (submittedText m)).elim (false, s)
      fun s1 => (true, if m.head? = some 0x10 then s1.primaryClose else s1) := by
  unfold State.submitPrimary
  rw [if_neg (show ¬ m.head? = some printAbort from h), primaryText_eq]
  dsimp only
  cases (if submittedText m = [] then some s else s.primaryAdmit (submittedText m)) with
  | none => rfl
  | some s1 => simp

/-- The text joins the primary's OPEN job, or a new one (R97). -/
theorem primaryAdmit_own (h : s.openJob? .primary = some j) :
    (¬ Fits s .primary j.count text.length → s.primaryAdmit text = none) ∧
    (Fits s .primary j.count text.length → s.primaryAdmit text = some (s.admitText j text)) := by
  unfold State.primaryAdmit
  rw [h]
  dsimp only
  refine ⟨fun hf => if_pos (admission_isSome_iff.mpr hf), fun hf => if_neg fun e => admission_isSome_iff.mp e hf⟩

/-- The state with the record that a text opens for the primary. -/
def State.withPrimary (s : State) (id : Nat) : State :=
  { s with sm := { s.sm with jobs := s.sm.jobs ++ [newJob s id .primary 1 .normal], lastId := id } }

theorem openJob_primary (s : State) : s.openJob .primary 1 .normal = s.withPrimary s.freshId := rfl

theorem withPrimary_openJob? (h : s.openJob? .primary = none) (id : Nat) :
    (s.withPrimary id).openJob? .primary = some (newJob s id .primary 1 .normal) := by
  unfold State.openJob? State.withPrimary
  rw [List.find?_append, show s.sm.jobs.find? _ = none from h]
  rfl

theorem primaryAdmit_new (h : s.openJob? .primary = none) :
    (¬ RoomFor s .primary ∨ ¬ Fits s .primary 0 text.length → s.primaryAdmit text = none) ∧
    (RoomFor s .primary → Fits s .primary 0 text.length →
      s.primaryAdmit text = some ((s.withPrimary s.freshId).admitText (newJob s s.freshId .primary 1 .normal) text)) := by
  have hcond : (!s.tableRoom .primary || (s.admission .primary 0 text.length).isSome) = true ↔
      ¬ RoomFor s .primary ∨ ¬ Fits s .primary 0 text.length := by
    rw [Bool.or_eq_true, admission_isSome_iff, ← roomFor_iff]
    simp
  unfold State.primaryAdmit
  rw [h]
  dsimp only
  refine ⟨fun hf => if_pos (hcond.mpr hf), fun hr hf => (if_neg fun e => ?_).trans ?_⟩
  · exact (hcond.mp e).elim (fun x => x hr) fun x => x hf
  · rw [openJob_primary, withPrimary_openJob? h]

theorem primaryClose_of (h : s.openJob? .primary = some j) : s.primaryClose = s.closeJob j := by
  rw [State.primaryClose, h]

theorem primaryClose_none (h : s.openJob? .primary = none) : s.primaryClose = s := by
  rw [State.primaryClose, h]

/-! ### Nothing of the trunk -/

theorem primaryAdmit_ti (h : s.primaryAdmit text = some u) : u.ti = s.ti := by
  cases ho : s.openJob? .primary with
  | some j =>
    obtain ⟨h1, h2⟩ := primaryAdmit_own (text := text) ho
    by_cases hf : Fits s .primary j.count text.length
    · obtain rfl := Option.some.inj ((h2 hf).symm.trans h)
      rw [State.admitText_frame]
    · exact nomatch (h1 hf).symm.trans h
  | none =>
    obtain ⟨h1, h2⟩ := primaryAdmit_new (text := text) ho
    by_cases hc : ¬ RoomFor s .primary ∨ ¬ Fits s .primary 0 text.length
    · exact nomatch (h1 hc).symm.trans h
    · rw [not_or, not_not, not_not] at hc
      obtain rfl := Option.some.inj ((h2 hc.1 hc.2).symm.trans h)
      rw [State.admitText_frame]
      rfl

theorem primaryClose_ti (s : State) : s.primaryClose.ti = s.ti := by
  unfold State.primaryClose
  split
  · simp
  · rfl

theorem submitPrimary_ti (s : State) (m : List Byte) : (s.submitPrimary m).2.ti = s.ti := by
  by_cases h : m.head? = some 0x18
  · obtain ⟨h1, h2⟩ := submitPrimary_abort (s := s) h
    cases ho : s.openJob? .primary with
    | none => rw [h1 ho]
    | some j => rw [h2 j ho]; simp
  · rw [submitPrimary_text h]
    cases hs : (if submittedText m = [] then some s else s.primaryAdmit (submittedText m)) with
    | none => rfl
    | some u =>
      have hu : u.ti = s.ti := by
        split at hs
        · rw [Option.some.inj hs]
        · exact primaryAdmit_ti hs
      simp only [Option.elim_some]
      split
      · exact (primaryClose_ti u).trans hu
      · exact hu

/-! ### An admitted text of the primary -/

/-- A text of the primary has joined the job j, whose record is now k: what the state v after it has in common with s. -/
structure PrimaryTook (s v : State) (j k : Job) (text : List Byte) : Prop where
  frame : v = { s with sd := v.sd, sm := v.sm, au := v.au }
  own : v.openJob? .primary = some k
  record : v.job? k.id = some k
  hasText : k.count ≠ 0
  rest : ∀ i, i ≠ k.id → v.job? i = s.job? i
  queue : v.sm.queue = s.sm.queue
  taken : TextTaken s v j text
  unqueued : (∀ i ∈ s.sm.jobs, i.state ≠ .queued) → ∀ i ∈ v.sm.jobs, i.state ≠ .queued

theorem admitText_unqueued (h : ∀ i ∈ s.sm.jobs, i.state ≠ .queued) (j : Job) (text : List Byte) :
    ∀ i ∈ (s.admitText j text).sm.jobs, i.state ≠ .queued := by
  intro i hi
  rw [State.admitText_sm] at hi
  obtain ⟨x, hx, rfl⟩ := List.mem_map.mp hi
  split
  exacts [h x hx, h x hx]

theorem primaryTook_own (ho : s.openJob? .primary = some j) (hj : s.job? j.id = some j) (hf : Fits s .primary j.count text.length)
    (ht : text ≠ []) : PrimaryTook s (s.admitText j text) j (j.admitted s text) text := by
  obtain ⟨hmem, -, hsrc⟩ := openJob?_spec ho
  have hlen : text.length ≠ 0 := by simpa using ht
  refine ⟨s.admitText_frame j text, State.openJob?_admitText ho, State.job?_admitText_self hj, ?_, fun i hi => State.job?_admitText_of_ne hi,
    by rw [State.admitText_sm], State.textTaken_admitText hmem (by rwa [hsrc]), fun h => admitText_unqueued h j text⟩
  show j.count + text.length ≠ 0
  omega

/-! ### A new job of the primary -/

theorem freshId_primary (hr : RoomFor s .primary) : FreshId s s.freshId := freshId_spec (Nat.lt_trans hr.1 (by decide))

variable {id : Nat}

theorem withPrimary_job?_self (hid : FreshId s id) : (s.withPrimary id).job? id = some (newJob s id .primary 1 .normal) := by
  have hnone : s.sm.jobs.find? (fun j => j.id == id) = none := List.find?_eq_none.mpr fun j hj => by simpa using hid.2 j hj
  unfold State.job? State.withPrimary
  rw [List.find?_append, hnone]
  simp [newJob]

theorem withPrimary_job?_of_ne {i : Nat} (hi : i ≠ id) : (s.withPrimary id).job? i = s.job? i := by
  have hb : (id == i) = false := by simpa using Ne.symm hi
  have hnone : [newJob s id .primary 1 .normal].find? (fun j => j.id == i) = none := by simp [newJob, hb]
  unfold State.job? State.withPrimary
  rw [List.find?_append, hnone, Option.or_none]

theorem primaryTook_new (hid : s.freshId = id) (ho : s.openJob? .primary = none) (hr : RoomFor s .primary)
    (hf : Fits s .primary 0 text.length) (ht : text ≠ []) :
    PrimaryTook s ((s.withPrimary id).admitText (newJob s id .primary 1 .normal) text) (newJob s id .primary 1 .normal)
      ((newJob s id .primary 1 .normal).admitted s text) text := by
  have hfresh : FreshId s id := hid ▸ freshId_primary hr
  have hopen : s.openJob .primary 1 .normal = s.withPrimary id := hid ▸ openJob_primary s
  have hlen : text.length ≠ 0 := by simpa using ht
  have hself : (s.withPrimary id).job? id = some (newJob s id .primary 1 .normal) := withPrimary_job?_self hfresh
  have htaken : TextTaken (s.withPrimary id) ((s.withPrimary id).admitText (newJob s id .primary 1 .normal) text)
      (newJob s id .primary 1 .normal) text := State.textTaken_admitText (job?_mem hself) hf
  obtain ⟨h1, h2, h3, h4, h5, h6⟩ := htaken
  have hframe := (s.withPrimary id).admitText_frame (newJob s id .primary 1 .normal) text
  refine ⟨?_, State.openJob?_admitText (withPrimary_openJob? ho id), State.job?_admitText_self (s := s.withPrimary id) hself, ?_, fun i hi => ?_,
    by rw [State.admitText_sm]; rfl, ⟨h1, h2, h3, h4, fun hs hm => ?_, h6⟩, fun h => ?_⟩
  · generalize (s.withPrimary id).admitText (newJob s id .primary 1 .normal) text = v at hframe
    generalize v.sd = x, v.sm = y, v.au = z at hframe
    rw [hframe]
    rfl
  · show 0 + text.length ≠ 0
    omega
  · have hi' : i ≠ id := hi
    exact (State.job?_admitText_of_ne (s := s.withPrimary id) (j := newJob s id .primary 1 .normal) hi').trans (withPrimary_job?_of_ne hi')
  · have hs1 : SpoolLaw (s.withPrimary id) := by
      rw [← hopen]
      exact hs.openJob 1 .normal ho (roomFor_iff.mpr hr)
    exact h5 hs1 hm
  · refine admitText_unqueued (s := s.withPrimary id) (fun i hi => ?_) _ _
    rcases List.mem_append.mp hi with hi | hi
    · exact h i hi
    · rw [List.mem_singleton.mp hi]
      simp [newJob]

theorem map_of_fresh (h : FreshId s id) (f : Job → Job) : (s.sm.jobs.map fun k => if k.id = id then f k else k) = s.sm.jobs := by
  rw [List.map_congr_left (g := fun k => k) fun k hk => if_neg (h.2 k hk), List.map_id']

/-- The table with a new job and its text. -/
theorem primaryTook_new_jobs (hid : FreshId s id) :
    ((s.withPrimary id).admitText (newJob s id .primary 1 .normal) text).sm.jobs =
      s.sm.jobs ++ [(newJob s id .primary 1 .normal).admitted s text] := by
  rw [State.admitText_sm]
  show (s.sm.jobs ++ [newJob s id .primary 1 .normal]).map _ = _
  rw [List.map_append]
  refine congrArg₂ _ (map_of_fresh hid _) ?_
  simp [newJob, Job.admitted, State.withPrimary]

/-! ### LAST (R97, R113 to R115) -/

/-- A job of the primary with text that closes, by the engine's state. -/
theorem closeJob_primary (hk : v.job? k.id = some k) (hsrc : k.source = .primary) (hc : k.count ≠ 0) :
    (v.pe.state ≠ .idle → v.closeJob k = v.enqueue k) ∧
    (v.pe.state = .idle → (∀ i ∈ v.sm.jobs, i.state ≠ .queued) → (v.closeJob k).pe.job = some k.id) ∧
    (v.pe.state = .idle → v.pe.ready = true → (∀ i ∈ v.sm.jobs, i.state ≠ .queued) →
      Selected v (v.closeJob k) { k with state := .queued, idleTimer := none } ∧ JoinsQueue v (v.closeJob k) k ∧
      v.closeJob k = { v with
        sm := { v.sm with jobs := (v.closeJob k).sm.jobs, queue := (v.closeJob k).sm.queue }, pe := (v.closeJob k).pe }) := by
  have hcl : v.closeJob k = (v.enqueue k).offerJobs := if_neg hc
  have hpe : (v.enqueue k).pe = v.pe := State.enqueue_pe ..
  rw [hcl]
  exact ⟨fun hst => State.offerJobs_of_not_idle (by rw [hpe]; exact hst), State.offerJobs_enqueue_job hk,
    selected_enqueue_primary hk hsrc⟩

end Sys2Proof.Machine
end

section
/-! PROOF. The start point of a reply to a select (R44, R54, R57, R59, R97). -/

namespace Sys2Proof.Machine

variable {s t u v : State} {j k : Job} {m text : List Byte} {x : Taking}

/-! ### The job that LAST closes, with its text -/

/-- LAST after an admitted text, by the engine's state. -/
theorem PrimaryTook.close (h : PrimaryTook s v j k text) :
    (s.pe.state = .idle → (∀ i ∈ s.sm.jobs, i.state ≠ .queued) → v.primaryClose.pe.job = some k.id) ∧
    (s.pe.state ≠ .idle → v.primaryClose = v.enqueue k ∧ TextTaken s v.primaryClose j text ∧
      v.primaryClose = { s with sd := v.primaryClose.sd, sm := v.primaryClose.sm, au := v.primaryClose.au }) ∧
    (s.pe.state = .idle → s.pe.ready = true → (∀ i ∈ s.sm.jobs, i.state ≠ .queued) →
      Selected s v.primaryClose { k with state := .queued, idleTimer := none } ∧ JoinsQueue v v.primaryClose k ∧
      TextTaken s v.primaryClose j text ∧ v.primaryClose.sm.lastId = v.sm.lastId ∧
      v.primaryClose = { s with
        sd := v.primaryClose.sd, sm := v.primaryClose.sm, pe := v.primaryClose.pe, au := v.primaryClose.au }) := by
  have hsrc : k.source = .primary := (openJob?_spec h.own).2.2
  have hvf := h.frame
  have hpe : v.pe = s.pe := by rw [hvf]
  obtain ⟨hjob, hbusy, hidle⟩ := closeJob_primary h.record hsrc h.hasText
  rw [primaryClose_of h.own]
  rw [hpe] at hjob hbusy hidle
  refine ⟨fun hst hn => hbusy hst (h.unqueued hn), fun hst => ?_, fun hst hr hn => ?_⟩
  · have hc := hjob hst
    have hf := State.enqueue_primary h.record hsrc
    rw [hc]
    refine ⟨rfl, h.taken.congr (by rw [hf]) (by rw [hf]) (by rw [hf]) (by rw [hf]), ?_⟩
    generalize (v.enqueue k).sm.jobs = l, (v.enqueue k).sm.queue = q at hf
    rw [hf]
    generalize v.sd = a, v.sm = b, v.au = c at hvf
    rw [hvf]
  · obtain ⟨hsel, hjoins, hf⟩ := hidle hst hr (h.unqueued hn)
    refine ⟨hsel.of_same hpe h.rest, hjoins, h.taken.congr (by rw [hf]) (by rw [hf]) (by rw [hf]) (by rw [hf]), by rw [hf], ?_⟩
    generalize (v.closeJob k).sm.jobs = l, (v.closeJob k).sm.queue = q, (v.closeJob k).pe = e at hf
    rw [hf]
    generalize v.sd = a, v.sm = b, v.au = c at hvf
    rw [hvf]

/-- The queue is joined as from the state before the admission. -/
theorem PrimaryTook.joinsQueue (h : PrimaryTook s v j (j.admitted s text) text) (hj : s.job? j.id = some j)
    (hq : JoinsQueue v u (j.admitted s text)) : JoinsQueue s u j := by
  refine hq.of_same rfl rfl h.queue fun i => ?_
  by_cases hi : i = j.id
  · subst hi
    have hrec : v.job? j.id = some (j.admitted s text) := h.record
    rw [hrec, hj]
    rfl
  · rw [h.rest i hi]

/-! ### The reply that follows -/

/-- The accounts, the spool and the Alert Unit are all that a submission touches, when it selects no job. -/
theorem gives_accounts (hu : u = { s with sd := u.sd, sm := u.sm, au := u.au }) (d : Decision) : u.gives x d = { s with
    pr := (u.gives x d).pr, ti := { s.ti with segA := (u.gives x d).ti.segA }, sd := (u.gives x d).sd, sm := (u.gives x d).sm
    au := (u.gives x d).au } := by
  generalize u.sd = a, u.sm = b, u.au = c at hu
  rw [hu]
  cases d <;> rfl

/-- With the engine's record, they are all that a submission touches. -/
theorem gives_prints (hu : u = { s with sd := u.sd, sm := u.sm, pe := u.pe, au := u.au }) (d : Decision) : u.gives x d = { s with
    pr := (u.gives x d).pr, ti := { s.ti with segA := (u.gives x d).ti.segA }, sd := (u.gives x d).sd, sm := (u.gives x d).sm
    pe := (u.gives x d).pe, au := (u.gives x d).au } := by
  generalize u.sd = a, u.sm = b, u.pe = e, u.au = c at hu
  rw [hu]
  cases d <;> rfl

/-- The verdict of a select at the printer address. -/
theorem decideReply_printer (hh : x.handling = .printer) (hr : x.request = .select m) :
    (s.pe.state = .disabled → s.decideReply x = (.reply .offline [], s)) ∧
    (s.pe.state ≠ .disabled →
      s.decideReply x = (.reply (if (s.submitPrimary m).1 then .accept else .refuse) [], (s.submitPrimary m).2)) := by
  unfold State.decideReply
  rw [hh, hr]
  dsimp only
  refine ⟨fun h => if_pos h, fun h => (if_neg h).trans ?_⟩
  rcases hs : s.submitPrimary m with ⟨b, u⟩
  cases b <;> rfl

/-- A refused submission changes nothing. -/
theorem submitPrimary_refused (h : (s.submitPrimary m).1 = false) : (s.submitPrimary m).2 = s := by
  by_cases ha : m.head? = some 0x18
  · obtain ⟨h1, h2⟩ := submitPrimary_abort (s := s) ha
    cases ho : s.openJob? .primary with
    | none => rw [h1 ho]
    | some j => rw [h2 j ho] at h; cases h
  · rw [submitPrimary_text ha] at h ⊢
    cases hs : (if submittedText m = [] then some s else s.primaryAdmit (submittedText m)) with
    | none => rfl
    | some u => rw [hs] at h; cases h

/-! ### A desk's select (R54, R57) -/

theorem decideReply_select {n : PortNo} (hh : x.handling = .desk n) (hr : x.request = .select m) :
    ((s.port n).selectReply x.standIn = .reply .accept [] → s.decideReply x =
      (.reply .accept [], s.mapPort n fun p => { p with downstream := p.downstream ++ [m] }.chooseFrame)) ∧
    ∀ d, (s.port n).selectReply x.standIn = d → (∀ y, d ≠ .reply .accept y) → s.decideReply x = (d, s) := by
  unfold State.decideReply
  rw [hh, hr]
  dsimp only
  refine ⟨fun h => by rw [h], fun d h hne => ?_⟩
  rw [h]
  cases d with
  | noReply | fill => rfl
  | reply c y =>
    cases c with
    | accept => exact absurd rfl (hne y)
    | data | nil | offline | refuse => rfl

end Sys2Proof.Machine
end

section
/-! PROOF. Selects at the start point: the obligation (R44, R54, R57, R59, R97, R113 to R115). -/

namespace Sys2Proof.Machine

variable {s t u v : State} {j k : Job} {m text : List Byte} {x : Taking}

/-! ### A job of the primary that a LAST without a text closes -/

/-- LAST alone closes the OPEN job as it stands. -/
theorem primaryClose_own (ho : s.openJob? .primary = some j) (hc : j.count ≠ 0) (hj : s.job? j.id = some j) :
    (s.pe.state = .idle → (∀ i ∈ s.sm.jobs, i.state ≠ .queued) → s.primaryClose.pe.job = some j.id) ∧
    (s.pe.state ≠ .idle → Requeued s s.primaryClose { j with state := .queued, idleTimer := none } ∧ JoinsQueue s s.primaryClose j ∧
      s.primaryClose = { s with sm := { s.sm with jobs := s.primaryClose.sm.jobs, queue := s.primaryClose.sm.queue } }) ∧
    (s.pe.state = .idle → s.pe.ready = true → (∀ i ∈ s.sm.jobs, i.state ≠ .queued) →
      Selected s s.primaryClose { j with state := .queued, idleTimer := none } ∧ JoinsQueue s s.primaryClose j ∧
      s.primaryClose = { s with
        sm := { s.sm with jobs := s.primaryClose.sm.jobs, queue := s.primaryClose.sm.queue }, pe := s.primaryClose.pe }) := by
  have hsrc : j.source = .primary := (openJob?_spec ho).2.2
  obtain ⟨hjob, hbusy, hidle⟩ := closeJob_primary hj hsrc hc
  rw [primaryClose_of ho]
  refine ⟨hbusy, fun hst => ?_, hidle⟩
  rw [hjob hst]
  obtain ⟨hr, -, hq, -⟩ := State.enqueue_spec hj
  exact ⟨hr, hq, State.enqueue_primary hj hsrc⟩

/-- LAST alone removes an empty job. -/
theorem primaryClose_empty (ho : s.openJob? .primary = some j) (hc : j.count = 0) : s.primaryClose = s.removeJob j .empty := by
  rw [primaryClose_of ho, State.closeJob, if_pos hc]

/-- The removal of a job of the primary, with the reply. -/
theorem gives_removeJob (ho : s.openJob? .primary = some j) (e : Ending) (d : Decision) :
    Removed s ((s.removeJob j e).gives x d) j e ∧ AccountsAlone s ((s.removeJob j e).gives x d) ∧
    (s.removeJob j e).gives x d = { s with
      pr := ((s.removeJob j e).gives x d).pr, ti := { s.ti with segA := ((s.removeJob j e).gives x d).ti.segA }
      sd := ((s.removeJob j e).gives x d).sd, sm := ((s.removeJob j e).gives x d).sm, au := ((s.removeJob j e).gives x d).au } := by
  have hsrc : j.source = .primary := (openJob?_spec ho).2.2
  have hf := s.removeJob_frame j e
  rw [State.removeJob_primary hsrc] at hf
  refine ⟨?_, ?_, gives_accounts (hf.trans (by rw [(s.removed_removeJob j e).2.2])) d⟩
  · cases d <;> exact s.removed_removeJob j e
  · cases d <;> exact s.removeJob_accounts j e

/-! ### A text that joins a new job -/

/-- The new job of the primary that LAST closes: its record and its place (R90, R97). -/
theorem enqueue_new {id : Nat} (hid : FreshId s id) :
    let v := (s.withPrimary id).admitText (newJob s id .primary 1 .normal) text
    let k := (newJob s id .primary 1 .normal).admitted s text
    (v.enqueue k).sm.jobs = s.sm.jobs ++ [{ k with state := .queued, idleTimer := none }] ∧ (v.enqueue k).sm.lastId = id ∧
    (v.enqueue k).sm.queue = s.sm.queue ++ [id] := by
  intro v k
  have hjobs : v.sm.jobs = s.sm.jobs ++ [k] := primaryTook_new_jobs hid
  have hlast : v.sm.lastId = id := by
    show ((s.withPrimary id).admitText _ text).sm.lastId = id
    rw [State.admitText_sm]
    rfl
  have hqueue : v.sm.queue = s.sm.queue := by
    show ((s.withPrimary id).admitText _ text).sm.queue = _
    rw [State.admitText_sm]
    rfl
  obtain ⟨w, hw⟩ := v.enqueue_sm k
  have hkid : k.id = id := rfl
  rw [hw]
  refine ⟨?_, hlast, ?_⟩
  · dsimp only
    rw [hjobs, List.map_append, hkid, map_of_fresh hid]
    simp [hkid]
  · dsimp only
    rw [hqueue]
    rfl

theorem admitText_lastId (s : State) (j : Job) (text : List Byte) : (s.admitText j text).sm.lastId = s.sm.lastId := by
  rw [State.admitText_sm]

/-- Settles O38: the verdict by the handling, the port's state and what the primary's submission asks. -/
theorem selectsAreAnsweredAtTheStartPoint : Obligations.SelectsAreAnsweredAtTheStartPoint := by
  intro k m quiet s hpr hreq htx ha hq sends only
  have honly (d : Decision) : only (s.gives k d) := s.gives_frame k d
  have hsends (c : ReplyCode) : sends c (s.gives k (.reply c [])) := s.gives_reply k c []
  cases hh : k.handling with
  | standIn =>
    have hd : s.decideReply k = (.reply .offline [], s) := by unfold State.decideReply; rw [hh]
    exact ⟨_, exec_replyStartPoint hpr htx ha hq hd, fun _ => ⟨hsends _, honly _⟩, nofun, nofun, nofun, fun n => nofun⟩
  | desk n =>
    obtain ⟨haccept, hother⟩ := decideReply_select (s := s) hh hreq
    have hsame (d : Decision) (hd : (s.port n).selectReply k.standIn = d) (hne : ∀ y, d ≠ .reply .accept y) :
        exec (.replyStartPoint quiet) s = .next (s.gives k d) := exec_replyStartPoint hpr htx ha hq (hother d hd hne)
    have hn : ∀ i, Handling.desk n = .desk i → i = n := fun i e => (Handling.desk.inj e).symm
    cases hst : (s.port n).state with
    | online =>
      by_cases hlen : (s.port n).downstream.length < 4
      · have hd : (s.port n).selectReply k.standIn = .reply .accept [] := by simp [Port.selectReply, hst, hlen]
        refine ⟨_, exec_replyStartPoint hpr htx ha hq (haccept hd), nofun, nofun, nofun, nofun, fun i e => ?_⟩
        obtain rfl := hn i e
        refine ⟨fun _ _ => ⟨State.gives_reply .., ?_, fun i hi => ?_, rfl⟩, fun _ h => absurd hlen (by omega), by simp [hst], by simp [hst], by simp [hst]⟩
        · exact State.port_mapPort s i fun p => { p with downstream := p.downstream ++ [m] }.chooseFrame
        · exact State.port_mapPort_of_ne s (fun p => { p with downstream := p.downstream ++ [m] }.chooseFrame) (by simpa using hi)
      · have hd : (s.port n).selectReply k.standIn = .reply .refuse [] := by simp [Port.selectReply, hst, hlen]
        refine ⟨_, hsame _ hd nofun, nofun, nofun, nofun, nofun, fun i e => ?_⟩
        obtain rfl := hn i e
        exact ⟨fun _ h => absurd h hlen, fun _ _ => ⟨hsends _, honly _⟩, by simp [hst], by simp [hst], by simp [hst]⟩
    | detached =>
      have hd : (s.port n).selectReply k.standIn = .reply .refuse [] := by simp [Port.selectReply, hst]
      refine ⟨_, hsame _ hd nofun, nofun, nofun, nofun, nofun, fun i e => ?_⟩
      obtain rfl := hn i e
      exact ⟨by simp [hst], by simp [hst], fun _ => ⟨hsends _, honly _⟩, by simp [hst], by simp [hst]⟩
    | stopping | standby =>
      have hd : (s.port n).selectReply k.standIn = .reply .offline [] := by simp [Port.selectReply, hst]
      refine ⟨_, hsame _ hd nofun, nofun, nofun, nofun, nofun, fun i e => ?_⟩
      obtain rfl := hn i e
      exact ⟨by simp [hst], by simp [hst], by simp [hst], fun _ => ⟨hsends _, honly _⟩, by simp [hst]⟩
    | isolated =>
      have hd : (s.port n).selectReply k.standIn = k.standIn.decision := by simp [Port.selectReply, hst]
      refine ⟨_, hsame _ hd (by cases k.standIn <;> nofun), nofun, nofun, nofun, nofun, fun i e => ?_⟩
      obtain rfl := hn i e
      refine ⟨by simp [hst], by simp [hst], by simp [hst], by simp [hst], fun _ => ⟨?_, honly _⟩⟩
      cases hx : k.standIn with
      | silent => exact ⟨rfl, rfl⟩
      | offline => exact hsends _
  | printer =>
    obtain ⟨hoff, hon⟩ := decideReply_printer (s := s) hh hreq
    by_cases hst : s.pe.state = .disabled
    · exact ⟨_, exec_replyStartPoint hpr htx ha hq (hoff hst), nofun, fun _ _ => ⟨hsends _, honly _⟩,
        fun _ h => absurd hst h, fun _ h => absurd hst h, fun n => nofun⟩
    have hti := submitPrimary_ti s m
    refine ⟨_, exec_replyStartPoint hpr htx ha hq (hon hst), nofun, fun _ h => absurd h hst, fun _ _ => ⟨?_, fun hr => ?_⟩,
      fun _ _ => ?_, fun n => nofun⟩
    · have h := (s.submitPrimary m).2.gives_reply k (if (s.submitPrimary m).1 then .accept else .refuse) []
      rw [hti] at h
      exact h
    · rw [submitPrimary_refused hr]
      exact honly _
    intro own last text accounts selected prints idles
    have hgives {u : State} (hu : s.submitPrimary m = (true, u)) :
        (s.submitPrimary m).2.gives k (.reply (if (s.submitPrimary m).1 then .accept else .refuse) []) = u.gives k (.reply .accept []) := by
      rw [hu]
      rfl
    have hacc {u : State} (hu : s.submitPrimary m = (true, u)) : sends .accept (u.gives k (.reply .accept [])) := by
      have h := u.gives_reply k .accept []
      have hut : u.ti = s.ti := by rw [← hti, hu]
      rw [hut] at h
      exact h
    refine ⟨fun habort => ?_, fun hna htext => ?_, fun hna htext => ?_⟩
    · obtain ⟨h1, h2⟩ := submitPrimary_abort (s := s) habort
      cases ho : s.openJob? .primary with
      | none =>
        rw [hgives (h1 ho)]
        exact ⟨hacc (h1 ho), fun _ => honly _, fun j hj => by simp [own, ho] at hj⟩
      | some j =>
        rw [hgives (h2 j ho)]
        refine ⟨hacc (h2 j ho), fun e => by simp [own, ho] at e, fun i hi => ?_⟩
        obtain rfl := Option.some.inj (ho.symm.trans hi)
        exact gives_removeJob ho .discarded _
    · have hsub : s.submitPrimary m = (true, if m.head? = some 0x10 then s.primaryClose else s) := by
        rw [submitPrimary_text hna, if_pos (show submittedText m = [] from htext)]
        rfl
      rw [hgives hsub]
      refine ⟨hacc hsub, fun hn => ?_, fun j ho hl hc => ?_, fun j ho hl hc hj => ?_⟩
      · have hsame : (if m.head? = some 0x10 then s.primaryClose else s) = s := by
          rcases hn with hn | hn
          · rw [primaryClose_none hn, ite_self]
          · exact if_neg hn
        rw [hsame]
        exact honly _
      · rw [if_pos (show m.head? = some 0x10 from hl), primaryClose_empty ho hc]
        exact gives_removeJob ho .empty _
      · rw [if_pos (show m.head? = some 0x10 from hl)]
        obtain ⟨h1, h2, h3⟩ := primaryClose_own ho hc hj
        refine ⟨fun _ hi hn => h1 hi hn, fun hb => ?_, fun ⟨_, hi, hr, hn⟩ => ?_⟩
        · obtain ⟨⟨hself, hrest, -⟩, hjoin, hf⟩ := h2 hb
          refine ⟨hself, hrest, hjoin, gives_accounts (hf.trans ?_) _, ?_, ?_⟩
          · rw [hf]
          · exact (congrArg State.au hf :)
          · exact (congrArg State.sd hf :)
        · obtain ⟨hsel, hjoin, hf⟩ := h3 hi hr hn
          refine ⟨⟨hsel, gives_prints (hf.trans ?_) _⟩, hjoin, ?_, ?_, ?_, ?_⟩
          · rw [hf]
          · exact (congrArg (fun y : State => y.sm.free) hf :)
          · exact (congrArg (fun y : State => y.sm.memory) hf :)
          · exact (congrArg State.au hf :)
          · exact (congrArg State.sd hf :)
    · have hsub : s.submitPrimary m = (s.primaryAdmit text).elim (false, s)
          fun v => (true, if m.head? = some 0x10 then v.primaryClose else v) := by
        rw [submitPrimary_text hna, if_neg (show submittedText m ≠ [] from htext)]
        rfl
      have hrefuse (hn : s.primaryAdmit text = none) :
          (s.submitPrimary m).2.gives k (.reply (if (s.submitPrimary m).1 then .accept else .refuse) []) =
            s.gives k (.reply .refuse []) := by
        rw [hsub, hn]
        rfl
      have hclose {v : State} (hv : s.primaryAdmit text = some v) (hl : m.head? = some 0x10) :
          s.submitPrimary m = (true, v.primaryClose) := by
        rw [hsub, hv, Option.elim_some, if_pos hl]
      have hopen {v : State} (hv : s.primaryAdmit text = some v) (hl : ¬ m.head? = some 0x10) : s.submitPrimary m = (true, v) := by
        rw [hsub, hv, Option.elim_some, if_neg hl]
      refine ⟨fun ho hr => ?_, fun ho hf => ?_, fun j ho hf => ?_, fun j ho hf hj => ?_, fun ho hr hf => ?_⟩
      · rw [hrefuse ((primaryAdmit_new ho).1 (.inl hr))]
        exact ⟨hsends _, honly _⟩
      · rw [hrefuse ((primaryAdmit_new ho).1 (.inr hf))]
        exact ⟨hsends _, honly _⟩
      · rw [hrefuse ((primaryAdmit_own ho).1 hf)]
        exact ⟨hsends _, honly _⟩
      · have hv := (primaryAdmit_own ho).2 hf
        have htook := primaryTook_own ho hj hf htext
        by_cases hl : m.head? = some 0x10
        · rw [hgives (hclose hv hl)]
          obtain ⟨hjob, hbusy, hidle⟩ := htook.close
          refine ⟨hacc (hclose hv hl), fun _ _ hi hn => hjob hi hn, fun _ hb => ?_, fun _ ⟨_, hi, hr, hn⟩ => ?_, fun h => absurd hl h⟩
          · obtain ⟨henq, htaken, hf⟩ := hbusy hb
            obtain ⟨⟨hself, hrest, -⟩, -, hjoin, -⟩ := State.enqueue_spec htook.record
            rw [← henq] at hself hrest hjoin
            exact ⟨hself, fun i hi => (hrest i hi).trans (htook.rest i hi), htook.joinsQueue hj hjoin, htaken.congr rfl rfl rfl rfl,
              gives_accounts hf _⟩
          · obtain ⟨hsel, hjoin, htaken, -, hf⟩ := hidle hi hr hn
            exact ⟨⟨hsel, gives_prints hf _⟩, htook.joinsQueue hj hjoin, htaken.congr rfl rfl rfl rfl⟩
        · rw [hgives (hopen hv hl)]
          exact ⟨hacc (hopen hv hl), fun h => absurd h hl, fun h => absurd h hl, fun h => absurd h hl, fun _ =>
            ⟨htook.record, htook.rest, htook.queue, htook.taken.congr rfl rfl rfl rfl, gives_accounts htook.frame _⟩⟩
      · obtain ⟨id, hid⟩ : ∃ id, s.freshId = id := ⟨_, rfl⟩
        have hfresh : FreshId s id := hid ▸ freshId_primary hr
        have hv := (primaryAdmit_new ho).2 hr hf
        rw [hid] at hv
        have htook := primaryTook_new hid ho hr hf htext
        have hlast : ((s.withPrimary id).admitText (newJob s id .primary 1 .normal) text).sm.lastId = id := admitText_lastId ..
        obtain ⟨hjobs, hlastId, hqueue⟩ := enqueue_new (text := text) hfresh
        have hjobs' := primaryTook_new_jobs (text := text) hfresh
        generalize (s.withPrimary id).admitText (newJob s id .primary 1 .normal) text = v at hv htook hlast hjobs hlastId hqueue hjobs'
        by_cases hl : m.head? = some 0x10
        · rw [hgives (hclose hv hl)]
          obtain ⟨hjob, hbusy, hidle⟩ := htook.close
          refine ⟨hacc (hclose hv hl), id, hfresh, fun _ _ hi hn => hjob hi hn, fun _ hb => ?_, fun _ ⟨_, hi, hr, hn⟩ => ?_, fun h => absurd hl h⟩
          · obtain ⟨henq, htaken, hf⟩ := hbusy hb
            rw [← henq] at hjobs hlastId hqueue
            exact ⟨hjobs, hlastId, hqueue, htaken.congr rfl rfl rfl rfl, gives_accounts hf _⟩
          · obtain ⟨hsel, hjoin, htaken, hlastId, hf⟩ := hidle hi hr hn
            have hq : v.primaryClose.sm.queue = v.sm.queue ++ [id] := hjoin.1 rfl
            rw [htook.queue] at hq
            exact ⟨⟨hsel, gives_prints hf _⟩, hlastId.trans hlast, hq, htaken.congr rfl rfl rfl rfl⟩
        · rw [hgives (hopen hv hl)]
          exact ⟨hacc (hopen hv hl), id, hfresh, fun h => absurd h hl, fun h => absurd h hl, fun h => absurd h hl, fun _ =>
            ⟨hjobs', hlast, htook.queue, htook.taken.congr rfl rfl rfl rfl, gives_accounts htook.frame _⟩⟩

end Sys2Proof.Machine
end

section
/-! PROOF. Desk print frames: the answer, the frame's effect, and a job that closes at a desk's word (R70, R73, R93 to R96, R100). -/

namespace Sys2Proof.Machine

variable {s t u v : State} {j k : Job} {n : PortNo}

/-! ### The frame and its answer (R70, R73) -/

/-- A port that has answered the frame just completed. -/
def State.done (s : State) (n : PortNo) (x : Response) : State := s.setPort n ((s.port n).answered x)

theorem State.respond_done (s : State) (n : PortNo) (x : Response) : (s.mapPort n Port.endFrame).respond n x = s.done n x :=
  State.mapPort_respond s n Port.endFrame x

theorem CompletesGood.exec_service {c : Byte} {pb sb : Bool} {kind : Byte} {payload : List Byte} (h : CompletesGood s n c pb sb kind payload)
    (hs : (s.port n).state = .online ∨ (s.port n).state = .detached) :
    exec (.frameComplete n c pb sb) s = .next ((s.mapPort n Port.endFrame).goodFrame n kind payload) := by
  obtain ⟨he, hb, hp, hmark, hr, hkind, hlen, hpayload, hsum, hdesk, hsuits⟩ := h
  rw [← hlen, byteOf_toNat, ← hpayload, ← hkind] at hsum
  rw [← hkind] at hdesk hsuits ⊢
  rw [← hlen] at hsuits
  rw [← hpayload]
  exact exec_frameComplete_good he hb hp hs hr hmark hsum hdesk hsuits

/-- The frames of section 5.5: all but MSG and QUERY go to the Spool Manager. -/
theorem goodFrame_print {kind : Byte} (h1 : kind ≠ kindMsg) (h2 : kind ≠ kindQuery) (payload : List Byte) :
    s.goodFrame n kind payload = s.printFrame n kind payload := (if_neg h1).trans (if_neg h2)

/-- A print frame is answered by its verdict, and acts when it is accepted. -/
theorem printFrame_cases (kind : Byte) (payload : List Byte) :
    (s.mappedAddress n = none → (s.mapPort n Port.endFrame).printFrame n kind payload = s.done n (.nak kind .noAddress)) ∧
    ∀ a, s.mappedAddress n = some a →
      (∀ r, s.printRefusal (.desk a) kind payload = some r →
        (s.mapPort n Port.endFrame).printFrame n kind payload = s.done n (.nak kind r)) ∧
      (s.printRefusal (.desk a) kind payload = none →
        (s.mapPort n Port.endFrame).printFrame n kind payload = (s.done n (.ack kind)).printEffect (.desk a) kind payload) := by
  have hmap : (s.mapPort n Port.endFrame).mappedAddress n = s.mappedAddress n := rfl
  have href (a : Address) : (s.mapPort n Port.endFrame).printRefusal (.desk a) kind payload = s.printRefusal (.desk a) kind payload := rfl
  unfold State.printFrame
  rw [hmap]
  refine ⟨fun h => ?_, fun a ha => ⟨fun r h => ?_, fun h => ?_⟩⟩
  · rw [h]
    exact State.respond_done ..
  · rw [ha]
    dsimp only
    rw [href, h]
    exact State.respond_done ..
  · rw [ha]
    dsimp only
    rw [href, h, State.respond_done]

/-! ### A job that closes (R95, R113 to R115) -/

theorem SpoolLaw.job?_eq (h : SpoolLaw s) (hj : j ∈ s.sm.jobs) : s.job? j.id = some j := by
  cases hk : s.job? j.id with
  | none => exact absurd (List.find?_eq_none.mp hk j hj) (by simp)
  | some k => rw [h.eq_of_id hj (job?_mem hk) (job?_id hk)]

/-- The removal of a desk's job, told to the desk. -/
theorem removeJob_desk {src : Source} (hsrc : j.source = src) (e : Ending) :
    Removed s (s.removeJob j e) j e ∧ AccountsAlone s (s.removeJob j e) ∧
    Notified s (s.removeJob j e) src (.printState j.id e.notice 0) ∧
    s.removeJob j e = { s with
      sd := (s.removeJob j e).sd, sm := (s.removeJob j e).sm, ports := (s.removeJob j e).ports, au := (s.removeJob j e).au } := by
  refine ⟨s.removed_removeJob j e, s.removeJob_accounts j e, fun n => ?_, ?_⟩
  · rw [State.port_removeJob, hsrc]
  · conv => lhs; rw [s.removeJob_frame j e]
    rw [(s.removed_removeJob j e).2.2]

end Sys2Proof.Machine
end

section
/-! PROOF. The good frames of section 4.4 but MSG: the obligation (R73, R74, R91 to R100, R106, R123). -/

namespace Sys2Proof.Machine

variable {s t u v : State} {j k : Job} {n : PortNo} {a : Address}

/-! ### PRINT_DATA (R91, R92, R94, R98, R106) -/

theorem heldOf_desk (s : State) (a : Address) : s.heldOf (.desk a) = (s.entry a).held := rfl

theorem quotaOf_desk (s : State) (a : Address) : s.quotaOf (.desk a) = (s.entry a).quota := rfl

theorem printRefusal_data {src : Source} (payload : List Byte) :
    (s.openJob? src = none → s.printRefusal src kindPrintData payload = some .noJob) ∧
    ∀ j, s.openJob? src = some j →
      (s.quotaOf src < s.heldOf src + blocksNeeded j.count payload.length → s.printRefusal src kindPrintData payload = some .quota) ∧
      (s.heldOf src + blocksNeeded j.count payload.length ≤ s.quotaOf src → s.sm.free.length < blocksNeeded j.count payload.length →
        s.printRefusal src kindPrintData payload = some .spoolFull) ∧
      (Fits s src j.count payload.length → s.printRefusal src kindPrintData payload = none) := by
  have hne : kindPrintData ≠ kindPrintOpen ∧ kindPrintData ≠ kindPrintCancel := by decide
  unfold State.printRefusal
  rw [if_neg hne.1, if_neg hne.2]
  refine ⟨fun h => by rw [h], fun j h => ?_⟩
  rw [h]
  dsimp only
  rw [if_pos rfl]
  refine ⟨fun hq => ?_, fun hq hf => ?_, fun hf => ?_⟩
  · rw [State.admission, if_pos hq]
  · rw [State.admission, if_neg (by omega), if_pos hf]
  · rw [admission_iff.mpr hf]

theorem printEffect_data {src : Source} (h : s.openJob? src = some j) (payload : List Byte) :
    s.printEffect src kindPrintData payload = s.admitText j payload := by
  have hne : kindPrintData ≠ kindPrintOpen ∧ kindPrintData ≠ kindPrintCancel := by decide
  unfold State.printEffect
  rw [if_neg hne.1, if_neg hne.2, h]
  exact if_pos rfl

/-- A text that a desk's job takes: the charge of its address, and the Alert Unit (R92, R106). -/
theorem admitText_desk {text : List Byte} (hsrc : j.source = .desk a) :
    (s.admitText j text).entry a = { s.entry a with held := (s.entry a).held + blocksNeeded j.count text.length } ∧
    EntriesKeptBut s (s.admitText j text) [a] := by
  obtain ⟨hentry, hsd⟩ := s.admitText_accounts j text
  have hheld (src : Source) := s.heldOf_admitText j text src
  refine ⟨?_, fun b hb => ?_, ?_⟩
  · rw [hentry a, ← heldOf_desk (s.admitText j text), hheld, hsrc, if_pos rfl, heldOf_desk]
  · have hb' : b ≠ a := by simpa using hb
    rw [hentry b, ← heldOf_desk (s.admitText j text), hheld, hsrc, if_neg (by simpa using hb'), heldOf_desk]
  · have hp : (s.admitText j text).sd.primaryHeld = s.sd.primaryHeld := by
      have h := hheld .primary
      rw [hsrc, if_neg (by simp)] at h
      exact h
    rw [hp] at hsd
    exact hsd

/-- What an accepted PRINT_DATA leaves, beside the port's answer. -/
theorem admitText_spec {text : List Byte} (hs : SpoolLaw s) (ho : s.openJob? (.desk a) = some j)
    (hf : Fits s (.desk a) j.count text.length) :
    let t := s.admitText j text
    t.ports = s.ports ∧ t = { s with sd := t.sd, sm := t.sm, au := t.au } ∧
    t.entry a = { s.entry a with held := (s.entry a).held + blocksNeeded j.count text.length } ∧ EntriesKeptBut s t [a] ∧
    t.sm.queue = s.sm.queue ∧ t.job? j.id = some (j.admitted s text) ∧ (∀ id, id ≠ j.id → t.job? id = s.job? id) ∧
    TextTaken s t j text := by
  obtain ⟨hmem, -, hsrc⟩ := openJob?_spec ho
  obtain ⟨hentry, hentries⟩ := admitText_desk (s := s) (text := text) hsrc
  have hframe := s.admitText_frame j text
  exact ⟨by rw [hframe], hframe, hentry, hentries, by rw [State.admitText_sm], State.job?_admitText_self (hs.job?_eq hmem),
    fun id hid => State.job?_admitText_of_ne hid, State.textTaken_admitText hmem (by rwa [hsrc])⟩

/-- A good PRINT_DATA frame of a mapped desk with an OPEN job. -/
theorem printData_answers (v : Byte) (pb sb : Bool) (he : characterError (s.port n).profile.parity v pb sb = false)
    (hb : (s.port n).inBreak = false) (hp : (s.port n).rx.phase = .check) (hst : (s.port n).state = .online ∨ (s.port n).state = .detached)
    (hr : (s.port n).responses.length < 4) (hm : (s.port n).rx.errorMark = false)
    (hsum : byteSum ((s.port n).rx.kind :: (s.port n).rx.len :: (s.port n).rx.payload) + v = 0) (hk : (s.port n).rx.kind = kindPrintData)
    (h1 : 1 ≤ (s.port n).rx.len.toNat) (h128 : (s.port n).rx.len.toNat ≤ 128) (ha : s.mappedAddress n = some a)
    (ho : s.openJob? (.desk a) = some j) :
    let text := (s.port n).rx.payload
    ((s.entry a).quota < (s.entry a).held + blocksNeeded j.count text.length →
      exec (.frameComplete n v pb sb) s = .next (s.done n (.nak kindPrintData .quota))) ∧
    ((s.entry a).held + blocksNeeded j.count text.length ≤ (s.entry a).quota → s.sm.free.length < blocksNeeded j.count text.length →
      exec (.frameComplete n v pb sb) s = .next (s.done n (.nak kindPrintData .spoolFull))) ∧
    (Fits s (.desk a) j.count text.length →
      exec (.frameComplete n v pb sb) s = .next ((s.done n (.ack kindPrintData)).admitText j text)) := by
  intro text
  have hexec : exec (.frameComplete n v pb sb) s = .next ((s.mapPort n Port.endFrame).printFrame n kindPrintData text) := by
    rw [exec_frameComplete_good he hb hp hst hr hm hsum (by rw [hk]; rfl), hk, goodFrame_print (by decide) (by decide)]
    rw [hk, lenSuits, if_pos (.inr rfl)]
    simp [h1, h128]
  obtain ⟨hnak, hack⟩ := (printFrame_cases (s := s) (n := n) kindPrintData text).2 a ha
  obtain ⟨hquota, hfull, hfits⟩ := (printRefusal_data (s := s) (src := .desk a) text).2 j ho
  rw [hexec]
  refine ⟨fun hq => by rw [hnak _ (hquota hq)], fun hq hf => by rw [hnak _ (hfull hq hf)], fun hf => ?_⟩
  have hown : (s.done n (.ack kindPrintData)).openJob? (.desk a) = some j := ho
  rw [hack (hfits hf), printEffect_data hown]

/-! ### PRINT_OPEN (R93) -/

theorem printRefusal_open {src : Source} (payload : List Byte) :
    (s.pe.state = .disabled → s.printRefusal src kindPrintOpen payload = some .printerOff) ∧
    (s.pe.state ≠ .disabled → s.openJob? src ≠ none → s.printRefusal src kindPrintOpen payload = some .jobOpen) ∧
    (s.pe.state ≠ .disabled → s.openJob? src = none → ¬ RoomFor s src → s.printRefusal src kindPrintOpen payload = some .tableFull) ∧
    (s.pe.state ≠ .disabled → s.openJob? src = none → RoomFor s src → s.printRefusal src kindPrintOpen payload = none) := by
  have href : s.printRefusal src kindPrintOpen payload = s.openRefusal src := if_pos rfl
  rw [href]
  unfold State.openRefusal
  refine ⟨fun h => if_pos h, fun h ho => ?_, fun h ho hr => ?_, fun h ho hr => ?_⟩
  · rw [if_neg h, if_pos (Option.isSome_iff_ne_none.mpr ho)]
  · rw [if_neg h, if_neg (by simp [ho]), if_pos (by simpa using fun e => hr (roomFor_iff.mp e))]
  · rw [if_neg h, if_neg (by simp [ho]), if_neg (by simpa using roomFor_iff.mpr hr)]

/-- A record that opens, with its notice (R87, R93, R100). -/
theorem openJob_spec {src : Source} (hr : RoomFor s src) (copies : Nat) (p : Priority) : ∃ id, FreshId s id ∧
    (s.openJob src copies p).sm = { s.sm with jobs := s.sm.jobs ++ [newJob s id src copies p], lastId := id } ∧
    Notified s (s.openJob src copies p) src (.printState id .opened 0) ∧
    s.openJob src copies p = { s with sm := (s.openJob src copies p).sm, ports := (s.openJob src copies p).ports } := by
  have hfresh : FreshId s s.freshId := freshId_spec (Nat.lt_trans hr.1 (by decide))
  have hopen : s.openJob src copies p = State.notifyJob
      { s with sm := { s.sm with jobs := s.sm.jobs ++ [newJob s s.freshId src copies p], lastId := s.freshId } } src s.freshId .opened 0 := rfl
  generalize s.freshId = id at hfresh hopen
  have hnotified := State.notified_notifyJob
    { s with sm := { s.sm with jobs := s.sm.jobs ++ [newJob s id src copies p], lastId := id } } src id .opened 0
  have hframe := State.notifyJob_frame
    { s with sm := { s.sm with jobs := s.sm.jobs ++ [newJob s id src copies p], lastId := id } } src id .opened 0
  rw [← hopen] at hnotified hframe
  generalize s.openJob src copies p = w at hnotified hframe
  refine ⟨id, hfresh, by rw [hframe], hnotified, ?_⟩
  generalize hw : w.ports = ps at hframe
  rw [hframe]

end Sys2Proof.Machine
end

section
/-! PROOF. PRINT_CLOSE and PRINT_CANCEL, QUERY, and the obligation of section 4.4's frames (R73, R74, R95, R96, R99, R100, R123). -/

namespace Sys2Proof.Machine

variable {s t u v : State} {j k : Job} {n : PortNo} {a : Address}

/-! ### PRINT_CLOSE (R95) -/

theorem print_close {src : Source} (payload : List Byte) :
    (s.openJob? src = none → s.printRefusal src kindPrintClose payload = some .noJob) ∧
    ∀ j, s.openJob? src = some j → s.printRefusal src kindPrintClose payload = none ∧
      s.printEffect src kindPrintClose payload = s.closeJob j := by
  have hne : kindPrintClose ≠ kindPrintOpen ∧ kindPrintClose ≠ kindPrintCancel ∧ kindPrintClose ≠ kindPrintData := by decide
  unfold State.printRefusal State.printEffect
  rw [if_neg hne.1, if_neg hne.1, if_neg hne.2.1, if_neg hne.2.1]
  refine ⟨fun h => by rw [h], fun j h => ?_⟩
  rw [h]
  exact ⟨if_neg hne.2.2, if_neg hne.2.2⟩

/-- What a close leaves of a desk's job, by its text and the engine's state. -/
theorem closeJob_desk (hsrc : j.source = .desk a) :
    (j.count = 0 → Removed s (s.closeJob j) j .empty ∧ AccountsAlone s (s.closeJob j) ∧
      Notified s (s.closeJob j) (.desk a) (.printState j.id .discarded 0) ∧
      s.closeJob j = { s with sd := (s.closeJob j).sd, sm := (s.closeJob j).sm, ports := (s.closeJob j).ports, au := (s.closeJob j).au }) ∧
    (j.count ≠ 0 → s.job? j.id = some j →
      (s.pe.state = .idle → (∀ i ∈ s.sm.jobs, i.state ≠ .queued) → (s.closeJob j).pe.job = some j.id) ∧
      (s.pe.state = .idle → s.pe.ready = true → (∀ i ∈ s.sm.jobs, i.state ≠ .queued) →
        Selected s (s.closeJob j) { j with state := .queued, idleTimer := none } ∧ JoinsQueue s (s.closeJob j) j ∧
        NotifiedSelected s (s.closeJob j) j ∧
        s.closeJob j = { s with sm := { s.sm with jobs := (s.closeJob j).sm.jobs, queue := (s.closeJob j).sm.queue }
                                pe := (s.closeJob j).pe, ports := (s.closeJob j).ports }) ∧
      (s.pe.state ≠ .idle → Requeued s (s.closeJob j) { j with state := .queued, idleTimer := none } ∧ JoinsQueue s (s.closeJob j) j ∧
        Notified s (s.closeJob j) (.desk a) (.printState j.id .queued ((s.closeJob j).queuePosition j.id)))) := by
  refine ⟨fun hc => ?_, fun hc hj => ?_⟩
  · rw [State.closeJob, if_pos hc]
    exact removeJob_desk hsrc .empty
  · rw [State.closeJob, if_neg hc]
    refine ⟨State.offerJobs_enqueue_job hj, notifiedSelected_enqueue hj, fun hst => ?_⟩
    rw [State.offerJobs_of_not_idle (by rw [State.enqueue_pe]; exact hst), ← hsrc]
    obtain ⟨hr, -, hq, hn⟩ := State.enqueue_spec hj
    exact ⟨hr, hq, hn⟩

/-! ### PRINT_CANCEL (R96) -/

/-- The job that a PRINT_CANCEL names: the desk's OPEN one for 0, otherwise the one of that id, when it is the desk's. -/
theorem cancelTarget_iff {src : Source} {c : Byte} :
    s.cancelTarget src c = some j ↔ if c = 0 then s.openJob? src = some j else s.job? c.toNat = some j ∧ j.source = src := by
  unfold State.cancelTarget
  split
  · rfl
  · simp [Option.filter_eq_some_iff]

theorem print_cancel {src : Source} (c : Byte) :
    (s.cancelTarget src c = none → s.printRefusal src kindPrintCancel [c] = some .noJob) ∧
    ∀ j, s.cancelTarget src c = some j → s.printRefusal src kindPrintCancel [c] = none ∧
      s.printEffect src kindPrintCancel [c] = s.cancelJob j := by
  have hne : kindPrintCancel ≠ kindPrintOpen := by decide
  unfold State.printRefusal State.printEffect
  rw [if_neg hne, if_neg hne, if_pos rfl, if_pos rfl]
  refine ⟨fun h => by simp [h], fun j h => ?_⟩
  simp [h]

/-- What a cancel leaves of a desk's job, by its state and the handshake. -/
theorem cancelJob_desk (hsrc : j.source = .desk a) :
    (j.state ≠ .printing → Removed s (s.cancelJob j) j .cancelled ∧ AccountsAlone s (s.cancelJob j) ∧
      Notified s (s.cancelJob j) (.desk a) (.printState j.id .cancelled 0) ∧
      s.cancelJob j = { s with
        sd := (s.cancelJob j).sd, sm := (s.cancelJob j).sm, ports := (s.cancelJob j).ports, au := (s.cancelJob j).au }) ∧
    (j.state = .printing → s.pe.state = .running → s.pe.handshake = .ack →
      s.cancelJob j = { s with pe := { s.pe with stopPending := true } }) ∧
    (j.state = .printing → s.printing? = some j → ¬ (s.pe.state = .running ∧ s.pe.handshake = .ack) →
      (s.cancelJob j).job? j.id = none ∧ (s.cancelJob j).heldOf (.desk a) = s.heldOf (.desk a) - j.chain.length ∧
      JobEnded s (s.cancelJob j) j .cancelled) := by
  refine ⟨fun h => ?_, State.cancelJob_of_ack, fun h hp hack => ?_⟩
  · rw [State.cancelJob_of_not_printing h]
    exact removeJob_desk hsrc .cancelled
  · rw [State.cancelJob_of_printing h hack]
    obtain ⟨hnone, hheld⟩ := State.endJob_removed hp .cancelled
    rw [hsrc] at hheld
    exact ⟨(State.job?_reportEngine ..).trans hnone, (State.heldOf_congr (State.reportEngine_sd ..) _).trans hheld,
      State.jobEnded_endJob hp .cancelled s.pe.handshake s.pe.ackTimer⟩

/-! ### QUERY (R74) -/

theorem goodFrame_query : (s.mapPort n Port.endFrame).goodFrame n kindQuery [] = s.setPort n
    (if (s.port n).state = .online then (s.port n).endFrame.queueNotice (s.linkNotice n) else (s.port n).endFrame) := by
  have hport : (s.mapPort n Port.endFrame).port n = (s.port n).endFrame := State.port_mapPort ..
  have hgood : (s.mapPort n Port.endFrame).goodFrame n kindQuery [] =
      (s.mapPort n Port.endFrame).notify n ((s.mapPort n Port.endFrame).linkState n) := rfl
  rw [hgood]
  by_cases h : (s.port n).state = .online
  · have hst : ((s.mapPort n Port.endFrame).port n).state = .online := by rw [hport]; exact h
    rw [if_pos h, State.linkState_of_online (s := s) hst rfl rfl rfl, State.notify, if_pos hst]
    unfold State.mapPort
    rw [State.port_setPort, State.setPort_setPort]
  · have hst : ((s.mapPort n Port.endFrame).port n).state ≠ .online := by rw [hport]; exact h
    rw [if_neg h, State.notify_of_not_online hst]
    rfl

/-! ### The obligation -/

theorem done_kept (s : State) (n : PortNo) (x : Response) (m : PortNo) :
    (s.done n x).port m = if m = n then (s.port n).answered x else s.port m := by
  by_cases h : m = n
  · subst h
    rw [if_pos rfl]
    exact State.port_setPort ..
  · rw [if_neg h]
    exact State.port_setPort_of_ne _ _ h

/-- Settles O44: PRINT_DATA by the tests of R91, the other frames by the verdict of sections 5.5 to 5.7 and what they do to the job. -/
theorem printDataIsAdmittedWhole : Obligations.PrintDataIsAdmittedWhole := by
  refine ⟨fun n v pb sb a j s => ?_, fun n v pb sb s hst _ => ?_⟩
  · intro p r need responds hs he hb hp hst hr hm hsum hk h1 h128 ha ho _
    obtain ⟨hquota, hfull, hfits⟩ := printData_answers v pb sb he hb hp hst hr hm hsum hk h1 h128 ha ho
    refine ⟨hquota, hfull, fun hq hf => ⟨_, hfits ⟨hq, hf⟩, ?_⟩⟩
    obtain ⟨hports, hframe, hentry, hentries, hqueue, hself, hrest, hfree, -, -, hau, hread, halone⟩ :=
      admitText_spec (s := s.done n (.ack kindPrintData)) (a := a) (j := j) (text := r.payload) (hs.congr rfl fun _ => rfl) ho ⟨hq, hf⟩
    have hport (m : PortNo) := (State.port_congr hports m).trans (done_kept s n (.ack kindPrintData) m)
    generalize (s.done n (.ack kindPrintData)).admitText j r.payload = t at *
    refine ⟨?_, ?_, fun m hm => ?_, hentry, hentries, hfree, hqueue, hself, hrest, hread (hs.congr rfl fun _ => rfl), halone,
      fun h => hau.trans (if_pos h), fun h => hau.trans (if_neg fun e => ?_)⟩
    · rw [hports]
      exact hframe
    · rw [hport, if_pos rfl]
      rfl
    · rw [hport, if_neg (by simpa using hm)]
    · have e1 : s.sm.lowMark ≤ s.sm.free.length := e.1
      have e2 : t.sm.free.length < s.sm.lowMark := e.2
      omega
  · intro p good done naks
    have hprint {kind : Byte} {payload : List Byte} (h1 : kind ≠ kindMsg) (h2 : kind ≠ kindQuery) (hg : good kind payload) :
        exec (.frameComplete n v pb sb) s = .next ((s.mapPort n Port.endFrame).printFrame n kind payload) := by
      rw [hg.exec_service hst, goodFrame_print h1 h2]
    refine ⟨fun hg => ?_, fun kind payload hkind hg ha => ?_, fun a ha => ?_⟩
    · rw [hg.exec_service hst, goodFrame_query]
      rfl
    · have hne : kind ≠ kindMsg ∧ kind ≠ kindQuery := by rcases hkind with e | e | e | e <;> rw [e] <;> decide
      exact (hprint hne.1 hne.2 hg).trans (congrArg _ ((printFrame_cases kind payload).1 ha))
    intro own
    refine ⟨fun payload hg ho => ?_, fun c hg => ?_, fun hg => ?_, fun c hg => ?_⟩
    · exact (hprint (by decide) (by decide) hg).trans
        (congrArg _ (((printFrame_cases _ payload).2 a ha).1 _ ((printRefusal_data payload).1 ho)))
    · obtain ⟨hnak, hack⟩ := (printFrame_cases (s := s) (n := n) kindPrintOpen [c]).2 a ha
      obtain ⟨h1, h2, h3, h4⟩ := printRefusal_open (s := s) (src := .desk a) [c]
      have hexec := hprint (by decide) (by decide) hg
      refine ⟨fun h => hexec.trans (congrArg _ (hnak _ (h1 h))), fun h ho => hexec.trans (congrArg _ (hnak _ (h2 h ho))),
        fun h ho hr => hexec.trans (congrArg _ (hnak _ (h3 h ho hr))), fun h ho hr => ?_⟩
      refine ⟨_, hexec.trans (congrArg _ (hack (h4 h ho hr))), ?_⟩
      obtain ⟨id, hid, hsm, hnotified, hframe⟩ := openJob_spec (s := s.done n (.ack kindPrintOpen)) (src := .desk a) hr
        (copiesOf c) (priorityOf c)
      have heffect : (s.done n (.ack kindPrintOpen)).printEffect (.desk a) kindPrintOpen [c] =
          (s.done n (.ack kindPrintOpen)).openJob (.desk a) (copiesOf c) (priorityOf c) := if_pos rfl
      rw [heffect]
      exact ⟨id, hid, hsm, hnotified, hframe⟩
    · obtain ⟨hnak, hack⟩ := (printFrame_cases (s := s) (n := n) kindPrintClose []).2 a ha
      obtain ⟨hnone, hsome⟩ := print_close (s := s) (src := .desk a) []
      have hexec := hprint (by decide) (by decide) hg
      refine ⟨fun ho => hexec.trans (congrArg _ (hnak _ (hnone ho))), fun j ho => ?_⟩
      obtain ⟨hmem, -, hsrc⟩ := openJob?_spec ho
      have heffect := ((print_close (s := s.done n (.ack kindPrintClose)) (src := .desk a) []).2 j ho).2
      refine ⟨_, hexec.trans (congrArg _ ((hack (hsome j ho).1).trans heffect)), ?_⟩
      obtain ⟨hempty, htext⟩ := closeJob_desk (s := s.done n (.ack kindPrintClose)) hsrc
      refine ⟨hempty, fun hc hs => ?_⟩
      obtain ⟨h1, h2, h3⟩ := htext hc (hs.job?_eq hmem)
      refine ⟨h1, h2, fun hbusy => ?_⟩
      obtain ⟨⟨hself, hrest, hframe⟩, hq, hnotified⟩ := h3 hbusy
      exact ⟨hself, hrest, hq, hnotified, hframe⟩
    · obtain ⟨hnak, hack⟩ := (printFrame_cases (s := s) (n := n) kindPrintCancel [c]).2 a ha
      obtain ⟨hnone, hsome⟩ := print_cancel (s := s) (src := .desk a) c
      have hexec := hprint (by decide) (by decide) hg
      intro names
      have hnames (j : Job) : s.cancelTarget (.desk a) c = some j ↔ names j := cancelTarget_iff
      refine ⟨fun hno => ?_, fun j hj => ?_⟩
      · have ht : s.cancelTarget (.desk a) c = none := Option.eq_none_iff_forall_ne_some.mpr fun j hj => hno j ((hnames j).mp hj)
        exact hexec.trans (congrArg _ (hnak _ (hnone ht)))
      · have ht := (hnames j).mpr hj
        have hmem := cancelTarget_mem ht
        have hsrc : j.source = .desk a := by
          have hn := cancelTarget_iff.mp ht
          split at hn
          exacts [(openJob?_spec hn).2.2, hn.2]
        have heffect := ((print_cancel (s := s.done n (.ack kindPrintCancel)) (src := .desk a) c).2 j ht).2
        refine ⟨_, hexec.trans (congrArg _ ((hack (hsome j ht).1).trans heffect)), ?_⟩
        obtain ⟨h1, h2, h3⟩ := cancelJob_desk (s := s.done n (.ack kindPrintCancel)) hsrc
        exact ⟨h1, h2, fun hp hs hl hb => h3 hp (hl.printing?_eq (hs.job?_eq hmem) hp) hb⟩

end Sys2Proof.Machine
end
